-- ==== Sys2Proof/Word.lean ====
section
/-! DEFINITION. The word types of the device: registers are 32 bits (R8), queue words and AFI
registers 64 bits (R337, R192), memory is read in bytes. -/

namespace Sys2Proof

/-- One byte of a memory or of a line frame. -/
abbrev Byte := BitVec 8
/-- One 32-bit register word (R8). -/
abbrev Reg := BitVec 32
/-- One 64-bit word: a queue word's data (R337), an AFI register (R192), a context word (R171). -/
abbrev Word := BitVec 64

end Sys2Proof
end

