-- ==== Sys2Proof/Syntax.lean ====
section
/-! DEFINITION. The commands of the device: `Instr` has one constructor per row of spec/opcode_table.json, with the row's
operands (what the sender of the command supplies: a register value, a frame, a measurement, the word an engine fetches). -/

namespace Sys2Proof

/-- The words an engine fetches for one AFI instruction (R210, R212): the instruction word, the prefix word before it where
the instruction has one; whether the fetch found an uncorrectable memory error (fault 1 of R216); and what the code check of
the data the instruction reads found: nothing, a corrected error (`some false`) or an uncorrectable one (`some true`). -/
structure AfiWord where
  pfx : Option (BitVec 32)
  w : BitVec 32
  ecc : Bool
  rdErr : Option Bool
deriving DecidableEq, Repr

/-- One tagged queue word (R337): 64 data bits and five tags. -/
structure TWord where
  data : Word
  tag : BitVec 5
deriving DecidableEq, Repr

/-- What the device measures over the tick that ends: the feeds in mV and 10 mA (R125), the twelve corrected sensor
readings in 1/16 °C (R112), the phase error to the active reference in phase units (R59), and whether each reference slot
was present and within the frequency range of R58 without a loss condition (R61, R62); whether every sample of `PAIR_YIELD_IN`
in the tick was low (R423). -/
structure Meas where
  feedAmV : BitVec 16
  feedAcA : BitVec 16
  feedBmV : BitVec 16
  feedBcA : BitVec 16
  temps : List (BitVec 16)
  phErr : BitVec 32
  priOk : Bool
  altOk : Bool
  guardLow : Bool
deriving DecidableEq, Repr

/-- A reference slot of the tick generator (R61). -/
inductive RefSlot where | pri | alt
deriving DecidableEq, Repr
/-- A trip of the crystal monitor (R73). -/
inductive XtalTrip where | start | stop | overdrive
deriving DecidableEq, Repr
/-- A PLL that coasts and locks (R74). -/
inductive Pll where | core | fabric | ddr | quad (q : Fin 4)
deriving DecidableEq, Repr
/-- A power feed (R94). -/
inductive Feed where | a | b
deriving DecidableEq, Repr
/-- What declared a feed lost (R96): undervoltage, overvoltage, overcurrent. -/
inductive FeedTrip where | uv | ov | oc
deriving DecidableEq, Repr

/-- One access to register space (R132, R133): the address, the write or read, the number of bytes, the byte enables of the
first 32-bit word, the master (R151) and the value written. -/
structure Access where
  addr : BitVec 27
  write : Bool
  bytes : Nat
  be : BitVec 4
  master : Fin 13
  value : Word
deriving DecidableEq, Repr

/-- A block with a commit register (R140). -/
inductive CommitBlock where
  | clk | pwr | tile (n : Fin 8) | lin | defects | map | que | vox | prt | hal
deriving DecidableEq, Repr

/-- One corrupted stored bit (R141): the register's key, the bit, and whether it lies in the in-force copy of an F field. -/
structure ParityFlip where
  key : Nat
  bit : Fin 32
  inForce : Bool
deriving DecidableEq, Repr

/-- A transmitter with an elastic store (R263, R267). -/
inductive TxPort where | lane (l : Fin 16) | dp (d : Fin 32)
deriving DecidableEq, Repr

/-- A discovery message (R273): its four queue words. -/
structure DiscMsg where
  w0 : Word
  w1 : Word
  w2 : Word
  w3 : Word
deriving DecidableEq, Repr

/-- A pointer adjustment of a pass-through slot (R318). -/
inductive PtAdjust where | inc | dec | recentre
deriving DecidableEq, Repr
/-- Which copy of a watermark bit software clears (R357): the queue's own sticky register or the block-wide word. -/
inductive WmTarget where | sticky | wide (k : Fin 1024)
deriving DecidableEq, Repr

/-- One received voice frame (R383, R386): the time of its frame sync at the balls in TS64 form (R389), its slot samples, and
whether the frame sync that ends it came where it was due. -/
structure VoiceFrame where
  start : Word
  samples : List (BitVec 32)
  fsOk : Bool
deriving DecidableEq, Repr

/-- A pair heartbeat (R414). -/
structure Heartbeat where
  tick : Nat
  state : Fin 8
  pref : Bool
  qualified : Bool
  pennant : Bool
  burgee : Word
  jseq : BitVec 32
deriving DecidableEq, Repr

/-- The units of one source in a ledger (R416): the source by its number (a lane, 16 + a direct port, 48 + a bundle, 2048 + a
voice port), the count of its units stamped with the tick, and bits [15:0] of the FCS of each frame of an Ethernet lane. -/
structure LedgerEntry where
  src : Nat
  count : Nat
  fcs : List (BitVec 16)
deriving DecidableEq, Repr

/-- A ledger message (R416): for each source the units that the active stamped with the tick. -/
structure LedgerMsg where
  tick : Nat
  entries : List LedgerEntry
deriving DecidableEq, Repr

/-- One journal entry (R418, R419): a register write, or a mailbox command with the central SRAM bytes that it references, and
the tick boundary at which both units apply it. -/
inductive JEntry where
  | reg (addr : BitVec 27) (value : Reg) (at_ : Nat)
  | cmd (opcode : Byte) (args : List Reg) (sram : List (Nat × List Byte)) (at_ : Nat)
deriving DecidableEq, Repr

/-- One digest of a check unit (R421): unit, tick, final value, incomplete. -/
structure DigestEntry where
  unit : Fin 256
  tick : Nat
  value : Word
  incomplete : Bool
deriving DecidableEq, Repr

/-- One part of what a joining unit receives (R430, R431): a register word, stored or in force; bytes of an image in program
memory or tile SRAM, or of central SRAM; a loaded image; a channel entry's words; a hoist by the bytes of its descriptor; a
hoist's local data window; a queue's words with their arrival ticks and its `in` cursor's position; a check unit's running
value and the entries of its digest ring (index, tick, value, flags); a selector's selection, wait-to-restore, counts and hold
region; the end of the transfer. -/
inductive SnapPart where
  | reg (addr : BitVec 27) (value : Reg) (inForce : Bool)
  | prog (tile : Fin 8) (addr : Nat) (bs : List Byte)
  | tileMem (tile : Fin 8) (addr : Nat) (bs : List Byte)
  | sram (addr : Nat) (bs : List Byte)
  | image (tile : Fin 8) (id base codeWords constOff constWords faultEntry classes : Nat)
  | chan (c : Fin 16384) (ws : List Word)
  | hoist (desc : List Byte)
  | locals (k : Fin 1536) (bs : List Byte)
  | queue (q : Fin 32768) (ws : List (TWord × Nat)) (bit : Nat)
  | unit (n : Fin 256) (run : Word) (ring : List (Nat × Nat × Word × Nat))
  | selector (n : Fin 4096) (p : Bool) (wtr : Option Nat) (runs : List Nat) (hold : Option (List TWord))
  | last
deriving DecidableEq, Repr

/-- A halyard frame (R439, R440): the port, the Ethernet header's Ethertype and VLAN identifier, the halyard header's fields,
and the payload words. -/
structure HalFrame where
  port : Fin 2
  etype : BitVec 16
  vid : Option (BitVec 12)
  ty : Byte
  seq : BitVec 32
  src : Word
  dst : Word
  srcAddr : BitVec 14
  dstAddr : BitVec 14
  bcast : Bool
  payload : List Word
deriving DecidableEq, Repr

/-- A partner (R458): a line discovery entry, a halyard member or manager, the pair peer, the host mailbox. -/
inductive Partner where
  | line (k : Fin 64) | manager | member (m : Fin 128) | pair | host
deriving DecidableEq, Repr

/-- Why the recorder's drive is lost (R485). -/
inductive DriveFault where | timeout | removed | error
deriving DecidableEq, Repr
/-- Why a DDR channel is lost (R510). -/
inductive DdrLoss where | coast | uncorrectable | command
deriving DecidableEq, Repr

/-- The straps sampled at a reset (R518). -/
structure Straps where
  xinSel : BitVec 2
  bootMode : BitVec 2
  pairPref : Bool
deriving DecidableEq, Repr

/-- A slot of the NOR that holds a boot image (R502); the host's image is `BOOT_LOAD`'s. -/
inductive BootSource where | norA | norB
deriving DecidableEq, Repr

/-- The commands: one constructor per row of the opcode table; the docstring gives the row's mnemonic, rule and summary. -/
inductive Instr where
  /-- TICK_BOUNDARY (R52): The tick generator's XIN count reaches the tick ratio, FTC increases by one and every block observes the new tick. -/
  | tickBoundary (m : Meas)
  /-- SUPER_TICK_BOUNDARY (R10): A tick boundary with N mod 16 = 0 is reached; image loads, hoist moves, drains and other super-tick effects apply. -/
  | superTickBoundary
  /-- CREDIT_SHORT_EXPIRY (R109): The credit has been short in 4 consecutive runs, causing Pennant Mode entry with cause CREDIT. -/
  | creditShortExpiry
  /-- CREDIT_CAUSE_CLEAR (R113): The credit has not been short for 64 consecutive ticks, so cause CREDIT stops holding. -/
  | creditCauseClear
  /-- PENNANT_MODE_START (R114): At boundary E, schedulers admit only S and emergency V hoists and other channels release substitute content. -/
  | pennantModeStart
  /-- PENNANT_PLACEMENT_MOVE (R114): At the first super-tick boundary from E, S and emergency V hoists move to keeper engines and non-partition domains are gated. -/
  | pennantPlacementMove
  /-- PENNANT_ENTER_CMD (R113): Software writes 1 to PWR_PENNANT_CTRL.ENTER, giving cause COMMAND. -/
  | pennantEnterCmd (v : Reg)
  /-- PENNANT_EXIT (R117): Software writes 1 to EXIT; the request is accepted only with no active cause, and gated domains are powered up. -/
  | pennantExit (v : Reg)
  /-- PENNANT_EXIT_COMPLETE (R117): At super-tick boundary X after all domains are ON, hoists return to normal placement and Pennant Mode ends. -/
  | pennantExitComplete
  /-- RELEASE_SAMPLE (R33): At tick N+L the release stage samples a release queue and releases the output for tick N or substitute content. -/
  | releaseSample (c : Fin 16384)
  /-- STREAM_BEAT (R17): A beat passes through the stream fabric and is delivered to each sink of its SID in order. -/
  | streamBeat (sid : Fin 16384) (line : Bool) (ws : List TWord)
  /-- TICK_CLOSE_MARKER (R28): A tick-close marker reaches a gated queue and the gate tick advances; snoop-tick units close their entry. -/
  | tickCloseMarker (sid : Fin 16384)
  /-- GATE_DEADLINE (R30): The gate deadline for tick N passes without a marker; the gate advances and the tick is ingress-incomplete. -/
  | gateDeadline (q : Fin 32768)
  /-- THREAD_READY (R196): A thread becomes ready for work tick W+1 and resets its registers, predicates, stack, hx and pc. -/
  | threadReady (k : Fin 1536)
  /-- GATE_STALL_END (R29): An engine access stalled beyond the gate resumes when the gate advances. -/
  | gateStallEnd (k : Fin 1536)
  /-- CONTEXT_REFILL (R179): A context cache miss completes: a victim is written back if dirty and the entry is filled. -/
  | contextRefill (tile : Fin 8) (c : Fin 16384)
  /-- ADD (R230): rd := ra + b. -/
  | add (k : Fin 1536) (w : AfiWord)
  /-- SUB (R230): rd := ra − b. -/
  | sub (k : Fin 1536) (w : AfiWord)
  /-- AND (R230): rd := ra AND b. -/
  | and (k : Fin 1536) (w : AfiWord)
  /-- OR (R230): rd := ra OR b. -/
  | or (k : Fin 1536) (w : AfiWord)
  /-- XOR (R230): rd := ra XOR b. -/
  | xor (k : Fin 1536) (w : AfiWord)
  /-- MIN (R230): rd := the unsigned minimum of ra and b. -/
  | min (k : Fin 1536) (w : AfiWord)
  /-- MAX (R230): rd := the unsigned maximum of ra and b. -/
  | max (k : Fin 1536) (w : AfiWord)
  /-- ADDS (R230): rd := unsigned saturating sum of ra and b. -/
  | adds (k : Fin 1536) (w : AfiWord)
  /-- MIN_S (R230): rd := the signed minimum of ra and b. -/
  | minS (k : Fin 1536) (w : AfiWord)
  /-- MAX_S (R230): rd := the signed maximum of ra and b. -/
  | maxS (k : Fin 1536) (w : AfiWord)
  /-- ADDS_S (R230): rd := signed saturating sum of ra and b. -/
  | addsS (k : Fin 1536) (w : AfiWord)
  /-- EXT (R232): Extracts a bit field of width w at pos from ra. -/
  | ext (k : Fin 1536) (w : AfiWord)
  /-- INS (R232): Inserts the low w bits of ra into rd at pos. -/
  | ins (k : Fin 1536) (w : AfiWord)
  /-- ROT (R232): Rotates ra left by n bits. -/
  | rot (k : Fin 1536) (w : AfiWord)
  /-- POPC (R232): rd := number of 1 bits in ra. -/
  | popc (k : Fin 1536) (w : AfiWord)
  /-- CLZ (R232): rd := number of leading 0 bits of ra. -/
  | clz (k : Fin 1536) (w : AfiWord)
  /-- GET (R233): Reads n bits of the view at the in cursor into rd and advances the cursor. -/
  | get (k : Fin 1536) (w : AfiWord)
  /-- PEEK (R233): Reads n bits of the view at the in cursor without moving it. -/
  | peek (k : Fin 1536) (w : AfiWord)
  /-- PUT (R207): Appends the low n bits of a register to the release queue through the out cursor. -/
  | put (k : Fin 1536) (w : AfiWord)
  /-- SKIP (R233): Advances the in cursor by n bits. -/
  | skip (k : Fin 1536) (w : AfiWord)
  /-- ALIGN (R234): Moves the in or out cursor to an n-bit boundary of the queue word. -/
  | align (k : Fin 1536) (w : AfiWord)
  /-- HUNT (R235): Searches w positions for a masked pattern and returns a candidate bitmap. -/
  | hunt (k : Fin 1536) (w : AfiWord)
  /-- MATCH (R236): Counts masked bits that differ from a pattern at one offset. -/
  | matchBits (k : Fin 1536) (w : AfiWord)
  /-- CMP (R237): Compares ra with b and writes or combines the result into a predicate. -/
  | cmp (k : Fin 1536) (w : AfiWord)
  /-- TST (R237): Tests ra AND b for any or none and writes a predicate. -/
  | tst (k : Fin 1536) (w : AfiWord)
  /-- BR (R238): Branches to a pc-relative target. -/
  | br (k : Fin 1536) (w : AfiWord)
  /-- CALL (R238): Pushes the return address and branches. -/
  | call (k : Fin 1536) (w : AfiWord)
  /-- RET (R238): Pops a return address into pc. -/
  | ret (k : Fin 1536) (w : AfiWord)
  /-- YIELD (R200): Makes the thread not ready until the next tick boundary. -/
  | yield (k : Fin 1536) (w : AfiWord)
  /-- WAITT (R199): Ends the work tick; unreported members have no output for it. -/
  | waitt (k : Fin 1536) (w : AfiWord)
  /-- HALT (R201): Stops the thread and records fault HALTED. -/
  | halt (k : Fin 1536) (w : AfiWord)
  /-- LDC (R239): Loads one 64-bit word from a context, local, scratch or constants space. -/
  | ldc (k : Fin 1536) (w : AfiWord)
  /-- STC (R239): Stores one 64-bit word to context, local or scratch space. -/
  | stc (k : Fin 1536) (w : AfiWord)
  /-- NEXTC (R197): Flushes out, writes the member's end-of-tick marker and LAST_DONE, and advances to the next member. -/
  | nextc (k : Fin 1536) (w : AfiWord)
  /-- ENQ (R241): Writes one whole tagged word to rel, aux0 or aux1. -/
  | enq (k : Fin 1536) (w : AfiWord)
  /-- DEQ (R242): Takes the next whole word of the view, or the substitute word when empty. -/
  | deq (k : Fin 1536) (w : AfiWord)
  /-- QSTAT (R243): Returns the selected view status of a queue slot. -/
  | qstat (k : Fin 1536) (w : AfiWord)
  /-- PTRI (R245): Classifies a pointer word against the accepted pointer. -/
  | ptri (k : Fin 1536) (w : AfiWord)
  /-- BIPA (R246): Folds bytes of ra into a running BIP-2 or BIP-8. -/
  | bipa (k : Fin 1536) (w : AfiWord)
  /-- CMPD (R247): Expands or compresses four G.711 samples. -/
  | cmpd (k : Fin 1536) (w : AfiWord)
  /-- ILV (R248): Interleaves N blocks into one byte-interleaved string in scratch. -/
  | ilv (k : Fin 1536) (w : AfiWord)
  /-- DILV (R248): Deinterleaves a byte-interleaved string into N blocks in scratch. -/
  | dilv (k : Fin 1536) (w : AfiWord)
  /-- CKF_RESET (R249): Sets the check unit's running value to its initial value. -/
  | ckfReset (k : Fin 1536) (w : AfiWord)
  /-- CKF_PREFIX (R249): Folds a prefix word into the check unit. -/
  | ckfPrefix (k : Fin 1536) (w : AfiWord)
  /-- CKF_FEED (R249): Feeds n bits of a register into the check unit. -/
  | ckfFeed (k : Fin 1536) (w : AfiWord)
  /-- CKF_SUFFIX (R249): Folds a suffix word into the check unit. -/
  | ckfSuffix (k : Fin 1536) (w : AfiWord)
  /-- CKF_READ (R249): Returns the check unit's final value. -/
  | ckfRead (k : Fin 1536) (w : AfiWord)
  /-- CKF_CHECK (R249): Compares the final value with a register and writes a predicate. -/
  | ckfCheck (k : Fin 1536) (w : AfiWord)
  /-- RAISE (R251): Queues one event record stamped with work tick W at phase 0. -/
  | raise (k : Fin 1536) (w : AfiWord)
  /-- PEN (R252): Updates pennant bits [32:0] under a mask. -/
  | pen (k : Fin 1536) (w : AfiWord)
  /-- TICK_WORK (R253): rd := W × 8,192. -/
  | tickWork (k : Fin 1536) (w : AfiWord)
  /-- TICK_REF (R253): Returns W × 8,192 and reports a frame start for a LINE reference. -/
  | tickRef (k : Fin 1536) (w : AfiWord)
  /-- TICK_LIVE (R253): Returns the live TS64; B hoists only. -/
  | tickLive (k : Fin 1536) (w : AfiWord)
  /-- CLASS (R254): Returns a configuration fact selected by sel. -/
  | classify (k : Fin 1536) (w : AfiWord)
  /-- FTC_SNAP (R56): A write of 1 to CLK_FTC_SNAP.GO captures a TS64 into the snapshot registers. -/
  | ftcSnap (v : Reg)
  /-- FTC_ENABLE (R57): Setting CLK_FTC_CTRL.ENABLE starts the tick count at CLK_FTC_SET with phase 0. -/
  | ftcEnable (v : Reg)
  /-- REFERENCE_LOSS (R61): A reference meets its loss condition and is declared lost in that tick. -/
  | referenceLoss (sl : RefSlot)
  /-- REFERENCE_SWITCH (R62): At the next tick boundary the generator moves to the other qualified slot or enters HOLDOVER. -/
  | referenceSwitch
  /-- REFERENCE_QUALIFY (R62): A reference has been present for QUAL × 1,024 ticks within range and qualifies. -/
  | referenceQualify (sl : RefSlot)
  /-- REVERT_WAIT_EXPIRY (R63): A requalified primary has held WTR × 1,024 ticks and becomes active again. -/
  | revertWaitExpiry
  /-- ACQUIRE_LOCK (R59): Phase error stays within ±8 units for 64 ticks and the generator enters LOCKED. -/
  | acquireLock
  /-- ITO_QUALIFY (R69): Four consecutive ITO windows count in range; the ITO is qualified and its trim applied. -/
  | itoQualify
  /-- XIN_WINDOW (R70): A 65,536-ITO-cycle window ends; the XIN count is judged for qualification or loss. -/
  | xinWindow (count : Nat)
  /-- XIN_QUALIFY_TIMEOUT (R71): XIN is not qualified within 64 windows and CLKFAIL is asserted. -/
  | xinQualifyTimeout
  /-- CRYSTAL_MONITOR_TRIP (R73): The crystal monitor trips on start failure, stop or overdrive. -/
  | crystalMonitorTrip (why : XtalTrip)
  /-- CLOCK_RETRY (R73): The backoff after a crystal monitor trip ends and the ITO and oscillator driver restart. -/
  | clockRetry
  /-- PLL_COAST (R76): A PLL loses input or lock; its domains switch to the floor clock. -/
  | pllCoast (p : Pll)
  /-- PLL_RESTORE (R76): A PLL has held lock for 1,024 ticks and its domains switch back. -/
  | pllRestore (p : Pll)
  /-- DOMAIN_SWITCH_REQUEST (R78): A write of CLK_DOMSW_CTRL.GO requests a clock-domain switch, or is rejected. -/
  | domainSwitchRequest (v : Reg)
  /-- DOMAIN_SWITCH_DONE (R78): The glitch-free multiplexer completes a clock-domain source change. -/
  | domainSwitchDone (d : Fin 11)
  /-- DOMAIN_SWITCH_FORCE (R79): A switch has not completed within 64 ITO cycles and the supervisor forces it. -/
  | domainSwitchForce (d : Fin 11)
  /-- FORCED_DOMAIN_RESUME (R79): A force-switched clock domain resumes work at the next tick boundary. -/
  | forcedDomainResume (d : Fin 11)
  /-- FM_START (R84): START arms a frequency meter, abandoning any running measurement. -/
  | fmStart (n : Fin 32) (v : Reg)
  /-- FM_GATE_CLOSE (R84): A meter gate closes and the result crosses to the register. -/
  | fmGateClose (n : Fin 32) (count : Nat)
  /-- FM_TIMEOUT (R85): A meter gate has not closed within 2^26 ITO cycles and ends with TIMEOUT. -/
  | fmTimeout (n : Fin 32) (count : Nat)
  /-- FEED_LOST (R97): A feed monitor declares a feed lost; T and B issue stops, the feed cap falls and supervisors may switch. -/
  | feedLost (f : Feed) (why : FeedTrip)
  /-- FEED_RESTORED (R96): A lost feed has stayed in range for 100 ms; its diode stage closes and the cap returns. -/
  | feedRestored (f : Feed)
  /-- FEED_RETRY (R96): Software writes RETRY_x to allow a feed opened for overcurrent to be restored. -/
  | feedRetry (v : Reg)
  /-- SUPERVISOR_RELOAD (R101): At the reload boundary a supervisor is reloaded from the active one and becomes standby. -/
  | supervisorReload
  /-- SUPERVISOR_MISMATCH (R102): The supervisors' outputs differ; each checks itself and the table of R102 decides. -/
  | supervisorMismatch (activeOk standbyOk : Bool)
  /-- PWR_DOM_ON (R104): A request powers a domain up, or cancels its drain. -/
  | pwrDomOn (n : Fin 162) (v : Reg)
  /-- PWR_DOM_OFF (R104): A request puts a domain into DRAINING or is rejected. -/
  | pwrDomOff (n : Fin 162) (v : Reg)
  /-- DOMAIN_POWERED (R104): A POWERING domain reaches ON and reinitialises. -/
  | domainPowered (n : Fin 162)
  /-- KEEPER_SET_WRITE (R106): An H write to PWR_KEEPER_SET changes the keeper set at the next super-tick, or is rejected. -/
  | keeperSetWrite (v : Reg)
  /-- AGING_MEASURE (R118): Every 2^20 ticks the aging oscillators are measured and a warning raised past threshold. -/
  | agingMeasure (slow : List (BitVec 20))
  /-- ENGINE_RETIRE (R119): Software writes PWR_RETIRE.GO to request retirement of an engine. -/
  | engineRetire (v : Reg)
  /-- RETIRE_ACT (R119): At the super-tick boundary the supervisor moves and admits the engine's hoists and powers it down, or rejects. -/
  | retireAct
  /-- CAL_PROGRAM (R123): KEY then PROGRAM starts programming the staged calibration page, or is refused. -/
  | calProgram (v : Reg)
  /-- CAL_PROGRAM_DONE (R123): MTP programming completes and CAL_STATUS.RESULT is set. -/
  | calProgramDone (ok : Bool)
  /-- REGISTER_WRITE (R136): A plain write to a register with no row of its own, judged under access, type and commit rules. -/
  | registerWrite (a : Access)
  /-- SET_ALIAS_WRITE (R137): A write through the set alias sets each 1 bit of RW fields in one read-modify-write. -/
  | setAliasWrite (a : Access)
  /-- CLEAR_ALIAS_WRITE (R137): A write through the clear alias clears each 1 bit of RW fields. -/
  | clearAliasWrite (a : Access)
  /-- TOGGLE_ALIAS_WRITE (R137): A write through the toggle alias inverts each 1 bit of RW fields. -/
  | toggleAliasWrite (a : Access)
  /-- COMMIT_GO (R140): A write of 1 to a block's commit GO arms a commit of its F shadows at the next tick boundary. -/
  | commitGo (b : CommitBlock) (v : Reg)
  /-- SRAM_WINDOW_WRITE (R130): A host write to the central SRAM window, accepted or rejected when locked or unpowered. -/
  | sramWindowWrite (off : BitVec 26) (bs : List (Option Byte))
  /-- SCRUB_PASS (R142): Every millisecond the scrubber reads every configuration register and checks its parity. -/
  | scrubPass (flips : List ParityFlip)
  /-- PARITY_CLEAR (R144): Writing 1 to BUS_PAR_STATUS.PENDING clears the parity state and ends any HOLD freeze. -/
  | parityClear (v : Reg)
  /-- MBOX_SUBMIT (R147): SUBMIT on an EMPTY slot accepts its command at the dip with a sequence number. -/
  | mboxSubmit (slot : Fin 16) (v : Reg)
  /-- MBOX_RELEASE (R147): RELEASE on a close up slot returns it to EMPTY. -/
  | mboxRelease (slot : Fin 16) (v : Reg)
  /-- NOP (R150): Mailbox command 0x00: no action. -/
  | nop
  /-- IDENTIFY (R150): Mailbox command 0x01 returns the burgee and SUP_ID. -/
  | identify
  /-- UNKNOWN_COMMAND (R150): An unassigned command code closes up with UNKNOWN_COMMAND. -/
  | unknownCommand
  /-- IMAGE_LOAD (R221): Verifies an AFI image and loads it into the tiles of the mask at the next super-tick. -/
  | imageLoad
  /-- IMAGE_UNLOAD (R221): Unloads an image from the tiles of a mask at the next super-tick. -/
  | imageUnload
  /-- IMAGE_QUERY (R221): Returns the load address, size and constant offset of an image in a tile. -/
  | imageQuery
  /-- HOIST_REIMAGE (R221): Writes a new ENTRY and IMAGE into every member of a hoist at the next super-tick. -/
  | hoistReimage
  /-- BOOT_LOAD (R507): Verifies a host-loaded boot image in WAIT_HOST and continues start-up. -/
  | bootLoad
  /-- TABLE_LOAD (R507): Loads channel-table entries from staging. -/
  | tableLoad
  /-- TABLE_CLEAR (R507): Writes 0 to the whole channel table. -/
  | tableClear
  /-- DEVICE_RESET (R507): Closes up and resets the device 1 ms later. -/
  | deviceReset
  /-- BOOT_KEY_PROGRAM (R505): Verifies a staged boot image and fuses its key hash into key slot 1. -/
  | bootKeyProgram
  /-- HOIST_LOAD (R184): Admits a hoist and loads it at the first super-tick with admission passed and pinned members resident. -/
  | hoistLoad
  /-- HOIST_UNLOAD (R184): Unloads a hoist at the next super-tick boundary. -/
  | hoistUnload
  /-- CHAN_COMMIT (R184): Commits staged words of a channel entry at the channel's next tick boundary. -/
  | chanCommit
  /-- PENNANT_CLEAR (R184): Clears sticky pennant bits and BREACH_TICKS at the channel's next tick boundary. -/
  | pennantClear
  /-- TWIN_SET (R188): Sets up twin execution on two channels and binds their check units at the next super-tick. -/
  | twinSet
  /-- TWIN_CLEAR (R184): Ends twin execution, leaving both copies single channels. -/
  | twinClear
  /-- HOIST_MOVE (R184): Moves a hoist to a new HOME and PENNANT_AT at a super-tick where admission passes. -/
  | hoistMove
  /-- CTX_FLUSH (R184): Writes back every dirty context-cache entry. -/
  | ctxFlush
  /-- PAIR_START (R426): Moves a unit from OFF to STARTING. -/
  | pairStart
  /-- PAIR_YIELD (R429): Starts a planned yield to a qualified standby. -/
  | pairYield
  /-- PAIR_RESYNC (R434): Restarts the join of a standby from JOIN_STATE or JOIN_CONFIG. -/
  | pairResync
  /-- PAIR_STOP (R434): Moves a non-active unit to STOPPED. -/
  | pairStop
  /-- HAL_JOIN_OPEN (R456): Sets whether the manager admits new members. -/
  | halJoinOpen
  /-- HAL_RELEASE (R448): Sends RELEASE to a member and sets its entry ABSENT. -/
  | halRelease
  /-- HAL_SEND_CMD (R456): Sends a COMMAND frame to a member and returns its remote result. -/
  | halSendCmd
  /-- HAL_REG_WRITE (R456): Sends register write pairs to a member and returns the count applied. -/
  | halRegWrite
  /-- HAL_IMAGE_PUSH (R454): Pushes an image to selected members as IMAGE_CHUNK frames. -/
  | halImagePush
  /-- HAL_LEAVE (R448): Sends LEAVE from a member to its manager. -/
  | halLeave
  /-- HAL_QUAR_CLEAR (R461): Ends the quarantine of a partner. -/
  | halQuarClear
  /-- REC_START (R486): Initialises the drive and starts a recording session with a START record. -/
  | recStart
  /-- REC_STOP (R486): Writes and flushes staged records and returns the recorder to IDLE. -/
  | recStop
  /-- REC_FLUSH (R486): Issues Flush and returns REC_DURABLE_SEQ. -/
  | recFlush
  /-- REC_READ (R486): Reads blocks from the drive into central SRAM. -/
  | recRead
  /-- BUS_HOLD_RELEASE (R154): The conflict holding a bus request clears and it enters arbitration. -/
  | busHoldRelease (m : Fin 13)
  /-- MASTER_DRAIN_COMPLETE (R157): A reset master's outstanding transactions have drained and its port is released. -/
  | masterDrainComplete (m : Fin 13)
  /-- CTX_READ (R191): CTX_RD_SEL.GO snapshots a channel's 64-byte header into CTX_RD_HDRw. -/
  | ctxRead (v : Reg)
  /-- TILE_DISABLE (R165): A write clearing TILEn_CTRL.ENABLE, refused while a hoist is loaded on the tile. -/
  | tileDisable (n : Fin 8) (v : Reg)
  /-- LANE_ENABLE (R257): A lane enable checked against family and aggregate limits. -/
  | laneEnable (l : Fin 16) (v : Reg)
  /-- ETHERNET_FRAME_RECEIVE (R262): The MAC receives a frame, checks it and delivers it by VLAN table, untagged SID or to the discovery agent. -/
  | ethernetFrameReceive (l : Fin 16) (bytes : List Byte)
  /-- TX_UNDERRUN (R263): A transmitter's elastic store runs empty and it sends all-ones or idle. -/
  | txUnderrun (t : TxPort)
  /-- TX_OVERRUN (R263): Released data exceeds the elastic store and the excess is discarded. -/
  | txOverrun (t : TxPort)
  /-- BUNDLE_FRAME_RECEIVE (R266): A receive bundle frame is aligned and its slots delivered as tributary streams. -/
  | bundleFrameReceive (b : Fin 8) (bytes : List Byte)
  /-- BUNDLE_FRAME_TRANSMIT (R264): 1.0 µs after each tick boundary a bundle transmit frame starts, filled from released data. -/
  | bundleFrameTransmit (b : Fin 8) (status : Byte) (mgmt : List Byte) (slots : List (List Bool))
  /-- LANE_LOCK_LOSS (R271): A lane loses CDR or PCS lock and stops delivering bits. -/
  | laneLockLoss (l : Fin 16)
  /-- LANE_LOCK_REGAIN (R271): A lane has held lock for 1 µs and resumes delivery. -/
  | laneLockRegain (l : Fin 16)
  /-- DP_CLOCK_STOP (R272): No D_RXCn edge for 4 bit periods; the clock stop is declared. -/
  | dpClockStop (d : Fin 32)
  /-- DP_CLOCK_RETURN (R272): 16 edges within tolerance mark the direct-port clock present again. -/
  | dpClockReturn (d : Fin 32)
  /-- DP_CLOCK_GLITCH (R272): An edge too soon after the previous one discards its bit and sets GLITCH. -/
  | dpClockGlitch (d : Fin 32)
  /-- DP_RATE_WINDOW (R272): A RATE_WIN window ends and the edge count is judged against tolerance. -/
  | dpRateWindow (d : Fin 32) (edges : Nat)
  /-- DISCOVERY_HAIL_TIMER (R274): Every HAIL_PER super-ticks the discovery agent sends a hail. -/
  | discoveryHailTimer
  /-- LINE_HAIL (R275): A discovery hail is received, checked and answered. -/
  | lineHail (k : Fin 64) (m : DiscMsg)
  /-- LINE_ANSWERING_PENNANT (R275): A discovery answering pennant is received and may move the entry to PAIRED. -/
  | lineAnsweringPennant (k : Fin 64) (m : DiscMsg)
  /-- NEGATIVE_ANSWERING_PENNANT (R275): A negative answering pennant moves PAIRED to SEEN and sets NEG_SEEN. -/
  | negativeAnsweringPennant (k : Fin 64) (m : DiscMsg)
  /-- DISCOVERY_TIMEOUT (R275): No valid message for 3 × HAIL_PER super-ticks moves an entry to LOST. -/
  | discoveryTimeout (k : Fin 64)
  /-- DISC_CLEAR (R280): CLEAR moves a LOST discovery entry to ABSENT. -/
  | discClear (k : Fin 64) (v : Reg)
  /-- SET_PHASE (R301): A DEF service word sets a lane's descrambler frame phase. -/
  | setPhase (w : Word)
  /-- RESET_PHASE (R301): A DEF service word stops a lane's descrambling. -/
  | resetPhase (w : Word)
  /-- SET_RATE (R332): A MAP service word sets a direct port's transmit synthesiser rate. -/
  | setRate (w : Word)
  /-- XC_CHANGE (R319): A committed crossconnect entry or selector source takes effect at the egress frame boundary. -/
  | xcChange (slot : Fin 1024)
  /-- PT_POINTER_ADJUST (R318): A pass-through elastic store departs from centre and the generator makes a pointer adjustment or re-centres. -/
  | ptPointerAdjust (slot : Fin 1024) (adj : PtAdjust)
  /-- QUEUE_ENABLE (R346): A write of 1 to QUE_W_CFG.ENABLE enables a queue empty, or is refused. -/
  | queueEnable (v : Reg)
  /-- QUEUE_DISABLE (R347): A write of 0 to ENABLE discards a queue's content, refused while a loaded hoist uses it. -/
  | queueDisable (v : Reg)
  /-- QUEUE_FLUSH (R354): FLUSH requests a flush of the selected queue. -/
  | queueFlush (v : Reg)
  /-- FLUSH_APPLY (R354): The flush point is reached and earlier words are discarded. -/
  | flushApply (q : Fin 32768)
  /-- WATERMARK_CLEAR (R357): Writing 1 to HI_SEEN, LO_SEEN or a QUE_WMk bit clears the sticky bits and counts. -/
  | watermarkClear (t : WmTarget) (v : Reg)
  /-- UNIT_ENABLE (R362): A write of 1 to CKn_CFG.ENABLE enables a check unit, or is refused. -/
  | unitEnable (n : Fin 256) (v : Reg)
  /-- UNIT_DISABLE (R378): A write of 0 to ENABLE discards the open body, refused for an active twin unit. -/
  | unitDisable (n : Fin 256) (v : Reg)
  /-- RUN_LO_HOLD (R376): A write to CKn_RUN_LO is held until the next RUN_HI write. -/
  | runLoHold (n : Fin 256) (v : Reg)
  /-- RUN_LOAD (R376): A write to CKn_RUN_HI loads the running value, or is refused. -/
  | runLoad (n : Fin 256) (v : Reg)
  /-- SWAP (R377): GO exchanges the running value with the staged swap value in the unit's next cycle. -/
  | swap (n : Fin 256) (v : Reg)
  /-- VP_ENABLE (R385): A write of 1 to VOX_VPn_CFG.ENABLE enables a voice port, or is refused. -/
  | vpEnable (n : Fin 16) (v : Reg)
  /-- SERVICE (R388): SERVICE moves a PROVISIONAL port to IN_SERVICE at its next frame boundary, or is refused. -/
  | service (n : Fin 16) (v : Reg)
  /-- STOP (R387): STOP moves a port to STOPPING with ramp-down. -/
  | stop (n : Fin 16) (v : Reg)
  /-- RAMP_DOWN_END (R387): The stop ramp ends; hardware clears ENABLE and the port goes OFF. -/
  | rampDownEnd (n : Fin 16)
  /-- VP_CLOCK_STOP (R386): No VP_BCKn edge for 4 bit periods; the port clock stops. -/
  | vpClockStop (n : Fin 16)
  /-- VP_CLOCK_RETURN (R386): 64 edges mark the voice-port clock present again. -/
  | vpClockReturn (n : Fin 16)
  /-- VP_RATE_RESULT (R386): A meter result of a slave port is judged for rate change and glitch reference. -/
  | vpRateResult (n : Fin 16) (count : Nat)
  /-- VP_RX_FRAME (R389): A receive frame completes and is added to the block, which closes and is emitted when full. -/
  | vpRxFrame (n : Fin 16) (f : VoiceFrame)
  /-- VP_TX_BLOCK (R392): A released block reaches VOX and enters the transmit buffer or is discarded. -/
  | vpTxBlock (n : Fin 16) (ws : List TWord)
  /-- VP_TX_FRAME (R393): At a transmit frame boundary the port plays one frame or silence. -/
  | vpTxFrame (n : Fin 16)
  /-- XC_BUNDLE_EMIT (R397): At phase 7,936 VOX takes a frame from each crossconnect store and emits each bundle's words. -/
  | xcBundleEmit
  /-- SELECTOR_ENABLE (R404): A write to PRT_SELs_CFG.ENABLE enables or disables a selector, or is refused. -/
  | selectorEnable (n : Fin 4096) (v : Reg)
  /-- SELECTOR_WTR_EXPIRY (R406): Wait-to-restore expires and W is selected. -/
  | selectorWtrExpiry (n : Fin 4096)
  /-- HEARTBEAT_SEND (R414): At each tick with N mod 8 = 0 a pair unit sends its heartbeat. -/
  | heartbeatSend (guardLow : Bool)
  /-- HEARTBEAT (R414): A pair heartbeat is received and drives the start and state rules. -/
  | heartbeat (n : BitVec 32) (h : Heartbeat)
  /-- LEDGER (R416): The active's ingress ledger is received and the standby stamps its sources accordingly. -/
  | ledger (n : BitVec 32) (l : LedgerMsg)
  /-- LEDGER_LATE (R416): No ledger for tick N by phase 1,024 of N+1; the standby stamps itself. -/
  | ledgerLate
  /-- JOURNAL (R418): A journaled write or command is received by the standby. -/
  | journal (seq : BitVec 32) (e : JEntry)
  /-- JOURNAL_ACK (R419): The standby's acknowledgement of a journal entry is received. -/
  | journalAck (n seq : BitVec 32)
  /-- JOURNAL_APPLY (R418): At boundary A + JLAG both units apply a journaled write or command. -/
  | journalApply
  /-- DIGEST (R421): A peer's closed digest entries are received and compared. -/
  | digest (n : BitVec 32) (es : List DigestEntry)
  /-- DIGEST_MISSING (R421): An entry is still absent at tick N + CMP_WIN and the tick disagrees as MISSING. -/
  | digestMissing
  /-- PAIR_QUALIFY (R422): The standby has QUAL ticks without disagreement and sets QUALIFIED. -/
  | pairQualify
  /-- HEARTBEAT_LOSS (R424): 25 ticks pass since the last heartbeat and loss is declared. -/
  | heartbeatLoss
  /-- GUARD_FAULT (R425): The guard contradicts the heartbeat for 16 ticks. -/
  | guardFault
  /-- CLAIM_START (R426): 3 heartbeat periods pass with no heartbeat and the guard yielded; the unit enters CLAIMING. -/
  | claimStart
  /-- CLAIM_COMPLETE (R426): The claim holds for 2 periods and the unit goes ACTIVE. -/
  | claimComplete
  /-- CLAIM_RETRY (R426): The wait after a withdrawn claim ends and the unit may claim again. -/
  | claimRetry
  /-- TAKEOVER (R427): A standby takes over warm or cold at the first boundary with heartbeat loss and a yielded guard. -/
  | takeover
  /-- YIELD_MESSAGE (R429): A yield naming T is received by the standby, which answers with an accept. -/
  | yieldMessage (n : BitVec 32) (t : Nat)
  /-- ACCEPT (R429): The standby's accept of a yield is received. -/
  | accept (n : BitVec 32)
  /-- YIELD_HANDOVER (R429): At T the active becomes standby and the standby active, or the yield fails. -/
  | yieldHandover
  /-- JOIN_CONFIG_COMPLETE (R430): The standby has applied all configuration and enters JOIN_STATE at T0. -/
  | joinConfigComplete
  /-- SNAPSHOT (R431): Snapshot content is received and staged by the standby. -/
  | snapshot (seq : BitVec 32) (p : SnapPart)
  /-- SNAPSHOT_ACK (R430): The standby's acknowledgement of the snapshot is received. -/
  | snapshotAck (n : BitVec 32)
  /-- SNAPSHOT_LOAD (R432): The copy completes; the standby loads the snapshot and starts hoists at work tick T0. -/
  | snapshotLoad
  /-- CATCH_UP_COMPLETE (R430): No hoist has breached for 16 ticks and the standby enters STANDBY. -/
  | catchUpComplete
  /-- LOG_FULL (R432): The catch-up log fills and join restarts or waits. -/
  | logFull
  /-- HALYARD_PORT_ENABLE (R439): A halyard port enable, refused when it breaks the pair and hierarchy port rules. -/
  | halyardPortEnable (p : Fin 2) (v : Reg)
  /-- MANAGER_HAIL_TIMER (R446): Every HAIL_PER super-ticks a manager hails on its hierarchy port. -/
  | managerHailTimer
  /-- HAIL (R446): A halyard hail is received and a worker answers. -/
  | hail (f : HalFrame)
  /-- ANSWERING_PENNANT (R446): A halyard answering pennant is received and the manager may send a JOIN_OFFER. -/
  | answeringPennant (f : HalFrame)
  /-- NEG_PENNANT (R460): A halyard negative answering pennant is received. -/
  | negPennant (f : HalFrame)
  /-- JOIN_OFFER (R446): A worker receives a JOIN_OFFER and accepts or refuses it. -/
  | joinOffer (f : HalFrame)
  /-- JOIN_ACCEPT (R445): A manager receives a JOIN_ACCEPT and makes the entry PAIRED. -/
  | joinAccept (f : HalFrame)
  /-- LEAVE (R448): A manager receives LEAVE from a member. -/
  | leave (f : HalFrame)
  /-- RELEASE (R444): A worker receives RELEASE and goes to UNBOUND. -/
  | halReleaseFrame (f : HalFrame)
  /-- TIME_REQ_SEND (R452): At each super-tick a member sends a TIME_REQ. -/
  | timeReqSend
  /-- TIME_REQ (R452): A manager receives a TIME_REQ and answers within 16 µs. -/
  | timeReq (f : HalFrame) (t2 t3 : Word)
  /-- TIME_RESP (R452): A member receives a TIME_RESP and computes rtt and offset. -/
  | timeResp (f : HalFrame) (t4 : Word)
  /-- COMMAND (R453): A member receives a COMMAND frame and executes it through its supervisor. -/
  | halCommand (f : HalFrame)
  /-- RESULT (R453): A RESULT frame is received and delivered to HAL_RX_SID. -/
  | halResult (f : HalFrame)
  /-- REG_WRITE (R453): A member applies REG_WRITE pairs in order and answers REG_ACK. -/
  | halRegWriteFrame (f : HalFrame)
  /-- REG_ACK (R453): A manager receives the count of writes applied. -/
  | regAck (f : HalFrame)
  /-- IMAGE_CHUNK (R454): A selected member stores an image chunk and loads the image when complete. -/
  | imageChunk (f : HalFrame)
  /-- IMAGE_STATUS (R454): A manager receives a member's image load result. -/
  | imageStatus (f : HalFrame)
  /-- EVENT (R455): An EVENT frame is received and delivered to HAL_RX_SID. -/
  | halEvent (f : HalFrame)
  /-- USER (R455): A USER frame is received and delivered to HAL_RX_SID. -/
  | halUser (f : HalFrame)
  /-- RETRANSMIT (R442): A reliable frame has no answer after 8 ticks and is sent again, up to 16 times. -/
  | retransmit (i : Nat)
  /-- MANAGER_LOST (R449): No valid manager frame for 3 super-ticks; the member enters ORPHAN. -/
  | managerLost
  /-- MEMBER_LOST (R445): No TIME_REQ from a member for 3 super-ticks moves its entry to LOST. -/
  | memberLost (m : Fin 128)
  /-- AUTO_FTC_ENABLE (R447): One tick after an accepted offer, the worker sets ENABLE with the offered count. -/
  | autoFtcEnable
  /-- UNBIND (R444): HAL_CTRL.UNBIND moves the device to UNBOUND. -/
  | unbind (v : Reg)
  /-- QUARANTINE_START (R461): A partner reaching QN strikes is quarantined from the next tick boundary. -/
  | quarantineStart (p : Partner)
  /-- QUARANTINE_END (R461): A quarantine ends after QTICKS ticks. -/
  | quarantineEnd (p : Partner)
  /-- OVERFLOW_RECORD (R472): Once an S record would be admitted, EVT writes one overflow record with the dropped counts. -/
  | overflowRecord
  /-- VECTOR_ARM (R473): Writing 1 to an EVT_ARMw bit re-arms an MSI-X vector. -/
  | vectorArm (w : Fin 8) (v : Reg)
  /-- MSIX_UNMASK (R473): A vector is unmasked and its pending message is sent. -/
  | msixUnmask (vec : Fin 256)
  /-- EVT_ENABLE (R471): A write to EVT_CTRL.ENABLE starts the ring, or is refused, or discards unposted records. -/
  | evtEnable (v : Reg)
  /-- REC_SOURCE_ENABLE (R478): A write of 1 to REC_SRCk_CFG.EN enables a recorder source, or is refused. -/
  | recSourceEnable (k : Fin 512) (v : Reg)
  /-- RECORD_WRITE (R484): REC writes staged records to the drive, must-record with FUA. -/
  | recordWrite
  /-- NVME_COMPLETION (R484): An NVMe command completes and durability and ring state advance. -/
  | nvmeCompletion (ok : Bool)
  /-- REC_FLUSH_PERIOD (R484): Every REC_FLUSH_PER ticks REC writes the partial block and issues Flush. -/
  | recFlushPeriod
  /-- DRIVE_LOST (R485): Link down, fatal status, error or timeout puts the recorder in DRIVE_LOST. -/
  | driveLost (why : DriveFault)
  /-- REC_RESUME (R482): In STOP mode, writing resumes with a GAP record in the first tick with room. -/
  | recResume
  /-- TALLY_SNAPSHOT (R488): At ticks with N mod PERIOD = 0 all counters are latched and written as one snapshot. -/
  | tallySnapshot
  /-- TAG_ENABLE (R490): TAG_EN seeds the LFSRs of the selected engines and starts tagging. -/
  | tagEnable (v : Reg)
  /-- POWER_ON_RESET (R498): First power or loss of both feeds resets everything and start-up runs from step 1. -/
  | powerOnReset
  /-- RESET_PIN (R498): RESET_N low for 1 µs performs a device reset. -/
  | resetPin
  /-- JTAG_RESET (R498): The JTAG reset instruction performs a device reset. -/
  | jtagReset
  /-- HOST_LINK_DOWN (R513): PERST_N, link down or hot reset resets the endpoint; events, tally and host-memory table are affected. -/
  | hostLinkDown
  /-- CHT_RESUME (R513): Writing CHT_RESUME ends a host-link freeze at the next tick boundary, or is refused. -/
  | chtResume (v : Reg)
  /-- SUPERVISORS_STARTED (R500): Step 2 completes: supervisor domains, ITO, oscillator driver and boot domains are powered. -/
  | supervisorsStarted (st : Straps)
  /-- PLL_LOCK (R500): Core, fabric and DDR PLLs lock and step 5 completes. -/
  | pllLock (p : Pll)
  /-- PLL_LOCK_TIMEOUT (R501): A PLL has not locked within 5 ms; start-up continues on floor clocks or without DDR. -/
  | pllLockTimeout (p : Pll)
  /-- CAL_LOAD (R122): The calibration page is loaded, or defaults applied on a bad CRC. -/
  | calLoad
  /-- BOOT_VERIFY (R504): A boot image from the selected source is verified and accepted, or the next source is tried. -/
  | bootVerify (src : BootSource) (readOk : Bool)
  /-- DDR_TRAINED (R501): DDR training of a controller completes or fails. -/
  | ddrTrained (x : Fin 2) (ok : Bool)
  /-- START_SCRIPT (R506): After the last step-8 domain is ON, the supervisor runs the start script. -/
  | startScript
  /-- SCRIPT_COMMAND (R506): A script entry's mailbox command closes up and the script continues or stops. -/
  | scriptCommand
  /-- SCRIPT_WAIT (R506): A script wait of a number of tick boundaries expires and the script continues. -/
  | scriptWait
  /-- DDR_CHANNEL_LOST (R510): A DDR channel is lost; queues lose middles and a table in it freezes the context cache. -/
  | ddrChannelLost (x : Fin 2) (why : DdrLoss)
  /-- TILE_LOST (R514): A tile fabric or SRAM domain leaves ON without request and the tile is lost. -/
  | tileLost (n : Fin 8)
  /-- GUARD_READS_HOLDING (R426): A 1 µs sample of PAIR_YIELD_IN reads holding while the unit is CLAIMING, so the unit returns to STARTING and sets CLAIM_CONFLICT. -/
  | guardReadsHolding
  /-- VP_CLOCK_GLITCH (R386): A voice-port bit-clock period shorter than half the expected period sets GLITCH, raises EV_VP_CLK and sends the port to PROVISIONAL with gain dropped to 0. -/
  | vpClockGlitch (n : Fin 16)
  /-- HALYARD_LINK_LOSS (R464): A halyard port loses its link, clearing LINK, setting LINK_LOST and raising EV_HAL_LINK. -/
  | halyardLinkLoss (p : Fin 2)
  /-- HALYARD_LINK_RETURN (R464): A halyard port regains its link and PCS lock, setting LINK and raising EV_HAL_LINK. -/
  | halyardLinkReturn (p : Fin 2)
  /-- HOST_LINK_UP (R513): The PCIe host link comes up after PERST_N deassertion or a link-down, clearing HOST_LINK_DOWN so that posting, messages and CHT_RESUME become possible again. -/
  | hostLinkUp
  /-- LANE_SIGNAL_LOSS (R269): A lane sees no transitions for 10 µs or no signal detected, setting LOS for the tick, LOS_SEEN and raising EV_LIN_LOS. -/
  | laneSignalLoss (l : Fin 16)
  /-- RESET_N_RISE (R523): RESET_N rises; straps are sampled and start-up continues 1 µs later from step 2, or from the end of step 2 of a power-on sequence held in reset. -/
  | resetNRise (st : Straps)
  /-- DOMAIN_ON_TIMEOUT (R501): A power domain powered at step 8 does not reach ON within 200 µs, is left OFF and DOM_FAIL is set. -/
  | domainOnTimeout (n : Fin 162)
  /-- IMAGE_PUSH_TIMEOUT (R456): 2,000 ticks after the last IMAGE_CHUNK, HAL_IMAGE_PUSH closes up with the mask of the members that succeeded. -/
  | imagePushTimeout
  /-- HALYARD_ACKNOWLEDGEMENT (R444): The acknowledgement of a reliable JOIN_ACCEPT, LEAVE or RELEASE frame arrives, moving a worker from JOINING to MEMBER or to UNBOUND, or closing HAL_LEAVE or HAL_RELEASE. -/
  | halyardAcknowledgement (f : HalFrame)
  /-- MALFORMED_MESSAGE (R459): A halyard frame or discovery message that fails its CRC or FCS, has a wrong Ethertype, version, length, reserved bit or unknown type is dropped, counted, logged and struck. -/
  | malformedMessage (p : Partner) (ty : Byte)deriving DecidableEq, Repr

end Sys2Proof
end

