-- ==== Sys2Proof/Machine/RegMap.lean ====
section
/-! DEFINITION. The register map of BAR0 (R129): one row per register of the spec's register tables, with its fields,
their types (R136), commit classes (R139), reset values and legal values (R13); and a name for every register (`R.`) and
field (`F.`), spelled as the spec spells it. -/

namespace Sys2Proof.Machine

/-- A field's type (R136); `cnt` is a counter, written by software under R135 and R145. -/
inductive FTy where | rw | ro | w1c | w1s | wo | cnt
deriving DecidableEq, Repr
/-- A field's commit class (R139). -/
inductive Cls where | L | F | H
deriving DecidableEq, Repr

/-- One field of a register table: its place, type, class, reset value and, where the table lists its values, the
intervals of the listed ones. -/
structure FieldRow where
  lo : Nat
  w : Nat
  ty : FTy
  cls : Cls
  rst : Nat
  legal : List (Nat × Nat)
deriving DecidableEq, Repr

/-- One register row: its offset in the block, up to two strides with their counts, whether it is a 64-bit pair (R132),
whether it exists in tile 0 only (R190), whether it is reached through the queue window (R360), and its fields. -/
structure RegRow where
  off : Nat
  s1 : Nat
  c1 : Nat
  s2 : Nat
  c2 : Nat
  pair : Bool
  only0 : Bool
  win : Bool
  fields : List FieldRow
deriving DecidableEq, Repr

/-- A field by its register's key: what the meanings read and write. -/
structure Fld where
  reg : Nat
  lo : Nat
  w : Nat
  frame : Bool
  rst : Nat
  legal : List (Nat × Nat)
deriving DecidableEq, Repr

/-- Key of the queue-window registers: one set of 16 words for each of the 32,768 queues (R360). -/
def queKeyBase : Nat := 0x10000000
/-- Word `off` (0 to 0x3C) of queue `q`'s window registers. -/
def queKey (q off : Nat) : Nat := queKeyBase + q * 0x40 + off

/-! ## Block SUP (R158/R159/R515/R516) -/

def R.SUP_ID : Nat := 0x00000000
def F.SUP_ID_DEVICE : Fld := ⟨R.SUP_ID, 0, 16, false, 32868, []⟩
def F.SUP_ID_STEPPING : Fld := ⟨R.SUP_ID, 16, 8, false, 16, []⟩
def R.SUP_BURGEE : Nat := 0x00000008
def F.SUP_BURGEE : Fld := ⟨R.SUP_BURGEE, 0, 64, false, 0, []⟩
def R.SUP_MBOX_STATUS : Nat := 0x00000010
def F.SUP_MBOX_STATUS : Fld := ⟨R.SUP_MBOX_STATUS, 0, 32, false, 0, []⟩
def R.SUP_MBOX_DONE : Nat := 0x00000014
def F.SUP_MBOX_DONE : Fld := ⟨R.SUP_MBOX_DONE, 0, 16, false, 65535, []⟩
def R.SUP_BOOT_STATUS : Nat := 0x00000020
def F.SUP_BOOT_STATUS_STEP : Fld := ⟨R.SUP_BOOT_STATUS, 0, 4, false, 1, []⟩
def F.SUP_BOOT_STATUS_SRC_USED : Fld := ⟨R.SUP_BOOT_STATUS, 4, 2, false, 0, []⟩
def F.SUP_BOOT_STATUS_BOOT_MODE : Fld := ⟨R.SUP_BOOT_STATUS, 6, 2, false, 0, []⟩
def F.SUP_BOOT_STATUS_FAIL_A : Fld := ⟨R.SUP_BOOT_STATUS, 8, 3, false, 0, []⟩
def F.SUP_BOOT_STATUS_FAIL_B : Fld := ⟨R.SUP_BOOT_STATUS, 11, 3, false, 0, []⟩
def F.SUP_BOOT_STATUS_FAIL_HOST : Fld := ⟨R.SUP_BOOT_STATUS, 14, 3, false, 0, []⟩
def F.SUP_BOOT_STATUS_CORE_NOLOCK : Fld := ⟨R.SUP_BOOT_STATUS, 17, 1, false, 0, []⟩
def F.SUP_BOOT_STATUS_FAB_NOLOCK : Fld := ⟨R.SUP_BOOT_STATUS, 18, 1, false, 0, []⟩
def F.SUP_BOOT_STATUS_DDR_NOLOCK : Fld := ⟨R.SUP_BOOT_STATUS, 19, 1, false, 0, []⟩
def F.SUP_BOOT_STATUS_DDR0_TRAIN_FAIL : Fld := ⟨R.SUP_BOOT_STATUS, 20, 1, false, 0, []⟩
def F.SUP_BOOT_STATUS_DDR1_TRAIN_FAIL : Fld := ⟨R.SUP_BOOT_STATUS, 21, 1, false, 0, []⟩
def F.SUP_BOOT_STATUS_DOM_FAIL : Fld := ⟨R.SUP_BOOT_STATUS, 22, 1, false, 0, []⟩
def F.SUP_BOOT_STATUS_SCRIPT_FAIL : Fld := ⟨R.SUP_BOOT_STATUS, 23, 1, false, 0, []⟩
def F.SUP_BOOT_STATUS_SCRIPT_INDEX : Fld := ⟨R.SUP_BOOT_STATUS, 24, 8, false, 0, []⟩
def R.SUP_RESET_CAUSE : Nat := 0x00000024
def F.SUP_RESET_CAUSE_POR : Fld := ⟨R.SUP_RESET_CAUSE, 0, 1, false, 0, []⟩
def F.SUP_RESET_CAUSE_PIN : Fld := ⟨R.SUP_RESET_CAUSE, 1, 1, false, 0, []⟩
def F.SUP_RESET_CAUSE_COMMAND : Fld := ⟨R.SUP_RESET_CAUSE, 2, 1, false, 0, []⟩
def F.SUP_RESET_CAUSE_DEBUG : Fld := ⟨R.SUP_RESET_CAUSE, 3, 1, false, 0, []⟩
def F.SUP_RESET_CAUSE_SUPERVISOR : Fld := ⟨R.SUP_RESET_CAUSE, 4, 1, false, 0, []⟩
def R.SUP_FAULT_STATUS : Nat := 0x00000028
def F.SUP_FAULT_STATUS_DDR0_LOST : Fld := ⟨R.SUP_FAULT_STATUS, 0, 1, false, 0, []⟩
def F.SUP_FAULT_STATUS_DDR1_LOST : Fld := ⟨R.SUP_FAULT_STATUS, 1, 1, false, 0, []⟩
def F.SUP_FAULT_STATUS_CHT_FROZEN : Fld := ⟨R.SUP_FAULT_STATUS, 2, 1, false, 0, []⟩
def F.SUP_FAULT_STATUS_HOST_LINK_DOWN : Fld := ⟨R.SUP_FAULT_STATUS, 3, 1, false, 1, []⟩
def F.SUP_FAULT_STATUS_TILE_LOST : Fld := ⟨R.SUP_FAULT_STATUS, 8, 8, false, 0, []⟩
def R.SUP_FAULT_CTRL : Nat := 0x0000002C
def F.SUP_FAULT_CTRL_CHT_RESUME : Fld := ⟨R.SUP_FAULT_CTRL, 0, 1, false, 0, []⟩
def R.SUP_KEY_STATUS : Nat := 0x00000030
def F.SUP_KEY_STATUS_SLOT1_SET : Fld := ⟨R.SUP_KEY_STATUS, 0, 1, false, 0, []⟩
def F.SUP_KEY_STATUS_KEY_USED : Fld := ⟨R.SUP_KEY_STATUS, 1, 1, false, 0, []⟩
def R.SUP_CHT_DROPS : Nat := 0x00000038
def F.SUP_CHT_DROPS : Fld := ⟨R.SUP_CHT_DROPS, 0, 64, false, 0, []⟩
def R.SUP_MBOX_CMD (i : Nat) : Nat := 0x00001000 + i * 0x40
def F.SUP_MBOX_CMD_OPCODE (i : Nat) : Fld := ⟨R.SUP_MBOX_CMD i, 0, 8, false, 0, []⟩
def F.SUP_MBOX_CMD_ARG_WORDS (i : Nat) : Fld := ⟨R.SUP_MBOX_CMD i, 8, 4, false, 0, []⟩
def F.SUP_MBOX_CMD_TAG (i : Nat) : Fld := ⟨R.SUP_MBOX_CMD i, 16, 16, false, 0, []⟩
def R.SUP_MBOX_CTRL (i : Nat) : Nat := 0x00001004 + i * 0x40
def F.SUP_MBOX_CTRL_SUBMIT (i : Nat) : Fld := ⟨R.SUP_MBOX_CTRL i, 0, 1, false, 0, []⟩
def F.SUP_MBOX_CTRL_RELEASE (i : Nat) : Fld := ⟨R.SUP_MBOX_CTRL i, 1, 1, false, 0, []⟩
def R.SUP_MBOX_RESULT (i : Nat) : Nat := 0x00001008 + i * 0x40
def F.SUP_MBOX_RESULT_CODE (i : Nat) : Fld := ⟨R.SUP_MBOX_RESULT i, 0, 8, false, 0, []⟩
def F.SUP_MBOX_RESULT_TAG (i : Nat) : Fld := ⟨R.SUP_MBOX_RESULT i, 16, 16, false, 0, []⟩
def R.SUP_MBOX_SEQ (i : Nat) : Nat := 0x0000100C + i * 0x40
def F.SUP_MBOX_SEQ (i : Nat) : Fld := ⟨R.SUP_MBOX_SEQ i, 0, 16, false, 0, []⟩
def R.SUP_MBOX_ARG (i j : Nat) : Nat := 0x00001010 + i * 0x40 + j * 0x4
def F.SUP_MBOX_ARG (i j : Nat) : Fld := ⟨R.SUP_MBOX_ARG i j, 0, 32, false, 0, []⟩

/-! ## Block CLK (R87-R93) -/

def R.CLK_STATUS : Nat := 0x00100000
def F.CLK_STATUS_ITO_OK : Fld := ⟨R.CLK_STATUS, 0, 1, false, 0, []⟩
def F.CLK_STATUS_XIN_OK : Fld := ⟨R.CLK_STATUS, 1, 1, false, 0, []⟩
def F.CLK_STATUS_CLKFAIL : Fld := ⟨R.CLK_STATUS, 2, 1, false, 0, []⟩
def F.CLK_STATUS_CORE_LOCK : Fld := ⟨R.CLK_STATUS, 3, 1, false, 0, []⟩
def F.CLK_STATUS_FAB_LOCK : Fld := ⟨R.CLK_STATUS, 4, 1, false, 0, []⟩
def F.CLK_STATUS_DDR_LOCK : Fld := ⟨R.CLK_STATUS, 5, 1, false, 0, []⟩
def F.CLK_STATUS_QPLL_LOCK : Fld := ⟨R.CLK_STATUS, 6, 4, false, 0, []⟩
def F.CLK_STATUS_CORE_COAST : Fld := ⟨R.CLK_STATUS, 10, 1, false, 0, []⟩
def F.CLK_STATUS_FAB_COAST : Fld := ⟨R.CLK_STATUS, 11, 1, false, 0, []⟩
def F.CLK_STATUS_DDR_COAST : Fld := ⟨R.CLK_STATUS, 12, 1, false, 0, []⟩
def F.CLK_STATUS_QPLL_COAST : Fld := ⟨R.CLK_STATUS, 13, 4, false, 0, []⟩
def F.CLK_STATUS_FTC_STATE : Fld := ⟨R.CLK_STATUS, 17, 3, false, 0, []⟩
def F.CLK_STATUS_FTC_ACTIVE_REF : Fld := ⟨R.CLK_STATUS, 20, 2, false, 0, []⟩
def F.CLK_STATUS_CAL_TRIM_DEFAULT : Fld := ⟨R.CLK_STATUS, 22, 1, false, 0, []⟩
def R.CLK_STICKY : Nat := 0x00100004
def F.CLK_STICKY_XIN_LOST : Fld := ⟨R.CLK_STICKY, 0, 1, false, 0, []⟩
def F.CLK_STICKY_CORE_COAST_SEEN : Fld := ⟨R.CLK_STICKY, 1, 1, false, 0, []⟩
def F.CLK_STICKY_FAB_COAST_SEEN : Fld := ⟨R.CLK_STICKY, 2, 1, false, 0, []⟩
def F.CLK_STICKY_DDR_COAST_SEEN : Fld := ⟨R.CLK_STICKY, 3, 1, false, 0, []⟩
def F.CLK_STICKY_QPLL_COAST_SEEN : Fld := ⟨R.CLK_STICKY, 4, 4, false, 0, []⟩
def F.CLK_STICKY_SW_FORCED : Fld := ⟨R.CLK_STICKY, 8, 1, false, 0, []⟩
def F.CLK_STICKY_PRI_LOST : Fld := ⟨R.CLK_STICKY, 9, 1, false, 0, []⟩
def F.CLK_STICKY_ALT_LOST : Fld := ⟨R.CLK_STICKY, 10, 1, false, 0, []⟩
def F.CLK_STICKY_REF_SWITCHED : Fld := ⟨R.CLK_STICKY, 11, 1, false, 0, []⟩
def F.CLK_STICKY_HOLDOVER_SEEN : Fld := ⟨R.CLK_STICKY, 12, 1, false, 0, []⟩
def F.CLK_STICKY_COUNT_MISMATCH : Fld := ⟨R.CLK_STICKY, 13, 1, false, 0, []⟩
def R.CLK_XIN_CFG : Nat := 0x00100008
def F.CLK_XIN_CFG_FREQ : Fld := ⟨R.CLK_XIN_CFG, 0, 2, false, 0, []⟩
def F.CLK_XIN_CFG_MODE : Fld := ⟨R.CLK_XIN_CFG, 2, 1, false, 0, []⟩
def R.CLK_XIN_MEAS : Nat := 0x0010000C
def F.CLK_XIN_MEAS_COUNT : Fld := ⟨R.CLK_XIN_MEAS, 0, 16, false, 0, []⟩
def F.CLK_XIN_MEAS_QUALS : Fld := ⟨R.CLK_XIN_MEAS, 16, 4, false, 0, []⟩
def R.CLK_DOMSW_CTRL : Nat := 0x00100010
def F.CLK_DOMSW_CTRL_DOMAIN : Fld := ⟨R.CLK_DOMSW_CTRL, 0, 4, false, 0, [(0, 10)]⟩
def F.CLK_DOMSW_CTRL_SOURCE : Fld := ⟨R.CLK_DOMSW_CTRL, 4, 2, false, 0, [(0, 2)]⟩
def F.CLK_DOMSW_CTRL_GO : Fld := ⟨R.CLK_DOMSW_CTRL, 8, 1, false, 0, []⟩
def R.CLK_DOMSW_STATUS : Nat := 0x00100014
def F.CLK_DOMSW_STATUS_SRC : Fld := ⟨R.CLK_DOMSW_STATUS, 0, 22, false, 0, []⟩
def F.CLK_DOMSW_STATUS_BUSY : Fld := ⟨R.CLK_DOMSW_STATUS, 24, 1, false, 0, []⟩
def F.CLK_DOMSW_STATUS_REJECTED : Fld := ⟨R.CLK_DOMSW_STATUS, 25, 1, false, 0, []⟩
def F.CLK_DOMSW_STATUS_FORCED : Fld := ⟨R.CLK_DOMSW_STATUS, 26, 1, false, 0, []⟩
def R.CLK_FTC_CTRL : Nat := 0x00100100
def F.CLK_FTC_CTRL_ENABLE : Fld := ⟨R.CLK_FTC_CTRL, 0, 1, false, 0, []⟩
def F.CLK_FTC_CTRL_BW : Fld := ⟨R.CLK_FTC_CTRL, 1, 2, true, 1, [(0, 2)]⟩
def F.CLK_FTC_CTRL_SLEW : Fld := ⟨R.CLK_FTC_CTRL, 3, 5, true, 10, [(1, 31)]⟩
def F.CLK_FTC_CTRL_ALIGN : Fld := ⟨R.CLK_FTC_CTRL, 8, 1, true, 0, []⟩
def F.CLK_FTC_CTRL_REVERT : Fld := ⟨R.CLK_FTC_CTRL, 9, 1, true, 0, []⟩
def F.CLK_FTC_CTRL_WTR : Fld := ⟨R.CLK_FTC_CTRL, 10, 8, true, 40, []⟩
def F.CLK_FTC_CTRL_QUAL : Fld := ⟨R.CLK_FTC_CTRL, 18, 8, true, 8, [(1, 255)]⟩
def R.CLK_FTC_REF_SEL : Nat := 0x00100104
def F.CLK_FTC_REF_SEL_PRI : Fld := ⟨R.CLK_FTC_REF_SEL, 0, 3, true, 0, [(0, 4)]⟩
def F.CLK_FTC_REF_SEL_ALT : Fld := ⟨R.CLK_FTC_REF_SEL, 4, 3, true, 0, [(0, 4)]⟩
def R.CLK_FTC_REF_CHAN : Nat := 0x00100108
def F.CLK_FTC_REF_CHAN_PRI_CHAN : Fld := ⟨R.CLK_FTC_REF_CHAN, 0, 14, true, 0, []⟩
def F.CLK_FTC_REF_CHAN_ALT_CHAN : Fld := ⟨R.CLK_FTC_REF_CHAN, 16, 14, true, 0, []⟩
def R.CLK_FTC_COMMIT : Nat := 0x0010010C
def F.CLK_FTC_COMMIT_GO : Fld := ⟨R.CLK_FTC_COMMIT, 0, 1, false, 0, []⟩
def R.CLK_FTC_PHERR : Nat := 0x00100110
def F.CLK_FTC_PHERR : Fld := ⟨R.CLK_FTC_PHERR, 0, 32, false, 0, []⟩
def R.CLK_FTC_SNAP : Nat := 0x00100118
def F.CLK_FTC_SNAP_GO : Fld := ⟨R.CLK_FTC_SNAP, 0, 1, false, 0, []⟩
def R.CLK_FTC_NOW : Nat := 0x00100120
def F.CLK_FTC_NOW : Fld := ⟨R.CLK_FTC_NOW, 0, 64, false, 0, []⟩
def R.CLK_FTC_SNAPV : Nat := 0x00100128
def F.CLK_FTC_SNAPV : Fld := ⟨R.CLK_FTC_SNAPV, 0, 64, false, 0, []⟩
def R.CLK_FTC_SET : Nat := 0x00100130
def F.CLK_FTC_SET : Fld := ⟨R.CLK_FTC_SET, 0, 51, false, 0, []⟩
def R.CLK_FTC_RATIO : Nat := 0x00100138
def F.CLK_FTC_RATIO : Fld := ⟨R.CLK_FTC_RATIO, 0, 48, false, 0, []⟩
def R.CLK_FTC_HOLD_RATIO : Nat := 0x00100140
def F.CLK_FTC_HOLD_RATIO : Fld := ⟨R.CLK_FTC_HOLD_RATIO, 0, 48, false, 0, []⟩
def R.CLK_FTC_PRI_PERIOD : Nat := 0x00100150
def F.CLK_FTC_PRI_PERIOD : Fld := ⟨R.CLK_FTC_PRI_PERIOD, 0, 48, true, 4294967296, []⟩
def R.CLK_FTC_ALT_PERIOD : Nat := 0x00100158
def F.CLK_FTC_ALT_PERIOD : Fld := ⟨R.CLK_FTC_ALT_PERIOD, 0, 48, true, 4294967296, []⟩
def R.CLK_SYNC_CFG : Nat := 0x00100160
def F.CLK_SYNC_CFG_SYNC0 : Fld := ⟨R.CLK_SYNC_CFG, 0, 2, true, 0, []⟩
def F.CLK_SYNC_CFG_SYNC1 : Fld := ⟨R.CLK_SYNC_CFG, 2, 2, true, 0, []⟩
def R.CLK_FM_CTRL (i : Nat) : Nat := 0x00101000 + i * 0x20
def F.CLK_FM_CTRL_CLK_SEL (i : Nat) : Fld := ⟨R.CLK_FM_CTRL i, 0, 8, false, 0, [(0, 9), (16, 93), (96, 96)]⟩
def F.CLK_FM_CTRL_REF_SEL (i : Nat) : Fld := ⟨R.CLK_FM_CTRL i, 8, 8, false, 0, [(0, 9), (16, 93), (96, 96)]⟩
def F.CLK_FM_CTRL_START (i : Nat) : Fld := ⟨R.CLK_FM_CTRL i, 16, 1, false, 0, []⟩
def F.CLK_FM_CTRL_CONT (i : Nat) : Fld := ⟨R.CLK_FM_CTRL i, 17, 1, false, 0, []⟩
def F.CLK_FM_CTRL_VOX_OWNED (i : Nat) : Fld := ⟨R.CLK_FM_CTRL i, 18, 1, false, 0, []⟩
def R.CLK_FM_GATE (i : Nat) : Nat := 0x00101004 + i * 0x20
def F.CLK_FM_GATE (i : Nat) : Fld := ⟨R.CLK_FM_GATE i, 0, 24, false, 1000, [(1, 16777215)]⟩
def R.CLK_FM_RESULT (i : Nat) : Nat := 0x00101008 + i * 0x20
def F.CLK_FM_RESULT_COUNT (i : Nat) : Fld := ⟨R.CLK_FM_RESULT i, 0, 32, false, 0, []⟩
def F.CLK_FM_RESULT_SEQ (i : Nat) : Fld := ⟨R.CLK_FM_RESULT i + 4, 0, 16, false, 0, []⟩
def F.CLK_FM_RESULT_VALID (i : Nat) : Fld := ⟨R.CLK_FM_RESULT i + 4, 16, 1, false, 0, []⟩
def F.CLK_FM_RESULT_TIMEOUT (i : Nat) : Fld := ⟨R.CLK_FM_RESULT i + 4, 17, 1, false, 0, []⟩
def F.CLK_FM_RESULT_SAT (i : Nat) : Fld := ⟨R.CLK_FM_RESULT i + 4, 18, 1, false, 0, []⟩

/-! ## Block PWR (R124-R126) -/

def R.PWR_STATUS : Nat := 0x00200000
def F.PWR_STATUS_FEED_A_OK : Fld := ⟨R.PWR_STATUS, 0, 1, false, 0, []⟩
def F.PWR_STATUS_FEED_B_OK : Fld := ⟨R.PWR_STATUS, 1, 1, false, 0, []⟩
def F.PWR_STATUS_SUP_ACTIVE : Fld := ⟨R.PWR_STATUS, 2, 1, false, 0, []⟩
def F.PWR_STATUS_SUP_DUAL : Fld := ⟨R.PWR_STATUS, 3, 1, false, 0, []⟩
def F.PWR_STATUS_SINGLE_FEED : Fld := ⟨R.PWR_STATUS, 4, 1, false, 0, []⟩
def F.PWR_STATUS_THROTTLE : Fld := ⟨R.PWR_STATUS, 5, 1, false, 0, []⟩
def F.PWR_STATUS_PENNANT : Fld := ⟨R.PWR_STATUS, 6, 1, false, 0, []⟩
def F.PWR_STATUS_PENNANT_PENDING : Fld := ⟨R.PWR_STATUS, 7, 1, false, 0, []⟩
def R.PWR_STICKY : Nat := 0x00200004
def F.PWR_STICKY_FEED_A_LOST : Fld := ⟨R.PWR_STICKY, 0, 1, false, 0, []⟩
def F.PWR_STICKY_FEED_B_LOST : Fld := ⟨R.PWR_STICKY, 1, 1, false, 0, []⟩
def F.PWR_STICKY_FEED_A_OV : Fld := ⟨R.PWR_STICKY, 2, 1, false, 0, []⟩
def F.PWR_STICKY_FEED_B_OV : Fld := ⟨R.PWR_STICKY, 3, 1, false, 0, []⟩
def F.PWR_STICKY_FEED_A_OC : Fld := ⟨R.PWR_STICKY, 4, 1, false, 0, []⟩
def F.PWR_STICKY_FEED_B_OC : Fld := ⟨R.PWR_STICKY, 5, 1, false, 0, []⟩
def F.PWR_STICKY_SUP_SWITCHED : Fld := ⟨R.PWR_STICKY, 6, 1, false, 0, []⟩
def F.PWR_STICKY_SUP_MISMATCH : Fld := ⟨R.PWR_STICKY, 7, 1, false, 0, []⟩
def F.PWR_STICKY_THROTTLE_SEEN : Fld := ⟨R.PWR_STICKY, 8, 1, false, 0, []⟩
def F.PWR_STICKY_CREDIT_SHORT : Fld := ⟨R.PWR_STICKY, 9, 1, false, 0, []⟩
def F.PWR_STICKY_TSENSE_FAIL : Fld := ⟨R.PWR_STICKY, 10, 1, false, 0, []⟩
def F.PWR_STICKY_AGING_WARN : Fld := ⟨R.PWR_STICKY, 11, 1, false, 0, []⟩
def F.PWR_STICKY_RETIRE_DONE : Fld := ⟨R.PWR_STICKY, 12, 1, false, 0, []⟩
def F.PWR_STICKY_RETIRE_REJECTED : Fld := ⟨R.PWR_STICKY, 13, 1, false, 0, []⟩
def R.PWR_BUDGET_CAP : Nat := 0x00200008
def F.PWR_BUDGET_CAP_CAP : Fld := ⟨R.PWR_BUDGET_CAP, 0, 8, true, 170, [(24, 170)]⟩
def R.PWR_CAP_STATUS : Nat := 0x0020000C
def F.PWR_CAP_STATUS_PCAP : Fld := ⟨R.PWR_CAP_STATUS, 0, 8, false, 0, []⟩
def F.PWR_CAP_STATUS_LIMIT : Fld := ⟨R.PWR_CAP_STATUS, 8, 2, false, 0, []⟩
def R.PWR_COMMIT : Nat := 0x00200010
def F.PWR_COMMIT_GO : Fld := ⟨R.PWR_COMMIT, 0, 1, false, 0, []⟩
def R.PWR_FEED_CTRL : Nat := 0x00200014
def F.PWR_FEED_CTRL_RETRY_A : Fld := ⟨R.PWR_FEED_CTRL, 0, 1, false, 0, []⟩
def F.PWR_FEED_CTRL_RETRY_B : Fld := ⟨R.PWR_FEED_CTRL, 1, 1, false, 0, []⟩
def R.PWR_FEED_A_MEAS : Nat := 0x00200018
def F.PWR_FEED_A_MEAS_MV : Fld := ⟨R.PWR_FEED_A_MEAS, 0, 16, false, 0, []⟩
def F.PWR_FEED_A_MEAS_CA : Fld := ⟨R.PWR_FEED_A_MEAS, 16, 16, false, 0, []⟩
def R.PWR_FEED_B_MEAS : Nat := 0x0020001C
def F.PWR_FEED_B_MEAS_MV : Fld := ⟨R.PWR_FEED_B_MEAS, 0, 16, false, 0, []⟩
def F.PWR_FEED_B_MEAS_CA : Fld := ⟨R.PWR_FEED_B_MEAS, 16, 16, false, 0, []⟩
def R.PWR_CREDIT : Nat := 0x00200020
def F.PWR_CREDIT : Fld := ⟨R.PWR_CREDIT, 0, 32, false, 0, []⟩
def R.PWR_SLOT_ENERGY : Nat := 0x00200024
def F.PWR_SLOT_ENERGY : Fld := ⟨R.PWR_SLOT_ENERGY, 0, 16, true, 200, [(1, 65535)]⟩
def R.PWR_TEMP_MAX : Nat := 0x00200028
def F.PWR_TEMP_MAX_TJ : Fld := ⟨R.PWR_TEMP_MAX, 0, 16, false, 0, []⟩
def F.PWR_TEMP_MAX_SENSOR : Fld := ⟨R.PWR_TEMP_MAX, 16, 4, false, 0, []⟩
def R.PWR_PENNANT_CTRL : Nat := 0x00200030
def F.PWR_PENNANT_CTRL_ENTER : Fld := ⟨R.PWR_PENNANT_CTRL, 0, 1, false, 0, []⟩
def F.PWR_PENNANT_CTRL_EXIT : Fld := ⟨R.PWR_PENNANT_CTRL, 1, 1, false, 0, []⟩
def F.PWR_PENNANT_CTRL_EMERG_V : Fld := ⟨R.PWR_PENNANT_CTRL, 2, 1, true, 0, []⟩
def R.PWR_PENNANT_STATUS : Nat := 0x00200034
def F.PWR_PENNANT_STATUS_CAUSE : Fld := ⟨R.PWR_PENNANT_STATUS, 0, 4, false, 0, []⟩
def F.PWR_PENNANT_STATUS_ACTIVE_CAUSES : Fld := ⟨R.PWR_PENNANT_STATUS, 4, 4, false, 0, []⟩
def F.PWR_PENNANT_STATUS_EXIT_REJECTED : Fld := ⟨R.PWR_PENNANT_STATUS, 8, 1, false, 0, []⟩
def F.PWR_PENNANT_STATUS_SUP_PARITY : Fld := ⟨R.PWR_PENNANT_STATUS, 9, 1, false, 0, []⟩
def F.PWR_PENNANT_STATUS_ENTRIES : Fld := ⟨R.PWR_PENNANT_STATUS, 16, 16, false, 0, []⟩
def R.PWR_KEEPER_SET : Nat := 0x00200038
def F.PWR_KEEPER_SET : Fld := ⟨R.PWR_KEEPER_SET, 0, 8, false, 255, []⟩
def R.PWR_RETIRE : Nat := 0x0020003C
def F.PWR_RETIRE_ENGINE : Fld := ⟨R.PWR_RETIRE, 0, 7, false, 0, [(0, 95)]⟩
def F.PWR_RETIRE_GO : Fld := ⟨R.PWR_RETIRE, 8, 1, false, 0, []⟩
def R.PWR_RETIRED (i : Nat) : Nat := 0x00200040 + i * 0x4
def F.PWR_RETIRED (i : Nat) : Fld := ⟨R.PWR_RETIRED i, 0, 32, false, 0, []⟩
def R.PWR_AGE_WARN : Nat := 0x00200050
def F.PWR_AGE_WARN : Fld := ⟨R.PWR_AGE_WARN, 0, 20, false, 30000, []⟩
def R.PWR_DOM_CTRL (i : Nat) : Nat := 0x00200100 + i * 0x4
def F.PWR_DOM_CTRL_ON (i : Nat) : Fld := ⟨R.PWR_DOM_CTRL i, 0, 1, false, 0, []⟩
def F.PWR_DOM_CTRL_KEEP (i : Nat) : Fld := ⟨R.PWR_DOM_CTRL i, 1, 1, false, 0, []⟩
def R.PWR_DOM_STATUS (i : Nat) : Nat := 0x00200400 + i * 0x4
def F.PWR_DOM_STATUS_STATE (i : Nat) : Fld := ⟨R.PWR_DOM_STATUS i, 0, 2, false, 0, []⟩
def F.PWR_DOM_STATUS_KEEP_EFF (i : Nat) : Fld := ⟨R.PWR_DOM_STATUS i, 2, 1, false, 0, []⟩
def F.PWR_DOM_STATUS_REJECTED (i : Nat) : Fld := ⟨R.PWR_DOM_STATUS i, 3, 1, false, 0, []⟩
def F.PWR_DOM_STATUS_PENNANT_GATED (i : Nat) : Fld := ⟨R.PWR_DOM_STATUS i, 4, 1, false, 0, []⟩
def R.PWR_TEMP (i : Nat) : Nat := 0x00200800 + i * 0x4
def F.PWR_TEMP_VALUE (i : Nat) : Fld := ⟨R.PWR_TEMP i, 0, 16, false, 0, []⟩
def F.PWR_TEMP_FAILED (i : Nat) : Fld := ⟨R.PWR_TEMP i, 16, 1, false, 0, []⟩
def R.PWR_AGE (i : Nat) : Nat := 0x00200900 + i * 0x4
def F.PWR_AGE (i : Nat) : Fld := ⟨R.PWR_AGE i, 0, 20, false, 0, []⟩

/-! ## Block BUS (R160/R161) -/

def R.BUS_PAR_STATUS : Nat := 0x00300000
def F.BUS_PAR_STATUS_PENDING : Fld := ⟨R.BUS_PAR_STATUS, 0, 1, false, 0, []⟩
def F.BUS_PAR_STATUS_FIRST_BLOCK : Fld := ⟨R.BUS_PAR_STATUS, 8, 8, false, 0, []⟩
def F.BUS_PAR_STATUS_COUNT : Fld := ⟨R.BUS_PAR_STATUS, 16, 16, false, 0, []⟩
def R.BUS_PAR_ADDR : Nat := 0x00300004
def F.BUS_PAR_ADDR : Fld := ⟨R.BUS_PAR_ADDR, 0, 27, false, 0, []⟩
def R.BUS_PAR_POLICY : Nat := 0x00300008
def F.BUS_PAR_POLICY : Fld := ⟨R.BUS_PAR_POLICY, 0, 24, false, 0, []⟩
def R.BUS_PAR_HOLD : Nat := 0x0030000C
def F.BUS_PAR_HOLD : Fld := ⟨R.BUS_PAR_HOLD, 0, 24, false, 0, []⟩
def R.BUS_SCRUB_PASSES : Nat := 0x00300010
def F.BUS_SCRUB_PASSES : Fld := ⟨R.BUS_SCRUB_PASSES, 0, 32, false, 0, []⟩
def R.BUS_ERRLOG_COUNT : Nat := 0x00300020
def F.BUS_ERRLOG_COUNT : Fld := ⟨R.BUS_ERRLOG_COUNT, 0, 32, false, 0, []⟩
def R.BUS_ARB_CTRL : Nat := 0x00300030
def F.BUS_ARB_CTRL_AGE_LIMIT : Fld := ⟨R.BUS_ARB_CTRL, 0, 16, false, 1024, [(16, 65535)]⟩
def R.BUS_ERRLOG_ADDR (i : Nat) : Nat := 0x00300100 + i * 0x10
def F.BUS_ERRLOG_ADDR (i : Nat) : Fld := ⟨R.BUS_ERRLOG_ADDR i, 0, 32, false, 0, []⟩
def R.BUS_ERRLOG_INFO (i : Nat) : Nat := 0x00300104 + i * 0x10
def F.BUS_ERRLOG_INFO_MASTER (i : Nat) : Fld := ⟨R.BUS_ERRLOG_INFO i, 0, 4, false, 0, []⟩
def F.BUS_ERRLOG_INFO_KIND (i : Nat) : Fld := ⟨R.BUS_ERRLOG_INFO i, 4, 4, false, 0, []⟩
def F.BUS_ERRLOG_INFO_WRITE (i : Nat) : Fld := ⟨R.BUS_ERRLOG_INFO i, 8, 1, false, 0, []⟩
def F.BUS_ERRLOG_INFO_BYTES (i : Nat) : Fld := ⟨R.BUS_ERRLOG_INFO i, 9, 4, false, 0, []⟩
def R.BUS_ERRLOG_TIME (i : Nat) : Nat := 0x00300108 + i * 0x10
def F.BUS_ERRLOG_TIME (i : Nat) : Fld := ⟨R.BUS_ERRLOG_TIME i, 0, 64, false, 0, []⟩
def R.BUS_MSTR_STATUS (i : Nat) : Nat := 0x00300200 + i * 0x4
def F.BUS_MSTR_STATUS_RD_OUT (i : Nat) : Fld := ⟨R.BUS_MSTR_STATUS i, 0, 8, false, 0, []⟩
def F.BUS_MSTR_STATUS_WR_OUT (i : Nat) : Fld := ⟨R.BUS_MSTR_STATUS i, 8, 8, false, 0, []⟩
def F.BUS_MSTR_STATUS_DRAINING (i : Nat) : Fld := ⟨R.BUS_MSTR_STATUS i, 16, 1, false, 0, []⟩
def F.BUS_MSTR_STATUS_HELD (i : Nat) : Fld := ⟨R.BUS_MSTR_STATUS i, 17, 1, false, 0, []⟩
def F.BUS_MSTR_STATUS_HOLD_WHY (i : Nat) : Fld := ⟨R.BUS_MSTR_STATUS i, 18, 2, false, 0, []⟩
def R.BUS_TGT_PARK (i : Nat) : Nat := 0x00300300 + i * 0x4
def F.BUS_TGT_PARK (i : Nat) : Fld := ⟨R.BUS_TGT_PARK i, 0, 4, false, 0, []⟩

/-! ## Block EVT (R492/R493) -/

def R.EVT_CTRL : Nat := 0x00400000
def F.EVT_CTRL_ENABLE : Fld := ⟨R.EVT_CTRL, 0, 1, false, 0, []⟩
def R.EVT_STICKY : Nat := 0x00400004
def F.EVT_STICKY_OVERFLOW : Fld := ⟨R.EVT_STICKY, 0, 1, false, 0, []⟩
def F.EVT_STICKY_RING_ERR : Fld := ⟨R.EVT_STICKY, 1, 1, false, 0, []⟩
def R.EVT_RING_BASE : Nat := 0x00400008
def F.EVT_RING_BASE : Fld := ⟨R.EVT_RING_BASE, 12, 52, false, 0, []⟩
def R.EVT_RING_SIZE : Nat := 0x00400010
def F.EVT_RING_SIZE_SIZE : Fld := ⟨R.EVT_RING_SIZE, 0, 5, false, 10, [(6, 16)]⟩
def R.EVT_RING_HEAD : Nat := 0x00400014
def F.EVT_RING_HEAD_HEAD : Fld := ⟨R.EVT_RING_HEAD, 0, 16, false, 0, []⟩
def R.EVT_RING_TAIL : Nat := 0x00400018
def F.EVT_RING_TAIL_TAIL : Fld := ⟨R.EVT_RING_TAIL, 0, 16, false, 0, []⟩
def F.EVT_RING_TAIL_LAP : Fld := ⟨R.EVT_RING_TAIL, 16, 1, false, 0, []⟩
def R.EVT_RESV0 : Nat := 0x0040001C
def F.EVT_RESV0_RESV_S : Fld := ⟨R.EVT_RESV0, 0, 16, false, 0, []⟩
def F.EVT_RESV0_RESV_V : Fld := ⟨R.EVT_RESV0, 16, 16, false, 0, []⟩
def R.EVT_RESV1 : Nat := 0x00400020
def F.EVT_RESV1_RESV_T : Fld := ⟨R.EVT_RESV1, 0, 16, false, 0, []⟩
def R.EVT_DROP (i : Nat) : Nat := 0x00400030 + i * 0x4
def F.EVT_DROP (i : Nat) : Fld := ⟨R.EVT_DROP i, 0, 32, false, 0, []⟩
def R.EVT_RECORDS : Nat := 0x00400040
def F.EVT_RECORDS : Fld := ⟨R.EVT_RECORDS, 0, 64, false, 0, []⟩
def R.EVT_PEND (i : Nat) : Nat := 0x00400100 + i * 0x4
def F.EVT_PEND (i : Nat) : Fld := ⟨R.EVT_PEND i, 0, 32, false, 0, []⟩
def R.EVT_ARM (i : Nat) : Nat := 0x00400200 + i * 0x4
def F.EVT_ARM (i : Nat) : Fld := ⟨R.EVT_ARM i, 0, 32, false, 4294967295, []⟩
def R.EVT_HSUM (i : Nat) : Nat := 0x00400300 + i * 0x4
def F.EVT_HSUM (i : Nat) : Fld := ⟨R.EVT_HSUM i, 0, 32, false, 0, []⟩
def R.EVT_ROUTE (i : Nat) : Nat := 0x00401000 + i * 0x4
def F.EVT_ROUTE_ENABLE (i : Nat) : Fld := ⟨R.EVT_ROUTE i, 0, 1, false, 1, []⟩
def F.EVT_ROUTE_RING (i : Nat) : Fld := ⟨R.EVT_ROUTE i, 1, 1, false, 0, []⟩
def F.EVT_ROUTE_MSI (i : Nat) : Fld := ⟨R.EVT_ROUTE i, 2, 1, false, 0, []⟩
def F.EVT_ROUTE_PIN_A (i : Nat) : Fld := ⟨R.EVT_ROUTE i, 3, 1, false, 0, []⟩
def F.EVT_ROUTE_PIN_B (i : Nat) : Fld := ⟨R.EVT_ROUTE i, 4, 1, false, 0, []⟩
def F.EVT_ROUTE_CLASS (i : Nat) : Fld := ⟨R.EVT_ROUTE i, 5, 2, false, 0, []⟩
def F.EVT_ROUTE_VECTOR (i : Nat) : Fld := ⟨R.EVT_ROUTE i, 8, 8, false, 0, []⟩

/-! ## Block TAL (R496/R497) -/

def R.TAL_CTRL : Nat := 0x00500000
def F.TAL_CTRL_ENABLE : Fld := ⟨R.TAL_CTRL, 0, 1, false, 0, []⟩
def F.TAL_CTRL_WHERE : Fld := ⟨R.TAL_CTRL, 1, 1, false, 0, []⟩
def F.TAL_CTRL_PERIOD : Fld := ⟨R.TAL_CTRL, 16, 16, false, 8000, [(1, 65535)]⟩
def R.TAL_RING_BASE : Nat := 0x00500008
def F.TAL_RING_BASE : Fld := ⟨R.TAL_RING_BASE, 11, 53, false, 0, []⟩
def R.TAL_RING_SLOTS : Nat := 0x00500010
def F.TAL_RING_SLOTS : Fld := ⟨R.TAL_RING_SLOTS, 0, 5, false, 8, [(4, 16)]⟩
def R.TAL_RING_HEAD : Nat := 0x00500014
def F.TAL_RING_HEAD : Fld := ⟨R.TAL_RING_HEAD, 0, 16, false, 0, []⟩
def R.TAL_RING_TAIL : Nat := 0x00500018
def F.TAL_RING_TAIL : Fld := ⟨R.TAL_RING_TAIL, 0, 16, false, 0, []⟩
def R.TAL_STICKY : Nat := 0x0050001C
def F.TAL_STICKY_SNAP_LOST : Fld := ⟨R.TAL_STICKY, 0, 1, false, 0, []⟩
def F.TAL_STICKY_TAG_LOST : Fld := ⟨R.TAL_STICKY, 1, 1, false, 0, []⟩
def R.TAL_TAG_CFG : Nat := 0x00500020
def F.TAL_TAG_CFG_TAG_EN : Fld := ⟨R.TAL_TAG_CFG, 0, 1, false, 0, []⟩
def F.TAL_TAG_CFG_TAG_WHERE : Fld := ⟨R.TAL_TAG_CFG, 1, 1, false, 0, []⟩
def F.TAL_TAG_CFG_K : Fld := ⟨R.TAL_TAG_CFG, 2, 5, false, 12, [(4, 20)]⟩
def F.TAL_TAG_CFG_TAG_SIZE : Fld := ⟨R.TAL_TAG_CFG, 7, 5, false, 12, [(8, 20)]⟩
def R.TAL_TAG_BASE : Nat := 0x00500028
def F.TAL_TAG_BASE : Fld := ⟨R.TAL_TAG_BASE, 12, 52, false, 0, []⟩
def R.TAL_TAG_HEAD : Nat := 0x00500030
def F.TAL_TAG_HEAD : Fld := ⟨R.TAL_TAG_HEAD, 0, 20, false, 0, []⟩
def R.TAL_TAG_TAIL : Nat := 0x00500034
def F.TAL_TAG_TAIL : Fld := ⟨R.TAL_TAG_TAIL, 0, 20, false, 0, []⟩
def R.TAL_SLOT_ENG (i : Nat) : Nat := 0x00500040 + i * 0x4
def F.TAL_SLOT_ENG (i : Nat) : Fld := ⟨R.TAL_SLOT_ENG i, 0, 32, false, 4294967295, []⟩
def R.TAL_TAG_ENG (i : Nat) : Nat := 0x00500050 + i * 0x4
def F.TAL_TAG_ENG (i : Nat) : Fld := ⟨R.TAL_TAG_ENG i, 0, 32, false, 0, []⟩
def R.TAL_TAG_SEED (i : Nat) : Nat := 0x00500800 + i * 0x4
def F.TAL_TAG_SEED (i : Nat) : Fld := ⟨R.TAL_TAG_SEED i, 0, 24, false, 1, [(1, 16777215)]⟩
def R.TAL_CNT (i j : Nat) : Nat := 0x00501000 + i * 0x40 + j * 0x8
def F.TAL_CNT (i j : Nat) : Fld := ⟨R.TAL_CNT i j, 0, 64, false, 0, []⟩

/-! ## Block CAL (R127) -/

def R.CAL_STATUS : Nat := 0x00600000
def F.CAL_STATUS_CAL_INVALID : Fld := ⟨R.CAL_STATUS, 0, 1, false, 0, []⟩
def F.CAL_STATUS_BUSY : Fld := ⟨R.CAL_STATUS, 1, 1, false, 0, []⟩
def F.CAL_STATUS_RESULT : Fld := ⟨R.CAL_STATUS, 2, 2, false, 0, []⟩
def R.CAL_CTRL : Nat := 0x00600004
def F.CAL_CTRL_KEY : Fld := ⟨R.CAL_CTRL, 0, 16, false, 0, []⟩
def F.CAL_CTRL_PROGRAM : Fld := ⟨R.CAL_CTRL, 16, 1, false, 0, []⟩
def R.CAL_WRITES : Nat := 0x00600008
def F.CAL_WRITES : Fld := ⟨R.CAL_WRITES, 0, 11, false, 0, []⟩
def R.CAL_PAGE (i : Nat) : Nat := 0x00601000 + i * 0x4
def F.CAL_PAGE (i : Nat) : Fld := ⟨R.CAL_PAGE i, 0, 32, false, 0, []⟩
def R.CAL_STAGE (i : Nat) : Nat := 0x00602000 + i * 0x4
def F.CAL_STAGE (i : Nat) : Fld := ⟨R.CAL_STAGE i, 0, 32, false, 0, []⟩

/-! ## Block TILE (R190/R191/R218) -/

def R.TILE_CTRL (t : Nat) : Nat := 0x01000000 + t * 0x100000
def F.TILE_CTRL_ENABLE (t : Nat) : Fld := ⟨R.TILE_CTRL t, 0, 1, false, 0, []⟩
def F.TILE_CTRL_ADMIT_PCT (t : Nat) : Fld := ⟨R.TILE_CTRL t, 8, 7, false, 90, [(50, 100)]⟩
def R.TILE_STATUS (t : Nat) : Nat := 0x01000004 + t * 0x100000
def F.TILE_STATUS_ENG_ON (t : Nat) : Fld := ⟨R.TILE_STATUS t, 0, 12, false, 0, []⟩
def F.TILE_STATUS_ENG_RETIRED (t : Nat) : Fld := ⟨R.TILE_STATUS t, 12, 12, false, 0, []⟩
def R.TILE_REFILL_RATE (t : Nat) : Nat := 0x01000008 + t * 0x100000
def F.TILE_REFILL_RATE (t : Nat) : Fld := ⟨R.TILE_REFILL_RATE t, 0, 13, true, 1024, [(64, 4096)]⟩
def R.TILE_COMMIT (t : Nat) : Nat := 0x0100000C + t * 0x100000
def F.TILE_COMMIT_GO (t : Nat) : Fld := ⟨R.TILE_COMMIT t, 0, 1, false, 0, []⟩
def R.TILE_BREACH_COUNT (t : Nat) : Nat := 0x01000010 + t * 0x100000
def F.TILE_BREACH_COUNT (t : Nat) : Fld := ⟨R.TILE_BREACH_COUNT t, 0, 64, false, 0, []⟩
def R.TILE_REFILLS (t : Nat) : Nat := 0x01000018 + t * 0x100000
def F.TILE_REFILLS (t : Nat) : Fld := ⟨R.TILE_REFILLS t, 0, 64, false, 0, []⟩
def R.TILE_ENG_LOAD (t i : Nat) : Nat := 0x01000100 + t * 0x100000 + i * 0x10
def F.TILE_ENG_LOAD_SWC (t i : Nat) : Fld := ⟨R.TILE_ENG_LOAD t i, 0, 16, false, 0, []⟩
def F.TILE_ENG_LOAD_NOM (t i : Nat) : Fld := ⟨R.TILE_ENG_LOAD t i, 16, 16, false, 0, []⟩
def R.TILE_ENG_PLOAD (t i : Nat) : Nat := 0x01000104 + t * 0x100000 + i * 0x10
def F.TILE_ENG_PLOAD_WC (t i : Nat) : Fld := ⟨R.TILE_ENG_PLOAD t i, 0, 16, false, 0, []⟩
def F.TILE_ENG_PLOAD_CHANS (t i : Nat) : Fld := ⟨R.TILE_ENG_PLOAD t i, 16, 7, false, 0, []⟩
def R.TILE_HBM (t i : Nat) : Nat := 0x01001000 + t * 0x100000 + i * 0x8
def F.TILE_HBM (t i : Nat) : Fld := ⟨R.TILE_HBM t i, 0, 64, false, 0, []⟩
def R.TILE_THR (t i : Nat) : Nat := 0x01002000 + t * 0x100000 + i * 0x10
def F.TILE_THR_LOADED (t i : Nat) : Fld := ⟨R.TILE_THR t i, 0, 1, false, 0, []⟩
def F.TILE_THR_CLASS (t i : Nat) : Fld := ⟨R.TILE_THR t i, 1, 2, false, 0, []⟩
def F.TILE_THR_COUNT (t i : Nat) : Fld := ⟨R.TILE_THR t i, 3, 7, false, 0, []⟩
def F.TILE_THR_PENNANT_HOST (t i : Nat) : Fld := ⟨R.TILE_THR t i, 10, 1, false, 0, []⟩
def F.TILE_THR_MOVING (t i : Nat) : Fld := ⟨R.TILE_THR t i, 11, 1, false, 0, []⟩
def R.TILE_FAULT (t i : Nat) : Nat := 0x01002004 + t * 0x100000 + i * 0x10
def F.TILE_FAULT_CODE (t i : Nat) : Fld := ⟨R.TILE_FAULT t i, 0, 4, false, 0, []⟩
def F.TILE_FAULT_HX (t i : Nat) : Fld := ⟨R.TILE_FAULT t i, 4, 6, false, 0, []⟩
def F.TILE_FAULT_PENDING (t i : Nat) : Fld := ⟨R.TILE_FAULT t i, 10, 1, false, 0, []⟩
def F.TILE_FAULT_COUNT (t i : Nat) : Fld := ⟨R.TILE_FAULT t i, 16, 16, false, 0, []⟩
def R.TILE_FAULT_PC (t i : Nat) : Nat := 0x01002008 + t * 0x100000 + i * 0x10
def F.TILE_FAULT_PC_PC (t i : Nat) : Fld := ⟨R.TILE_FAULT_PC t i, 0, 17, false, 0, []⟩
def R.TILE_FAULT_TICK (t i : Nat) : Nat := 0x0100200C + t * 0x100000 + i * 0x10
def F.TILE_FAULT_TICK_TICK (t i : Nat) : Fld := ⟨R.TILE_FAULT_TICK t i, 0, 32, false, 0, []⟩
def R.CHT_CFG : Nat := 0x01003000
def F.CHT_CFG_WHERE : Fld := ⟨R.CHT_CFG, 0, 2, false, 0, [(0, 2)]⟩
def R.CHT_BASE : Nat := 0x01003008
def F.CHT_BASE : Fld := ⟨R.CHT_BASE, 22, 42, false, 0, []⟩
def R.CTX_RD_SEL : Nat := 0x01003010
def F.CTX_RD_SEL_CHAN : Fld := ⟨R.CTX_RD_SEL, 0, 14, false, 0, []⟩
def F.CTX_RD_SEL_GO : Fld := ⟨R.CTX_RD_SEL, 31, 1, false, 0, []⟩
def R.CTX_RD_HDR (i : Nat) : Nat := 0x01003040 + i * 0x4
def F.CTX_RD_HDR (i : Nat) : Fld := ⟨R.CTX_RD_HDR i, 0, 32, false, 0, []⟩
def R.CTX_PINNED : Nat := 0x01003080
def F.CTX_PINNED : Fld := ⟨R.CTX_PINNED, 0, 12, false, 0, []⟩
def R.CTX_MISSES : Nat := 0x01003088
def F.CTX_MISSES : Fld := ⟨R.CTX_MISSES, 0, 64, false, 0, []⟩
def R.CTX_PEN_ONLY : Nat := 0x01003090
def F.CTX_PEN_ONLY : Fld := ⟨R.CTX_PEN_ONLY, 0, 64, false, 0, []⟩

/-! ## Block LIN (R276-R280) -/

def R.LIN_COMMIT : Nat := 0x02000000
def F.LIN_COMMIT_GO : Fld := ⟨R.LIN_COMMIT, 0, 1, false, 0, []⟩
def R.LIN_AGG_RATE : Nat := 0x02000004
def F.LIN_AGG_RATE : Fld := ⟨R.LIN_AGG_RATE, 0, 16, false, 0, []⟩
def R.LIN_QUAD_CFG (i : Nat) : Nat := 0x02000100 + i * 0x10
def F.LIN_QUAD_CFG_FAMILY (i : Nat) : Fld := ⟨R.LIN_QUAD_CFG i, 0, 3, false, 0, [(0, 6)]⟩
def F.LIN_QUAD_CFG_SRC (i : Nat) : Fld := ⟨R.LIN_QUAD_CFG i, 4, 3, false, 1, []⟩
def F.LIN_QUAD_CFG_LOOP_LANE (i : Nat) : Fld := ⟨R.LIN_QUAD_CFG i, 8, 2, false, 0, []⟩
def R.LIN_QUAD_STATUS (i : Nat) : Nat := 0x02000104 + i * 0x10
def F.LIN_QUAD_STATUS_LOCK (i : Nat) : Fld := ⟨R.LIN_QUAD_STATUS i, 0, 1, false, 0, []⟩
def F.LIN_QUAD_STATUS_COAST (i : Nat) : Fld := ⟨R.LIN_QUAD_STATUS i, 1, 1, false, 0, []⟩
def R.LIN_LANE_CFG (i : Nat) : Nat := 0x02001000 + i * 0x40
def F.LIN_LANE_CFG_ENABLE (i : Nat) : Fld := ⟨R.LIN_LANE_CFG i, 0, 1, false, 0, []⟩
def F.LIN_LANE_CFG_MODE (i : Nat) : Fld := ⟨R.LIN_LANE_CFG i, 1, 4, false, 0, [(0, 10)]⟩
def F.LIN_LANE_CFG_FEC (i : Nat) : Fld := ⟨R.LIN_LANE_CFG i, 5, 2, false, 0, [(0, 2)]⟩
def F.LIN_LANE_CFG_RX_INV (i : Nat) : Fld := ⟨R.LIN_LANE_CFG i, 7, 1, false, 0, []⟩
def F.LIN_LANE_CFG_TX_INV (i : Nat) : Fld := ⟨R.LIN_LANE_CFG i, 8, 1, false, 0, []⟩
def F.LIN_LANE_CFG_TX_EN (i : Nat) : Fld := ⟨R.LIN_LANE_CFG i, 9, 1, true, 0, []⟩
def F.LIN_LANE_CFG_LOOPBACK (i : Nat) : Fld := ⟨R.LIN_LANE_CFG i, 10, 2, false, 0, [(0, 2)]⟩
def F.LIN_LANE_CFG_STAT_EN (i : Nat) : Fld := ⟨R.LIN_LANE_CFG i, 12, 1, false, 0, []⟩
def F.LIN_LANE_CFG_UNTAGGED_EN (i : Nat) : Fld := ⟨R.LIN_LANE_CFG i, 13, 1, false, 0, []⟩
def F.LIN_LANE_CFG_MAX_LEN (i : Nat) : Fld := ⟨R.LIN_LANE_CFG i, 18, 14, false, 1522, [(64, 9600)]⟩
def R.LIN_LANE_SID (i : Nat) : Nat := 0x02001004 + i * 0x40
def F.LIN_LANE_SID_SID (i : Nat) : Fld := ⟨R.LIN_LANE_SID i, 0, 14, false, 0, []⟩
def F.LIN_LANE_SID_STAT_SID (i : Nat) : Fld := ⟨R.LIN_LANE_SID i, 16, 14, false, 0, []⟩
def R.LIN_LANE_STATUS (i : Nat) : Nat := 0x02001008 + i * 0x40
def F.LIN_LANE_STATUS_SIGNAL (i : Nat) : Fld := ⟨R.LIN_LANE_STATUS i, 0, 1, false, 0, []⟩
def F.LIN_LANE_STATUS_CDR_LOCK (i : Nat) : Fld := ⟨R.LIN_LANE_STATUS i, 1, 1, false, 0, []⟩
def F.LIN_LANE_STATUS_PCS_LOCK (i : Nat) : Fld := ⟨R.LIN_LANE_STATUS i, 2, 1, false, 0, []⟩
def F.LIN_LANE_STATUS_DESCR_ON (i : Nat) : Fld := ⟨R.LIN_LANE_STATUS i, 3, 1, false, 0, []⟩
def R.LIN_LANE_STICKY (i : Nat) : Nat := 0x0200100C + i * 0x40
def F.LIN_LANE_STICKY_LOS_SEEN (i : Nat) : Fld := ⟨R.LIN_LANE_STICKY i, 0, 1, false, 0, []⟩
def F.LIN_LANE_STICKY_LOL_SEEN (i : Nat) : Fld := ⟨R.LIN_LANE_STICKY i, 1, 1, false, 0, []⟩
def F.LIN_LANE_STICKY_TXU_SEEN (i : Nat) : Fld := ⟨R.LIN_LANE_STICKY i, 2, 1, false, 0, []⟩
def F.LIN_LANE_STICKY_TXO_SEEN (i : Nat) : Fld := ⟨R.LIN_LANE_STICKY i, 3, 1, false, 0, []⟩
def F.LIN_LANE_STICKY_RX_OVERRUN (i : Nat) : Fld := ⟨R.LIN_LANE_STICKY i, 4, 1, false, 0, []⟩
def F.LIN_LANE_STICKY_FEC_UNCORR (i : Nat) : Fld := ⟨R.LIN_LANE_STICKY i, 5, 1, false, 0, []⟩
def R.LIN_LANE_RXDISC (i : Nat) : Nat := 0x02001010 + i * 0x40
def F.LIN_LANE_RXDISC (i : Nat) : Fld := ⟨R.LIN_LANE_RXDISC i, 0, 64, false, 0, []⟩
def R.LIN_LANE_TXERR (i : Nat) : Nat := 0x02001018 + i * 0x40
def F.LIN_LANE_TXERR_TX_UNDERRUN (i : Nat) : Fld := ⟨R.LIN_LANE_TXERR i, 0, 32, false, 0, []⟩
def F.LIN_LANE_TXERR_TX_OVERRUN (i : Nat) : Fld := ⟨R.LIN_LANE_TXERR i + 4, 0, 32, false, 0, []⟩
def R.LIN_LANE_REPHASE (i : Nat) : Nat := 0x02001020 + i * 0x40
def F.LIN_LANE_REPHASE (i : Nat) : Fld := ⟨R.LIN_LANE_REPHASE i, 0, 32, false, 0, []⟩
def R.LIN_BUND_CFG (i : Nat) : Nat := 0x02002000 + i * 0x40
def F.LIN_BUND_CFG_ENABLE (i : Nat) : Fld := ⟨R.LIN_BUND_CFG i, 0, 1, false, 0, []⟩
def F.LIN_BUND_CFG_TX_EN (i : Nat) : Fld := ⟨R.LIN_BUND_CFG i, 1, 1, true, 0, []⟩
def R.LIN_BUND_SID (i : Nat) : Nat := 0x02002004 + i * 0x40
def F.LIN_BUND_SID (i : Nat) : Fld := ⟨R.LIN_BUND_SID i, 0, 14, false, 0, []⟩
def R.LIN_BUND_STATUS (i : Nat) : Nat := 0x02002008 + i * 0x40
def F.LIN_BUND_STATUS_IN_FRAME (i : Nat) : Fld := ⟨R.LIN_BUND_STATUS i, 0, 1, false, 0, []⟩
def F.LIN_BUND_STATUS_BANK_STATUS (i : Nat) : Fld := ⟨R.LIN_BUND_STATUS i, 8, 8, false, 0, []⟩
def R.LIN_BTRIB (i j : Nat) : Nat := 0x02004000 + i * 0x200 + j * 0x4
def F.LIN_BTRIB_SID (i j : Nat) : Fld := ⟨R.LIN_BTRIB i j, 0, 14, false, 0, []⟩
def F.LIN_BTRIB_EN (i j : Nat) : Fld := ⟨R.LIN_BTRIB i j, 14, 1, false, 0, []⟩
def F.LIN_BTRIB_STAT_EN (i j : Nat) : Fld := ⟨R.LIN_BTRIB i j, 15, 1, false, 0, []⟩
def F.LIN_BTRIB_STAT_SID (i j : Nat) : Fld := ⟨R.LIN_BTRIB i j, 16, 14, false, 0, []⟩
def R.LIN_DP_CFG (i : Nat) : Nat := 0x02006000 + i * 0x40
def F.LIN_DP_CFG_ENABLE (i : Nat) : Fld := ⟨R.LIN_DP_CFG i, 0, 1, false, 0, []⟩
def F.LIN_DP_CFG_MODE (i : Nat) : Fld := ⟨R.LIN_DP_CFG i, 1, 1, false, 0, []⟩
def F.LIN_DP_CFG_RX_EDGE (i : Nat) : Fld := ⟨R.LIN_DP_CFG i, 2, 1, false, 0, []⟩
def F.LIN_DP_CFG_TX_EDGE (i : Nat) : Fld := ⟨R.LIN_DP_CFG i, 3, 1, false, 0, []⟩
def F.LIN_DP_CFG_TXCLK (i : Nat) : Fld := ⟨R.LIN_DP_CFG i, 4, 2, false, 0, [(0, 2)]⟩
def F.LIN_DP_CFG_STAT_EN (i : Nat) : Fld := ⟨R.LIN_DP_CFG i, 6, 1, false, 0, []⟩
def F.LIN_DP_CFG_TX_EN (i : Nat) : Fld := ⟨R.LIN_DP_CFG i, 7, 1, true, 0, []⟩
def F.LIN_DP_CFG_RATE_WIN (i : Nat) : Fld := ⟨R.LIN_DP_CFG i, 8, 8, true, 16, [(1, 255)]⟩
def R.LIN_DP_RATE (i : Nat) : Nat := 0x02006004 + i * 0x40
def F.LIN_DP_RATE_NOMINAL (i : Nat) : Fld := ⟨R.LIN_DP_RATE i, 0, 24, false, 2048000, [(600, 2048000)]⟩
def F.LIN_DP_RATE_RATE_TOL (i : Nat) : Fld := ⟨R.LIN_DP_RATE i, 24, 8, true, 40, [(1, 255)]⟩
def R.LIN_DP_SID (i : Nat) : Nat := 0x02006008 + i * 0x40
def F.LIN_DP_SID_SID (i : Nat) : Fld := ⟨R.LIN_DP_SID i, 0, 14, false, 0, []⟩
def F.LIN_DP_SID_STAT_SID (i : Nat) : Fld := ⟨R.LIN_DP_SID i, 16, 14, false, 0, []⟩
def R.LIN_DP_STATUS (i : Nat) : Nat := 0x0200600C + i * 0x40
def F.LIN_DP_STATUS_CLK_PRESENT (i : Nat) : Fld := ⟨R.LIN_DP_STATUS i, 0, 1, false, 0, []⟩
def F.LIN_DP_STATUS_RATE_OK (i : Nat) : Fld := ⟨R.LIN_DP_STATUS i, 1, 1, false, 0, []⟩
def F.LIN_DP_STATUS_MEASURED (i : Nat) : Fld := ⟨R.LIN_DP_STATUS i, 8, 24, false, 0, []⟩
def R.LIN_DP_STICKY (i : Nat) : Nat := 0x02006010 + i * 0x40
def F.LIN_DP_STICKY_CLK_STOP (i : Nat) : Fld := ⟨R.LIN_DP_STICKY i, 0, 1, false, 0, []⟩
def F.LIN_DP_STICKY_GLITCH (i : Nat) : Fld := ⟨R.LIN_DP_STICKY i, 1, 1, false, 0, []⟩
def F.LIN_DP_STICKY_RATE (i : Nat) : Fld := ⟨R.LIN_DP_STICKY i, 2, 1, false, 0, []⟩
def F.LIN_DP_STICKY_TXU_SEEN (i : Nat) : Fld := ⟨R.LIN_DP_STICKY i, 3, 1, false, 0, []⟩
def F.LIN_DP_STICKY_TXO_SEEN (i : Nat) : Fld := ⟨R.LIN_DP_STICKY i, 4, 1, false, 0, []⟩
def F.LIN_DP_STICKY_RX_OVERRUN (i : Nat) : Fld := ⟨R.LIN_DP_STICKY i, 5, 1, false, 0, []⟩
def R.LIN_DISC_CFG : Nat := 0x02008000
def F.LIN_DISC_CFG_ETYPE : Fld := ⟨R.LIN_DISC_CFG, 0, 16, true, 34997, []⟩
def F.LIN_DISC_CFG_HAIL_PER : Fld := ⟨R.LIN_DISC_CFG, 16, 8, true, 128, [(1, 255)]⟩
def R.LIN_DISC_CAPS : Nat := 0x02008004
def F.LIN_DISC_CAPS : Fld := ⟨R.LIN_DISC_CAPS, 0, 8, false, 0, []⟩
def R.LIN_DISC_SA : Nat := 0x02008008
def F.LIN_DISC_SA : Fld := ⟨R.LIN_DISC_SA, 0, 48, false, 0, []⟩
def R.LIN_DISC_CTRL (i : Nat) : Nat := 0x02008100 + i * 0x20
def F.LIN_DISC_CTRL_EN (i : Nat) : Fld := ⟨R.LIN_DISC_CTRL i, 0, 1, false, 0, []⟩
def F.LIN_DISC_CTRL_CLEAR (i : Nat) : Fld := ⟨R.LIN_DISC_CTRL i, 1, 1, false, 0, []⟩
def F.LIN_DISC_CTRL_ETH (i : Nat) : Fld := ⟨R.LIN_DISC_CTRL i, 2, 1, false, 0, []⟩
def F.LIN_DISC_CTRL_LANE (i : Nat) : Fld := ⟨R.LIN_DISC_CTRL i, 4, 4, false, 0, []⟩
def F.LIN_DISC_CTRL_PORT (i : Nat) : Fld := ⟨R.LIN_DISC_CTRL i, 8, 8, false, 0, []⟩
def F.LIN_DISC_CTRL_SRC_SID (i : Nat) : Fld := ⟨R.LIN_DISC_CTRL i, 16, 14, false, 0, []⟩
def R.LIN_DISC_STATE (i : Nat) : Nat := 0x02008104 + i * 0x20
def F.LIN_DISC_STATE_STATE (i : Nat) : Fld := ⟨R.LIN_DISC_STATE i, 0, 2, false, 0, []⟩
def F.LIN_DISC_STATE_CHANGED (i : Nat) : Fld := ⟨R.LIN_DISC_STATE i, 2, 1, false, 0, []⟩
def F.LIN_DISC_STATE_NEG_SEEN (i : Nat) : Fld := ⟨R.LIN_DISC_STATE i, 3, 1, false, 0, []⟩
def F.LIN_DISC_STATE_PEER_PORT (i : Nat) : Fld := ⟨R.LIN_DISC_STATE i, 8, 8, false, 0, []⟩
def F.LIN_DISC_STATE_PEER_CAPS (i : Nat) : Fld := ⟨R.LIN_DISC_STATE i, 16, 16, false, 0, []⟩
def R.LIN_DISC_BURGEE (i : Nat) : Nat := 0x02008108 + i * 0x20
def F.LIN_DISC_BURGEE (i : Nat) : Fld := ⟨R.LIN_DISC_BURGEE i, 0, 64, false, 0, []⟩
def R.LIN_VLAN (i j : Nat) : Nat := 0x02020000 + i * 0x2000 + j * 0x4
def F.LIN_VLAN_SID0 (i j : Nat) : Fld := ⟨R.LIN_VLAN i j, 0, 14, false, 0, []⟩
def F.LIN_VLAN_VALID0 (i j : Nat) : Fld := ⟨R.LIN_VLAN i j, 14, 1, false, 0, []⟩
def F.LIN_VLAN_SID1 (i j : Nat) : Fld := ⟨R.LIN_VLAN i j, 16, 14, false, 0, []⟩
def F.LIN_VLAN_VALID1 (i j : Nat) : Fld := ⟨R.LIN_VLAN i j, 30, 1, false, 0, []⟩

/-! ## Block DEF (R302/R303) -/

def R.DEF_CTRL : Nat := 0x02100000
def F.DEF_CTRL_ENABLE : Fld := ⟨R.DEF_CTRL, 0, 1, false, 0, []⟩
def R.DEF_COMMIT : Nat := 0x02100004
def F.DEF_COMMIT_GO : Fld := ⟨R.DEF_COMMIT, 0, 1, false, 0, []⟩
def R.DEF_STICKY : Nat := 0x02100008
def F.DEF_STICKY_SVC_REJECT : Fld := ⟨R.DEF_STICKY, 0, 1, false, 0, []⟩
def F.DEF_STICKY_SVC_DROPPED : Fld := ⟨R.DEF_STICKY, 1, 1, false, 0, []⟩
def R.DEF_SVC_COUNT : Nat := 0x02100010
def F.DEF_SVC_COUNT : Fld := ⟨R.DEF_SVC_COUNT, 0, 64, false, 0, []⟩
def R.DEF_SVC_REJECTS : Nat := 0x02100018
def F.DEF_SVC_REJECTS : Fld := ⟨R.DEF_SVC_REJECTS, 0, 32, false, 0, []⟩
def R.DEF_TYPE_MASK (i : Nat) : Nat := 0x02100100 + i * 0x4
def F.DEF_TYPE_MASK_SF_MASK (i : Nat) : Fld := ⟨R.DEF_TYPE_MASK i, 0, 16, true, 5069, []⟩
def F.DEF_TYPE_MASK_SD_MASK (i : Nat) : Fld := ⟨R.DEF_TYPE_MASK i, 16, 16, true, 2080, []⟩
def R.DEF_SF (i : Nat) : Nat := 0x02101000 + i * 0x4
def F.DEF_SF (i : Nat) : Fld := ⟨R.DEF_SF i, 0, 32, false, 0, []⟩
def R.DEF_SD (i : Nat) : Nat := 0x02101800 + i * 0x4
def F.DEF_SD (i : Nat) : Fld := ⟨R.DEF_SD i, 0, 32, false, 0, []⟩
def R.DEF_GRP_CHG (i : Nat) : Nat := 0x02102000 + i * 0x4
def F.DEF_GRP_CHG (i : Nat) : Fld := ⟨R.DEF_GRP_CHG i, 0, 32, false, 0, []⟩

/-! ## Block MAP (R335/R336) -/

def R.MAP_CTRL : Nat := 0x02200000
def F.MAP_CTRL_ENABLE : Fld := ⟨R.MAP_CTRL, 0, 1, false, 0, []⟩
def R.MAP_COMMIT : Nat := 0x02200004
def F.MAP_COMMIT_GO : Fld := ⟨R.MAP_COMMIT, 0, 1, false, 0, []⟩
def R.MAP_STICKY : Nat := 0x02200008
def F.MAP_STICKY_XC_INVALID : Fld := ⟨R.MAP_STICKY, 0, 1, false, 0, []⟩
def F.MAP_STICKY_SVC_REJECT : Fld := ⟨R.MAP_STICKY, 1, 1, false, 0, []⟩
def F.MAP_STICKY_RATE_CLAMPED : Fld := ⟨R.MAP_STICKY, 2, 1, false, 0, []⟩
def F.MAP_STICKY_SVC_DROPPED : Fld := ⟨R.MAP_STICKY, 3, 1, false, 0, []⟩
def F.MAP_STICKY_PT_SLIP : Fld := ⟨R.MAP_STICKY, 4, 1, false, 0, []⟩
def R.MAP_PWRX_DROPS : Nat := 0x02200010
def F.MAP_PWRX_DROPS : Fld := ⟨R.MAP_PWRX_DROPS, 0, 64, false, 0, []⟩
def R.MAP_PWTX_DROPS : Nat := 0x02200018
def F.MAP_PWTX_DROPS : Fld := ⟨R.MAP_PWTX_DROPS, 0, 64, false, 0, []⟩
def R.MAP_SVC_REJECTS : Nat := 0x02200020
def F.MAP_SVC_REJECTS : Fld := ⟨R.MAP_SVC_REJECTS, 0, 32, false, 0, []⟩
def R.MAP_PW_CLASS_SID : Nat := 0x02200024
def F.MAP_PW_CLASS_SID : Fld := ⟨R.MAP_PW_CLASS_SID, 0, 14, false, 0, []⟩
def R.MAP_PW_SA_LO : Nat := 0x02200028
def F.MAP_PW_SA_LO : Fld := ⟨R.MAP_PW_SA_LO, 0, 32, false, 0, []⟩
def R.MAP_PW_SA_HI : Nat := 0x0220002C
def F.MAP_PW_SA_HI : Fld := ⟨R.MAP_PW_SA_HI, 0, 16, false, 0, []⟩
def R.MAP_XC (i : Nat) : Nat := 0x02201000 + i * 0x4
def F.MAP_XC_PT (i : Nat) : Fld := ⟨R.MAP_XC i, 0, 1, true, 0, []⟩
def F.MAP_XC_SRC_LANE (i : Nat) : Fld := ⟨R.MAP_XC i, 1, 4, true, 0, []⟩
def F.MAP_XC_SRC_AU4 (i : Nat) : Fld := ⟨R.MAP_XC i, 5, 6, true, 0, []⟩
def F.MAP_XC_CONC (i : Nat) : Fld := ⟨R.MAP_XC i, 11, 2, true, 0, []⟩
def F.MAP_XC_FORCE_AIS (i : Nat) : Fld := ⟨R.MAP_XC i, 13, 1, true, 0, []⟩
def R.MAP_PT_STATUS (i : Nat) : Nat := 0x02202000 + i * 0x4
def F.MAP_PT_STATUS_STATE (i : Nat) : Fld := ⟨R.MAP_PT_STATUS i, 0, 2, false, 0, []⟩
def F.MAP_PT_STATUS_PTR (i : Nat) : Fld := ⟨R.MAP_PT_STATUS i, 2, 10, false, 0, []⟩
def F.MAP_PT_STATUS_VALID (i : Nat) : Fld := ⟨R.MAP_PT_STATUS i, 12, 1, false, 0, []⟩
def F.MAP_PT_STATUS_AIS_SEEN (i : Nat) : Fld := ⟨R.MAP_PT_STATUS i, 16, 1, false, 0, []⟩
def F.MAP_PT_STATUS_LOP_SEEN (i : Nat) : Fld := ⟨R.MAP_PT_STATUS i, 17, 1, false, 0, []⟩
def F.MAP_PT_STATUS_ADJ (i : Nat) : Fld := ⟨R.MAP_PT_STATUS i, 24, 8, false, 0, []⟩
def R.MAP_PWRX_W0 (i : Nat) : Nat := 0x02204000 + i * 0x10
def F.MAP_PWRX_W0_ECID (i : Nat) : Fld := ⟨R.MAP_PWRX_W0 i, 0, 20, false, 0, []⟩
def F.MAP_PWRX_W0_VALID (i : Nat) : Fld := ⟨R.MAP_PWRX_W0 i, 20, 1, false, 0, []⟩
def R.MAP_PWRX_W1 (i : Nat) : Nat := 0x02204004 + i * 0x10
def F.MAP_PWRX_W1_SID (i : Nat) : Fld := ⟨R.MAP_PWRX_W1 i, 0, 14, false, 0, []⟩
def R.MAP_PWTX_W0 (i : Nat) : Nat := 0x02220000 + i * 0x10
def F.MAP_PWTX_W0_DA_LO (i : Nat) : Fld := ⟨R.MAP_PWTX_W0 i, 0, 32, false, 0, []⟩
def R.MAP_PWTX_W1 (i : Nat) : Nat := 0x02220004 + i * 0x10
def F.MAP_PWTX_W1_DA_HI (i : Nat) : Fld := ⟨R.MAP_PWTX_W1 i, 0, 16, false, 0, []⟩
def F.MAP_PWTX_W1_VID (i : Nat) : Fld := ⟨R.MAP_PWTX_W1 i, 16, 12, false, 0, []⟩
def F.MAP_PWTX_W1_PCP (i : Nat) : Fld := ⟨R.MAP_PWTX_W1 i, 28, 3, false, 0, []⟩
def F.MAP_PWTX_W1_TAGGED (i : Nat) : Fld := ⟨R.MAP_PWTX_W1 i, 31, 1, false, 0, []⟩
def R.MAP_PWTX_W2 (i : Nat) : Nat := 0x02220008 + i * 0x10
def F.MAP_PWTX_W2_ECID (i : Nat) : Fld := ⟨R.MAP_PWTX_W2 i, 0, 20, false, 0, []⟩
def F.MAP_PWTX_W2_VALID (i : Nat) : Fld := ⟨R.MAP_PWTX_W2 i, 20, 1, false, 0, []⟩
def R.MAP_DPRATE (i : Nat) : Nat := 0x02230000 + i * 0x4
def F.MAP_DPRATE_RATE (i : Nat) : Fld := ⟨R.MAP_DPRATE i, 0, 29, false, 0, []⟩

/-! ## Block QUE (R360/R361) -/

def R.QUE_COMMIT : Nat := 0x03000000
def F.QUE_COMMIT_GO : Fld := ⟨R.QUE_COMMIT, 0, 1, false, 0, []⟩
def R.QUE_SEL : Nat := 0x03000004
def F.QUE_SEL_QUEUE : Fld := ⟨R.QUE_SEL, 0, 15, false, 0, []⟩
def R.QUE_STICKY : Nat := 0x03000008
def F.QUE_STICKY_SPILL_LOST0 : Fld := ⟨R.QUE_STICKY, 0, 1, false, 0, []⟩
def F.QUE_STICKY_SPILL_LOST1 : Fld := ⟨R.QUE_STICKY, 1, 1, false, 0, []⟩
def F.QUE_STICKY_UE_PENDING : Fld := ⟨R.QUE_STICKY, 2, 1, false, 0, []⟩
def R.QUE_ENABLED : Nat := 0x0300000C
def F.QUE_ENABLED : Fld := ⟨R.QUE_ENABLED, 0, 16, false, 0, []⟩
def R.QUE_MID_BASE : Nat := 0x03000010
def F.QUE_MID_BASE : Fld := ⟨R.QUE_MID_BASE, 6, 20, false, 0, []⟩
def R.QUE_MID_LINES : Nat := 0x03000014
def F.QUE_MID_LINES : Fld := ⟨R.QUE_MID_LINES, 0, 20, false, 0, [(0, 983040)]⟩
def R.QUE_SPILL0_BASE : Nat := 0x03000018
def F.QUE_SPILL0_BASE : Fld := ⟨R.QUE_SPILL0_BASE, 6, 31, false, 0, []⟩
def R.QUE_SPILL0_LINES : Nat := 0x03000020
def F.QUE_SPILL0_LINES : Fld := ⟨R.QUE_SPILL0_LINES, 0, 32, false, 0, [(0, 2147483648)]⟩
def R.QUE_SPILL1_BASE : Nat := 0x03000028
def F.QUE_SPILL1_BASE : Fld := ⟨R.QUE_SPILL1_BASE, 6, 31, false, 0, []⟩
def R.QUE_SPILL1_LINES : Nat := 0x03000030
def F.QUE_SPILL1_LINES : Fld := ⟨R.QUE_SPILL1_LINES, 0, 32, false, 0, [(0, 2147483648)]⟩
def R.QUE_UE_FIRST : Nat := 0x03000040
def F.QUE_UE_FIRST : Fld := ⟨R.QUE_UE_FIRST, 0, 15, false, 0, []⟩
def R.QUE_UE_COUNT : Nat := 0x03000044
def F.QUE_UE_COUNT : Fld := ⟨R.QUE_UE_COUNT, 0, 32, false, 0, []⟩
def R.QUE_PAR_QUEUE : Nat := 0x03000048
def F.QUE_PAR_QUEUE_QUEUE : Fld := ⟨R.QUE_PAR_QUEUE, 0, 15, false, 0, []⟩
def F.QUE_PAR_QUEUE_VALID : Fld := ⟨R.QUE_PAR_QUEUE, 31, 1, false, 0, []⟩
def R.QUE_ECC_CORR (i : Nat) : Nat := 0x03000100 + i * 0x4
def F.QUE_ECC_CORR (i : Nat) : Fld := ⟨R.QUE_ECC_CORR i, 0, 32, false, 0, []⟩
def R.QUE_W_CFG (q : Nat) : Nat := queKey q 0x0
def F.QUE_W_CFG_ENABLE (q : Nat) : Fld := ⟨R.QUE_W_CFG q, 0, 1, false, 0, []⟩
def F.QUE_W_CFG_CLASS (q : Nat) : Fld := ⟨R.QUE_W_CFG q, 1, 2, false, 0, []⟩
def F.QUE_W_CFG_SPILL (q : Nat) : Fld := ⟨R.QUE_W_CFG q, 3, 1, false, 0, []⟩
def F.QUE_W_CFG_DDR (q : Nat) : Fld := ⟨R.QUE_W_CFG q, 4, 1, false, 0, []⟩
def F.QUE_W_CFG_PKT (q : Nat) : Fld := ⟨R.QUE_W_CFG q, 5, 1, false, 0, []⟩
def F.QUE_W_CFG_NOTICE_EN (q : Nat) : Fld := ⟨R.QUE_W_CFG q, 6, 1, false, 0, []⟩
def F.QUE_W_CFG_WRITER (q : Nat) : Fld := ⟨R.QUE_W_CFG q, 7, 1, false, 0, []⟩
def F.QUE_W_CFG_READER (q : Nat) : Fld := ⟨R.QUE_W_CFG q, 8, 2, false, 0, [(0, 2)]⟩
def F.QUE_W_CFG_SID (q : Nat) : Fld := ⟨R.QUE_W_CFG q, 10, 14, false, 0, []⟩
def F.QUE_W_CFG_EGRESS (q : Nat) : Fld := ⟨R.QUE_W_CFG q, 24, 2, false, 0, [(0, 2)]⟩
def R.QUE_W_HOIST (q : Nat) : Nat := queKey q 0x4
def F.QUE_W_HOIST_W_HOIST (q : Nat) : Fld := ⟨R.QUE_W_HOIST q, 0, 11, false, 0, [(0, 1535)]⟩
def R.QUE_W_MIDBASE (q : Nat) : Nat := queKey q 0x8
def F.QUE_W_MIDBASE (q : Nat) : Fld := ⟨R.QUE_W_MIDBASE q, 0, 31, false, 0, []⟩
def R.QUE_W_MIDSIZE (q : Nat) : Nat := queKey q 0xC
def F.QUE_W_MIDSIZE (q : Nat) : Fld := ⟨R.QUE_W_MIDSIZE q, 0, 20, false, 0, []⟩
def R.QUE_W_WM_HI (q : Nat) : Nat := queKey q 0x10
def F.QUE_W_WM_HI (q : Nat) : Fld := ⟨R.QUE_W_WM_HI q, 0, 24, false, 16777215, []⟩
def R.QUE_W_WM_LO (q : Nat) : Nat := queKey q 0x14
def F.QUE_W_WM_LO (q : Nat) : Fld := ⟨R.QUE_W_WM_LO q, 0, 24, false, 0, []⟩
def R.QUE_W_CTRL (q : Nat) : Nat := queKey q 0x18
def F.QUE_W_CTRL_FLUSH (q : Nat) : Fld := ⟨R.QUE_W_CTRL q, 0, 1, false, 0, []⟩
def R.QUE_W_SUBST (q : Nat) : Nat := queKey q 0x20
def F.QUE_W_SUBST (q : Nat) : Fld := ⟨R.QUE_W_SUBST q, 0, 64, true, 0, []⟩
def R.QUE_W_STATUS (q : Nat) : Nat := queKey q 0x28
def F.QUE_W_STATUS_EMPTY (q : Nat) : Fld := ⟨R.QUE_W_STATUS q, 0, 1, false, 1, []⟩
def F.QUE_W_STATUS_FULL (q : Nat) : Fld := ⟨R.QUE_W_STATUS q, 1, 1, false, 0, []⟩
def F.QUE_W_STATUS_ABOVE_HI (q : Nat) : Fld := ⟨R.QUE_W_STATUS q, 2, 1, false, 0, []⟩
def F.QUE_W_STATUS_BELOW_LO (q : Nat) : Fld := ⟨R.QUE_W_STATUS q, 3, 1, false, 0, []⟩
def F.QUE_W_STATUS_FLUSH_PENDING (q : Nat) : Fld := ⟨R.QUE_W_STATUS q, 4, 1, false, 0, []⟩
def F.QUE_W_STATUS_MID_LOST (q : Nat) : Fld := ⟨R.QUE_W_STATUS q, 5, 1, false, 0, []⟩
def F.QUE_W_STATUS_INGRESS_INC (q : Nat) : Fld := ⟨R.QUE_W_STATUS q, 6, 1, false, 0, []⟩
def R.QUE_W_DEPTH (q : Nat) : Nat := queKey q 0x2C
def F.QUE_W_DEPTH (q : Nat) : Fld := ⟨R.QUE_W_DEPTH q, 0, 24, false, 0, []⟩
def R.QUE_W_STICKY (q : Nat) : Nat := queKey q 0x30
def F.QUE_W_STICKY_OVERRUN (q : Nat) : Fld := ⟨R.QUE_W_STICKY q, 0, 1, false, 0, []⟩
def F.QUE_W_STICKY_HI_SEEN (q : Nat) : Fld := ⟨R.QUE_W_STICKY q, 1, 1, false, 0, []⟩
def F.QUE_W_STICKY_LO_SEEN (q : Nat) : Fld := ⟨R.QUE_W_STICKY q, 2, 1, false, 0, []⟩
def F.QUE_W_STICKY_POISON (q : Nat) : Fld := ⟨R.QUE_W_STICKY q, 3, 1, false, 0, []⟩
def F.QUE_W_STICKY_INC_SEEN (q : Nat) : Fld := ⟨R.QUE_W_STICKY q, 4, 1, false, 0, []⟩
def F.QUE_W_STICKY_HI_COUNT (q : Nat) : Fld := ⟨R.QUE_W_STICKY q, 8, 8, false, 0, []⟩
def F.QUE_W_STICKY_LO_COUNT (q : Nat) : Fld := ⟨R.QUE_W_STICKY q, 16, 8, false, 0, []⟩
def R.QUE_W_OVR_COUNT (q : Nat) : Nat := queKey q 0x34
def F.QUE_W_OVR_COUNT (q : Nat) : Fld := ⟨R.QUE_W_OVR_COUNT q, 0, 32, false, 0, []⟩
def R.QUE_W_NOTICES (q : Nat) : Nat := queKey q 0x38
def F.QUE_W_NOTICES (q : Nat) : Fld := ⟨R.QUE_W_NOTICES q, 0, 32, false, 0, []⟩
def R.QUE_W_GATE (q : Nat) : Nat := queKey q 0x3C
def F.QUE_W_GATE (q : Nat) : Fld := ⟨R.QUE_W_GATE q, 0, 32, false, 0, []⟩
def R.QUE_OVERRUN (i : Nat) : Nat := 0x03001000 + i * 0x4
def F.QUE_OVERRUN (i : Nat) : Fld := ⟨R.QUE_OVERRUN i, 0, 32, false, 0, []⟩
def R.QUE_WM (i : Nat) : Nat := 0x03002000 + i * 0x4
def F.QUE_WM (i : Nat) : Fld := ⟨R.QUE_WM i, 0, 32, false, 0, []⟩

/-! ## Block CKU (R381/R382) -/

def R.CKU_EN_COUNT : Nat := 0x03100000
def F.CKU_EN_COUNT : Fld := ⟨R.CKU_EN_COUNT, 0, 9, false, 0, []⟩
def R.CK_CFG (i : Nat) : Nat := 0x03101000 + i * 0x100
def F.CK_CFG_ENABLE (i : Nat) : Fld := ⟨R.CK_CFG i, 0, 1, false, 0, []⟩
def F.CK_CFG_MODE (i : Nat) : Fld := ⟨R.CK_CFG i, 1, 3, false, 0, [(0, 4)]⟩
def F.CK_CFG_WIDTH (i : Nat) : Fld := ⟨R.CK_CFG i, 4, 6, false, 31, []⟩
def F.CK_CFG_REFIN (i : Nat) : Fld := ⟨R.CK_CFG i, 10, 1, false, 1, []⟩
def F.CK_CFG_REFOUT (i : Nat) : Fld := ⟨R.CK_CFG i, 11, 1, false, 1, []⟩
def F.CK_CFG_FOLDW (i : Nat) : Fld := ⟨R.CK_CFG i, 12, 3, false, 0, []⟩
def F.CK_CFG_PRE_MODE (i : Nat) : Fld := ⟨R.CK_CFG i, 15, 1, false, 0, []⟩
def F.CK_CFG_SUF_MODE (i : Nat) : Fld := ⟨R.CK_CFG i, 16, 1, false, 0, []⟩
def F.CK_CFG_TAG_IN (i : Nat) : Fld := ⟨R.CK_CFG i, 17, 1, false, 0, []⟩
def F.CK_CFG_CHAIN (i : Nat) : Fld := ⟨R.CK_CFG i, 18, 1, false, 0, []⟩
def F.CK_CFG_PAIR (i : Nat) : Fld := ⟨R.CK_CFG i, 19, 1, false, 0, []⟩
def F.CK_CFG_EVT_EN (i : Nat) : Fld := ⟨R.CK_CFG i, 20, 1, false, 0, []⟩
def F.CK_CFG_CKF_REDIR (i : Nat) : Fld := ⟨R.CK_CFG i, 21, 1, false, 0, []⟩
def R.CK_BIND (i : Nat) : Nat := 0x03101004 + i * 0x100
def F.CK_BIND_TARGET (i : Nat) : Fld := ⟨R.CK_BIND i, 0, 15, false, 0, []⟩
def R.CK_FILT (i : Nat) : Nat := 0x03101008 + i * 0x100
def F.CK_FILT_TMASK (i : Nat) : Fld := ⟨R.CK_FILT i, 0, 5, false, 0, []⟩
def F.CK_FILT_TMATCH (i : Nat) : Fld := ⟨R.CK_FILT i, 8, 5, false, 0, []⟩
def F.CK_FILT_CKF_UNIT (i : Nat) : Fld := ⟨R.CK_FILT i, 16, 8, false, 0, []⟩
def R.CK_STATUS (i : Nat) : Nat := 0x0310100C + i * 0x100
def F.CK_STATUS_OPEN (i : Nat) : Fld := ⟨R.CK_STATUS i, 0, 1, false, 0, []⟩
def F.CK_STATUS_PHASE (i : Nat) : Fld := ⟨R.CK_STATUS i, 1, 2, false, 0, []⟩
def F.CK_STATUS_SWAP_PENDING (i : Nat) : Fld := ⟨R.CK_STATUS i, 3, 1, false, 0, []⟩
def F.CK_STATUS_OUTSTANDING (i : Nat) : Fld := ⟨R.CK_STATUS i, 4, 4, false, 0, []⟩
def R.CK_POLY (i : Nat) : Nat := 0x03101010 + i * 0x100
def F.CK_POLY (i : Nat) : Fld := ⟨R.CK_POLY i, 0, 64, false, 79764919, []⟩
def R.CK_INIT (i : Nat) : Nat := 0x03101018 + i * 0x100
def F.CK_INIT (i : Nat) : Fld := ⟨R.CK_INIT i, 0, 64, false, 4294967295, []⟩
def R.CK_XOR (i : Nat) : Nat := 0x03101020 + i * 0x100
def F.CK_XOR (i : Nat) : Fld := ⟨R.CK_XOR i, 0, 64, false, 4294967295, []⟩
def R.CK_FOLD_PRE (i : Nat) : Nat := 0x03101028 + i * 0x100
def F.CK_FOLD_PRE (i : Nat) : Fld := ⟨R.CK_FOLD_PRE i, 0, 64, false, 0, []⟩
def R.CK_FOLD_SUF (i : Nat) : Nat := 0x03101030 + i * 0x100
def F.CK_FOLD_SUF (i : Nat) : Fld := ⟨R.CK_FOLD_SUF i, 0, 64, false, 0, []⟩
def R.CK_RUN (i : Nat) : Nat := 0x03101038 + i * 0x100
def F.CK_RUN (i : Nat) : Fld := ⟨R.CK_RUN i, 0, 64, false, 0, []⟩
def R.CK_RESULT (i : Nat) : Nat := 0x03101040 + i * 0x100
def F.CK_RESULT (i : Nat) : Fld := ⟨R.CK_RESULT i, 0, 64, false, 0, []⟩
def R.CK_SWAP (i : Nat) : Nat := 0x03101048 + i * 0x100
def F.CK_SWAP (i : Nat) : Fld := ⟨R.CK_SWAP i, 0, 64, false, 0, []⟩
def R.CK_SWAP_CTRL (i : Nat) : Nat := 0x03101050 + i * 0x100
def F.CK_SWAP_CTRL_GO (i : Nat) : Fld := ⟨R.CK_SWAP_CTRL i, 0, 1, false, 0, []⟩
def R.CK_STICKY (i : Nat) : Nat := 0x03101054 + i * 0x100
def F.CK_STICKY_BAD_SEEN (i : Nat) : Fld := ⟨R.CK_STICKY i, 0, 1, false, 0, []⟩
def F.CK_STICKY_SHORT_PKT (i : Nat) : Fld := ⟨R.CK_STICKY i, 1, 1, false, 0, []⟩
def F.CK_STICKY_INC_SEEN (i : Nat) : Fld := ⟨R.CK_STICKY i, 2, 1, false, 0, []⟩
def F.CK_STICKY_PARITY (i : Nat) : Fld := ⟨R.CK_STICKY i, 3, 1, false, 0, []⟩
def F.CK_STICKY_SWAP_DONE (i : Nat) : Fld := ⟨R.CK_STICKY i, 4, 1, false, 0, []⟩
def F.CK_STICKY_RUN_REFUSED (i : Nat) : Fld := ⟨R.CK_STICKY i, 5, 1, false, 0, []⟩
def R.CK_GOOD (i : Nat) : Nat := 0x03101058 + i * 0x100
def F.CK_GOOD (i : Nat) : Fld := ⟨R.CK_GOOD i, 0, 32, false, 0, []⟩
def R.CK_BAD (i : Nat) : Nat := 0x0310105C + i * 0x100
def F.CK_BAD (i : Nat) : Fld := ⟨R.CK_BAD i, 0, 32, false, 0, []⟩
def R.CK_DIG (i j : Nat) : Nat := 0x03120000 + i * 0x100 + j * 0x10
def F.CK_DIG (i j : Nat) : Fld := ⟨R.CK_DIG i j, 0, 64, false, 0, []⟩
def R.CK_DIG_TICK (i j : Nat) : Nat := 0x03120008 + i * 0x100 + j * 0x10
def F.CK_DIG_TICK (i j : Nat) : Fld := ⟨R.CK_DIG_TICK i j, 0, 32, false, 0, []⟩
def R.CK_DIG_FLAGS (i j : Nat) : Nat := 0x0312000C + i * 0x100 + j * 0x10
def F.CK_DIG_FLAGS_VALID (i j : Nat) : Fld := ⟨R.CK_DIG_FLAGS i j, 0, 1, false, 0, []⟩
def F.CK_DIG_FLAGS_INCOMPLETE (i j : Nat) : Fld := ⟨R.CK_DIG_FLAGS i j, 1, 1, false, 0, []⟩
def F.CK_DIG_FLAGS_PARITY (i j : Nat) : Fld := ⟨R.CK_DIG_FLAGS i j, 2, 1, false, 0, []⟩

/-! ## Block VOX (R400-R402) -/

def R.VOX_COMMIT : Nat := 0x03200000
def F.VOX_COMMIT_GO : Fld := ⟨R.VOX_COMMIT, 0, 1, false, 0, []⟩
def R.VOX_STICKY : Nat := 0x03200004
def F.VOX_STICKY_TX_CONFLICT : Fld := ⟨R.VOX_STICKY, 0, 1, false, 0, []⟩
def F.VOX_STICKY_BAD_ENTRY : Fld := ⟨R.VOX_STICKY, 1, 1, false, 0, []⟩
def R.VOX_VP_CFG (i : Nat) : Nat := 0x03201000 + i * 0x40
def F.VOX_VP_CFG_ENABLE (i : Nat) : Fld := ⟨R.VOX_VP_CFG i, 0, 1, false, 0, []⟩
def F.VOX_VP_CFG_FORMAT (i : Nat) : Fld := ⟨R.VOX_VP_CFG i, 1, 1, false, 0, []⟩
def F.VOX_VP_CFG_MASTER (i : Nat) : Fld := ⟨R.VOX_VP_CFG i, 2, 1, false, 0, []⟩
def F.VOX_VP_CFG_PATH (i : Nat) : Fld := ⟨R.VOX_VP_CFG i, 3, 1, false, 0, []⟩
def F.VOX_VP_CFG_SLOTS (i : Nat) : Fld := ⟨R.VOX_VP_CFG i, 4, 5, false, 0, []⟩
def F.VOX_VP_CFG_WIDTH (i : Nat) : Fld := ⟨R.VOX_VP_CFG i, 9, 2, false, 0, []⟩
def F.VOX_VP_CFG_LAW (i : Nat) : Fld := ⟨R.VOX_VP_CFG i, 11, 2, false, 0, [(0, 2)]⟩
def F.VOX_VP_CFG_FS_DELAY (i : Nat) : Fld := ⟨R.VOX_VP_CFG i, 13, 1, false, 0, []⟩
def F.VOX_VP_CFG_EDGE (i : Nat) : Fld := ⟨R.VOX_VP_CFG i, 14, 1, false, 0, []⟩
def F.VOX_VP_CFG_COMPACT (i : Nat) : Fld := ⟨R.VOX_VP_CFG i, 15, 1, false, 0, []⟩
def F.VOX_VP_CFG_BLOCK_FRAMES (i : Nat) : Fld := ⟨R.VOX_VP_CFG i, 16, 6, false, 0, []⟩
def F.VOX_VP_CFG_RAMP_TX (i : Nat) : Fld := ⟨R.VOX_VP_CFG i, 22, 1, false, 1, []⟩
def F.VOX_VP_CFG_RAMP_RX (i : Nat) : Fld := ⟨R.VOX_VP_CFG i, 23, 1, false, 0, []⟩
def F.VOX_VP_CFG_RAMP_MS (i : Nat) : Fld := ⟨R.VOX_VP_CFG i, 24, 6, false, 7, []⟩
def R.VOX_VP_MASK (i : Nat) : Nat := 0x03201004 + i * 0x40
def F.VOX_VP_MASK (i : Nat) : Fld := ⟨R.VOX_VP_MASK i, 0, 32, true, 4294967295, []⟩
def R.VOX_VP_RATE (i : Nat) : Nat := 0x03201008 + i * 0x40
def F.VOX_VP_RATE_FRAME_RATE (i : Nat) : Fld := ⟨R.VOX_VP_RATE i, 0, 16, false, 8000, []⟩
def F.VOX_VP_RATE_RATE_TOL (i : Nat) : Fld := ⟨R.VOX_VP_RATE i, 16, 8, false, 10, [(1, 255)]⟩
def R.VOX_VP_RATE_GATE (i : Nat) : Nat := 0x0320100C + i * 0x40
def F.VOX_VP_RATE_GATE (i : Nat) : Fld := ⟨R.VOX_VP_RATE_GATE i, 0, 24, false, 250000, []⟩
def R.VOX_VP_SID (i : Nat) : Nat := 0x03201010 + i * 0x40
def F.VOX_VP_SID_RX_SID (i : Nat) : Fld := ⟨R.VOX_VP_SID i, 0, 14, false, 0, []⟩
def F.VOX_VP_SID_TX_SID (i : Nat) : Fld := ⟨R.VOX_VP_SID i, 16, 14, false, 0, []⟩
def R.VOX_VP_CTRL (i : Nat) : Nat := 0x03201014 + i * 0x40
def F.VOX_VP_CTRL_SERVICE (i : Nat) : Fld := ⟨R.VOX_VP_CTRL i, 0, 1, false, 0, []⟩
def F.VOX_VP_CTRL_STOP (i : Nat) : Fld := ⟨R.VOX_VP_CTRL i, 1, 1, false, 0, []⟩
def R.VOX_VP_STATUS (i : Nat) : Nat := 0x03201018 + i * 0x40
def F.VOX_VP_STATUS_STATE (i : Nat) : Fld := ⟨R.VOX_VP_STATUS i, 0, 2, false, 0, []⟩
def F.VOX_VP_STATUS_CLK_PRESENT (i : Nat) : Fld := ⟨R.VOX_VP_STATUS i, 2, 1, false, 0, []⟩
def F.VOX_VP_STATUS_RATE_OK (i : Nat) : Fld := ⟨R.VOX_VP_STATUS i, 3, 1, false, 0, []⟩
def F.VOX_VP_STATUS_FS_LOCK (i : Nat) : Fld := ⟨R.VOX_VP_STATUS i, 4, 1, false, 0, []⟩
def F.VOX_VP_STATUS_RAMPING (i : Nat) : Fld := ⟨R.VOX_VP_STATUS i, 5, 1, false, 0, []⟩
def F.VOX_VP_STATUS_GATED (i : Nat) : Fld := ⟨R.VOX_VP_STATUS i, 6, 1, false, 0, []⟩
def F.VOX_VP_STATUS_TX_FILL (i : Nat) : Fld := ⟨R.VOX_VP_STATUS i, 8, 8, false, 0, []⟩
def R.VOX_VP_STICKY (i : Nat) : Nat := 0x0320101C + i * 0x40
def F.VOX_VP_STICKY_CLK_STOP (i : Nat) : Fld := ⟨R.VOX_VP_STICKY i, 0, 1, false, 0, []⟩
def F.VOX_VP_STICKY_GLITCH (i : Nat) : Fld := ⟨R.VOX_VP_STICKY i, 1, 1, false, 0, []⟩
def F.VOX_VP_STICKY_FS_ERR (i : Nat) : Fld := ⟨R.VOX_VP_STICKY i, 2, 1, false, 0, []⟩
def F.VOX_VP_STICKY_RATE (i : Nat) : Fld := ⟨R.VOX_VP_STICKY i, 3, 1, false, 0, []⟩
def F.VOX_VP_STICKY_UNDERRUN (i : Nat) : Fld := ⟨R.VOX_VP_STICKY i, 4, 1, false, 0, []⟩
def F.VOX_VP_STICKY_OVERRUN (i : Nat) : Fld := ⟨R.VOX_VP_STICKY i, 5, 1, false, 0, []⟩
def F.VOX_VP_STICKY_SERVICE_REFUSED (i : Nat) : Fld := ⟨R.VOX_VP_STICKY i, 6, 1, false, 0, []⟩
def F.VOX_VP_STICKY_TX_BAD_BLOCK (i : Nat) : Fld := ⟨R.VOX_VP_STICKY i, 7, 1, false, 0, []⟩
def F.VOX_VP_STICKY_SLIP (i : Nat) : Fld := ⟨R.VOX_VP_STICKY i, 8, 1, false, 0, []⟩
def R.VOX_VP_RATE_MEAS (i : Nat) : Nat := 0x03201020 + i * 0x40
def F.VOX_VP_RATE_MEAS (i : Nat) : Fld := ⟨R.VOX_VP_RATE_MEAS i, 0, 20, false, 0, []⟩
def R.VOX_VP_TXCFG (i : Nat) : Nat := 0x03201024 + i * 0x40
def F.VOX_VP_TXCFG_TX_DEPTH (i : Nat) : Fld := ⟨R.VOX_VP_TXCFG i, 0, 8, false, 8, [(2, 255)]⟩
def F.VOX_VP_TXCFG_TX_START (i : Nat) : Fld := ⟨R.VOX_VP_TXCFG i, 8, 8, false, 4, []⟩
def R.VOX_VP_XRUN (i : Nat) : Nat := 0x03201028 + i * 0x40
def F.VOX_VP_XRUN_UNDER (i : Nat) : Fld := ⟨R.VOX_VP_XRUN i, 0, 32, false, 0, []⟩
def F.VOX_VP_XRUN_OVER (i : Nat) : Fld := ⟨R.VOX_VP_XRUN i + 4, 0, 32, false, 0, []⟩
def R.VOX_VP_SLIP (i : Nat) : Nat := 0x03201030 + i * 0x40
def F.VOX_VP_SLIP_REPEATS (i : Nat) : Fld := ⟨R.VOX_VP_SLIP i, 0, 32, false, 0, []⟩
def F.VOX_VP_SLIP_DROPS (i : Nat) : Fld := ⟨R.VOX_VP_SLIP i + 4, 0, 32, false, 0, []⟩
def R.VOX_VP_TXBAD (i : Nat) : Nat := 0x03201038 + i * 0x40
def F.VOX_VP_TXBAD (i : Nat) : Fld := ⟨R.VOX_VP_TXBAD i, 0, 32, false, 0, []⟩
def R.VOX_VB_CFG (i : Nat) : Nat := 0x03203000 + i * 0x10
def F.VOX_VB_CFG_EN (i : Nat) : Fld := ⟨R.VOX_VB_CFG i, 0, 1, false, 0, []⟩
def F.VOX_VB_CFG_LAW (i : Nat) : Fld := ⟨R.VOX_VB_CFG i, 1, 1, false, 0, []⟩
def R.VOX_VB_SID (i : Nat) : Nat := 0x03203004 + i * 0x10
def F.VOX_VB_SID_RX_SID (i : Nat) : Fld := ⟨R.VOX_VB_SID i, 0, 14, false, 0, []⟩
def F.VOX_VB_SID_TX_SID (i : Nat) : Fld := ⟨R.VOX_VB_SID i, 16, 14, false, 0, []⟩
def R.VOX_XC (i : Nat) : Nat := 0x03204000 + i * 0x4
def F.VOX_XC_VALID (i : Nat) : Fld := ⟨R.VOX_XC i, 0, 1, true, 0, []⟩
def F.VOX_XC_RX_EN (i : Nat) : Fld := ⟨R.VOX_XC i, 1, 1, true, 0, []⟩
def F.VOX_XC_TX_EN (i : Nat) : Fld := ⟨R.VOX_XC i, 2, 1, true, 0, []⟩
def F.VOX_XC_PORT (i : Nat) : Fld := ⟨R.VOX_XC i, 4, 4, true, 0, []⟩
def F.VOX_XC_SLOT (i : Nat) : Fld := ⟨R.VOX_XC i, 8, 5, true, 0, []⟩

/-! ## Block PRT (R436-R438) -/

def R.PRT_COMMIT : Nat := 0x03300000
def F.PRT_COMMIT_GO : Fld := ⟨R.PRT_COMMIT, 0, 1, false, 0, []⟩
def R.PRT_HOLD_BASE : Nat := 0x03300008
def F.PRT_HOLD_BASE : Fld := ⟨R.PRT_HOLD_BASE, 6, 20, false, 0, []⟩
def R.PRT_HOLD_LINES : Nat := 0x0330000C
def F.PRT_HOLD_LINES : Fld := ⟨R.PRT_HOLD_LINES, 0, 20, false, 0, []⟩
def R.PRT_PAIR_CFG : Nat := 0x03300100
def F.PRT_PAIR_CFG_JLAG : Fld := ⟨R.PRT_PAIR_CFG, 0, 4, false, 4, [(2, 15)]⟩
def F.PRT_PAIR_CFG_YIELD_LEAD : Fld := ⟨R.PRT_PAIR_CFG, 4, 3, false, 2, [(1, 4)]⟩
def F.PRT_PAIR_CFG_YIELD_ON_PENNANT : Fld := ⟨R.PRT_PAIR_CFG, 7, 1, false, 0, []⟩
def F.PRT_PAIR_CFG_AUTO_RESYNC : Fld := ⟨R.PRT_PAIR_CFG, 8, 1, false, 1, []⟩
def F.PRT_PAIR_CFG_SNAP_DDR : Fld := ⟨R.PRT_PAIR_CFG, 9, 1, false, 0, []⟩
def F.PRT_PAIR_CFG_DIS_MAX : Fld := ⟨R.PRT_PAIR_CFG, 16, 8, false, 80, [(1, 255)]⟩
def F.PRT_PAIR_CFG_CMP_WIN : Fld := ⟨R.PRT_PAIR_CFG, 24, 7, false, 72, [(3, 127)]⟩
def R.PRT_PAIR_QUAL : Nat := 0x03300104
def F.PRT_PAIR_QUAL_QUAL : Fld := ⟨R.PRT_PAIR_QUAL, 0, 16, false, 8000, [(1, 65535)]⟩
def R.PRT_PAIR_STATUS : Nat := 0x03300108
def F.PRT_PAIR_STATUS_STATE : Fld := ⟨R.PRT_PAIR_STATUS, 0, 3, false, 0, []⟩
def F.PRT_PAIR_STATUS_QUALIFIED : Fld := ⟨R.PRT_PAIR_STATUS, 3, 1, false, 0, []⟩
def F.PRT_PAIR_STATUS_PEER_QUALIFIED : Fld := ⟨R.PRT_PAIR_STATUS, 4, 1, false, 0, []⟩
def F.PRT_PAIR_STATUS_HB_OK : Fld := ⟨R.PRT_PAIR_STATUS, 5, 1, false, 0, []⟩
def F.PRT_PAIR_STATUS_GUARD_IN : Fld := ⟨R.PRT_PAIR_STATUS, 6, 1, false, 0, []⟩
def F.PRT_PAIR_STATUS_PREF : Fld := ⟨R.PRT_PAIR_STATUS, 7, 1, false, 0, []⟩
def F.PRT_PAIR_STATUS_PEER_PREF : Fld := ⟨R.PRT_PAIR_STATUS, 8, 1, false, 0, []⟩
def F.PRT_PAIR_STATUS_BEHIND : Fld := ⟨R.PRT_PAIR_STATUS, 16, 16, false, 0, []⟩
def R.PRT_PAIR_STICKY : Nat := 0x0330010C
def F.PRT_PAIR_STICKY_UNPROTECTED : Fld := ⟨R.PRT_PAIR_STICKY, 0, 1, false, 0, []⟩
def F.PRT_PAIR_STICKY_PEER_SILENT_HOLDING : Fld := ⟨R.PRT_PAIR_STICKY, 1, 1, false, 0, []⟩
def F.PRT_PAIR_STICKY_GUARD_FAULT : Fld := ⟨R.PRT_PAIR_STICKY, 2, 1, false, 0, []⟩
def F.PRT_PAIR_STICKY_DISAGREE : Fld := ⟨R.PRT_PAIR_STICKY, 3, 1, false, 0, []⟩
def F.PRT_PAIR_STICKY_DIVERGED : Fld := ⟨R.PRT_PAIR_STICKY, 4, 1, false, 0, []⟩
def F.PRT_PAIR_STICKY_TAKEOVER_WARM : Fld := ⟨R.PRT_PAIR_STICKY, 5, 1, false, 0, []⟩
def F.PRT_PAIR_STICKY_COLD_TAKEOVER : Fld := ⟨R.PRT_PAIR_STICKY, 6, 1, false, 0, []⟩
def F.PRT_PAIR_STICKY_JOIN_ABORTED : Fld := ⟨R.PRT_PAIR_STICKY, 7, 1, false, 0, []⟩
def F.PRT_PAIR_STICKY_CLAIM_CONFLICT : Fld := ⟨R.PRT_PAIR_STICKY, 8, 1, false, 0, []⟩
def F.PRT_PAIR_STICKY_JOURNAL_LATE : Fld := ⟨R.PRT_PAIR_STICKY, 9, 1, false, 0, []⟩
def F.PRT_PAIR_STICKY_LEDGER_LATE : Fld := ⟨R.PRT_PAIR_STICKY, 10, 1, false, 0, []⟩
def F.PRT_PAIR_STICKY_LOG_FULL : Fld := ⟨R.PRT_PAIR_STICKY, 11, 1, false, 0, []⟩
def F.PRT_PAIR_STICKY_YIELD_FAILED : Fld := ⟨R.PRT_PAIR_STICKY, 12, 1, false, 0, []⟩
def R.PRT_PAIR_SNAP_BASE : Nat := 0x03300110
def F.PRT_PAIR_SNAP_BASE : Fld := ⟨R.PRT_PAIR_SNAP_BASE, 6, 31, false, 0, []⟩
def R.PRT_PAIR_LOG_BASE : Nat := 0x03300118
def F.PRT_PAIR_LOG_BASE : Fld := ⟨R.PRT_PAIR_LOG_BASE, 6, 31, false, 0, []⟩
def R.PRT_PAIR_LOG_LINES : Nat := 0x03300120
def F.PRT_PAIR_LOG_LINES : Fld := ⟨R.PRT_PAIR_LOG_LINES, 0, 32, false, 0, []⟩
def R.PRT_PAIR_PEER : Nat := 0x03300128
def F.PRT_PAIR_PEER : Fld := ⟨R.PRT_PAIR_PEER, 0, 64, false, 0, []⟩
def R.PRT_PAIR_DIS_FIRST : Nat := 0x03300130
def F.PRT_PAIR_DIS_FIRST : Fld := ⟨R.PRT_PAIR_DIS_FIRST, 0, 8, false, 0, []⟩
def R.PRT_PAIR_DIS_TICK : Nat := 0x03300134
def F.PRT_PAIR_DIS_TICK : Fld := ⟨R.PRT_PAIR_DIS_TICK, 0, 32, false, 0, []⟩
def R.PRT_PAIR_DIS_TOTAL : Nat := 0x03300138
def F.PRT_PAIR_DIS_TOTAL : Fld := ⟨R.PRT_PAIR_DIS_TOTAL, 0, 64, false, 0, []⟩
def R.PRT_PAIR_JSEQ : Nat := 0x03300140
def F.PRT_PAIR_JSEQ : Fld := ⟨R.PRT_PAIR_JSEQ, 0, 32, false, 0, []⟩
def R.PRT_PDIS (i : Nat) : Nat := 0x03300200 + i * 0x4
def F.PRT_PDIS (i : Nat) : Fld := ⟨R.PRT_PDIS i, 0, 32, false, 0, []⟩
def R.PRT_SW (i : Nat) : Nat := 0x03300400 + i * 0x4
def F.PRT_SW (i : Nat) : Fld := ⟨R.PRT_SW i, 0, 32, false, 0, []⟩
def R.PRT_SEL_CFG (i : Nat) : Nat := 0x03310000 + i * 0x20
def F.PRT_SEL_CFG_ENABLE (i : Nat) : Fld := ⟨R.PRT_SEL_CFG i, 0, 1, false, 0, []⟩
def F.PRT_SEL_CFG_PT (i : Nat) : Fld := ⟨R.PRT_SEL_CFG i, 1, 1, false, 0, []⟩
def F.PRT_SEL_CFG_REVERT (i : Nat) : Fld := ⟨R.PRT_SEL_CFG i, 2, 1, true, 0, []⟩
def F.PRT_SEL_CFG_SD_EN (i : Nat) : Fld := ⟨R.PRT_SEL_CFG i, 3, 1, true, 0, []⟩
def F.PRT_SEL_CFG_HOLDOFF (i : Nat) : Fld := ⟨R.PRT_SEL_CFG i, 8, 8, true, 0, []⟩
def F.PRT_SEL_CFG_WTR (i : Nat) : Fld := ⟨R.PRT_SEL_CFG i, 16, 16, true, 300, []⟩
def R.PRT_SEL_MEMB (i : Nat) : Nat := 0x03310004 + i * 0x20
def F.PRT_SEL_MEMB_W_CHAN (i : Nat) : Fld := ⟨R.PRT_SEL_MEMB i, 0, 14, false, 0, []⟩
def F.PRT_SEL_MEMB_P_CHAN (i : Nat) : Fld := ⟨R.PRT_SEL_MEMB i, 16, 14, false, 0, []⟩
def R.PRT_SEL_OUT (i : Nat) : Nat := 0x03310008 + i * 0x20
def F.PRT_SEL_OUT_OUT_SID (i : Nat) : Fld := ⟨R.PRT_SEL_OUT i, 0, 14, false, 0, []⟩
def F.PRT_SEL_OUT_HOLD_LINES (i : Nat) : Fld := ⟨R.PRT_SEL_OUT i, 16, 12, false, 0, []⟩
def R.PRT_SEL_HOLD (i : Nat) : Nat := 0x0331000C + i * 0x20
def F.PRT_SEL_HOLD_HOLD_OFF (i : Nat) : Fld := ⟨R.PRT_SEL_HOLD i, 0, 20, false, 0, []⟩
def R.PRT_SEL_PT (i : Nat) : Nat := 0x03310010 + i * 0x20
def F.PRT_SEL_PT_W_LANE (i : Nat) : Fld := ⟨R.PRT_SEL_PT i, 0, 4, false, 0, []⟩
def F.PRT_SEL_PT_W_AU4 (i : Nat) : Fld := ⟨R.PRT_SEL_PT i, 4, 6, false, 0, []⟩
def F.PRT_SEL_PT_P_LANE (i : Nat) : Fld := ⟨R.PRT_SEL_PT i, 10, 4, false, 0, []⟩
def F.PRT_SEL_PT_P_AU4 (i : Nat) : Fld := ⟨R.PRT_SEL_PT i, 14, 6, false, 0, []⟩
def F.PRT_SEL_PT_SLOT (i : Nat) : Fld := ⟨R.PRT_SEL_PT i, 20, 10, false, 0, []⟩
def R.PRT_SEL_CMD (i : Nat) : Nat := 0x03310014 + i * 0x20
def F.PRT_SEL_CMD_CMD (i : Nat) : Fld := ⟨R.PRT_SEL_CMD i, 0, 3, true, 0, [(0, 4)]⟩
def R.PRT_SEL_STATUS (i : Nat) : Nat := 0x03310018 + i * 0x20
def F.PRT_SEL_STATUS_SEL (i : Nat) : Fld := ⟨R.PRT_SEL_STATUS i, 0, 1, false, 0, []⟩
def F.PRT_SEL_STATUS_REQ (i : Nat) : Fld := ⟨R.PRT_SEL_STATUS i, 1, 4, false, 0, []⟩
def F.PRT_SEL_STATUS_SF_W (i : Nat) : Fld := ⟨R.PRT_SEL_STATUS i, 5, 1, false, 0, []⟩
def F.PRT_SEL_STATUS_SF_P (i : Nat) : Fld := ⟨R.PRT_SEL_STATUS i, 6, 1, false, 0, []⟩
def F.PRT_SEL_STATUS_SD_W (i : Nat) : Fld := ⟨R.PRT_SEL_STATUS i, 7, 1, false, 0, []⟩
def F.PRT_SEL_STATUS_SD_P (i : Nat) : Fld := ⟨R.PRT_SEL_STATUS i, 8, 1, false, 0, []⟩
def F.PRT_SEL_STATUS_WTR_RUN (i : Nat) : Fld := ⟨R.PRT_SEL_STATUS i, 9, 1, false, 0, []⟩
def F.PRT_SEL_STATUS_SWITCHED (i : Nat) : Fld := ⟨R.PRT_SEL_STATUS i, 16, 1, false, 0, []⟩
def F.PRT_SEL_STATUS_HOLD_SUBST (i : Nat) : Fld := ⟨R.PRT_SEL_STATUS i, 17, 1, false, 0, []⟩
def R.PRT_SEL_COUNT (i : Nat) : Nat := 0x0331001C + i * 0x20
def F.PRT_SEL_COUNT (i : Nat) : Fld := ⟨R.PRT_SEL_COUNT i, 0, 32, false, 0, []⟩

/-! ## Block HAL (R464-R466) -/

def R.HAL_CFG : Nat := 0x03400000
def F.HAL_CFG_ROLE : Fld := ⟨R.HAL_CFG, 0, 2, false, 0, []⟩
def F.HAL_CFG_HIER_PORT : Fld := ⟨R.HAL_CFG, 2, 1, false, 1, []⟩
def F.HAL_CFG_AUTO_FTC : Fld := ⟨R.HAL_CFG, 3, 1, false, 1, []⟩
def F.HAL_CFG_ETYPE : Fld := ⟨R.HAL_CFG, 16, 16, false, 34998, []⟩
def R.HAL_COMMIT : Nat := 0x03400004
def F.HAL_COMMIT_GO : Fld := ⟨R.HAL_COMMIT, 0, 1, false, 0, []⟩
def R.HAL_CTRL : Nat := 0x03400008
def F.HAL_CTRL_UNBIND : Fld := ⟨R.HAL_CTRL, 0, 1, false, 0, []⟩
def F.HAL_CTRL_LOCAL_LOCK : Fld := ⟨R.HAL_CTRL, 1, 1, false, 0, []⟩
def R.HAL_STATE : Nat := 0x0340000C
def F.HAL_STATE_STATE : Fld := ⟨R.HAL_STATE, 0, 2, false, 0, []⟩
def F.HAL_STATE_ADDR : Fld := ⟨R.HAL_STATE, 2, 14, false, 0, []⟩
def F.HAL_STATE_CONFIG_GEN : Fld := ⟨R.HAL_STATE, 16, 16, false, 0, []⟩
def R.HAL_STICKY : Nat := 0x03400010
def F.HAL_STICKY_MGR_LOST : Fld := ⟨R.HAL_STICKY, 0, 1, false, 0, []⟩
def F.HAL_STICKY_OFFER_REFUSED : Fld := ⟨R.HAL_STICKY, 1, 1, false, 0, []⟩
def F.HAL_STICKY_TIME_INVALID : Fld := ⟨R.HAL_STICKY, 2, 1, false, 0, []⟩
def R.HAL_MGR : Nat := 0x03400018
def F.HAL_MGR : Fld := ⟨R.HAL_MGR, 0, 64, false, 0, []⟩
def R.HAL_MGR_ALT : Nat := 0x03400020
def F.HAL_MGR_ALT : Fld := ⟨R.HAL_MGR_ALT, 0, 64, false, 0, []⟩
def R.HAL_MGR_FILTER : Nat := 0x03400028
def F.HAL_MGR_FILTER : Fld := ⟨R.HAL_MGR_FILTER, 0, 64, false, 0, []⟩
def R.HAL_TIME_CFG : Nat := 0x03400030
def F.HAL_TIME_CFG_RTT_MAX : Fld := ⟨R.HAL_TIME_CFG, 0, 16, true, 1024, []⟩
def R.HAL_TIME_LAST : Nat := 0x03400034
def F.HAL_TIME_LAST_OFFSET : Fld := ⟨R.HAL_TIME_LAST, 0, 16, false, 0, []⟩
def F.HAL_TIME_LAST_RTT : Fld := ⟨R.HAL_TIME_LAST, 16, 16, false, 0, []⟩
def R.HAL_SID : Nat := 0x03400038
def F.HAL_SID_RX_SID : Fld := ⟨R.HAL_SID, 0, 14, false, 0, []⟩
def F.HAL_SID_TX_SID : Fld := ⟨R.HAL_SID, 16, 14, false, 0, []⟩
def R.HAL_IMG_BASE : Nat := 0x03400040
def F.HAL_IMG_BASE_OFF : Fld := ⟨R.HAL_IMG_BASE, 0, 26, false, 0, []⟩
def F.HAL_IMG_BASE_MB : Fld := ⟨R.HAL_IMG_BASE, 26, 6, false, 0, []⟩
def R.HAL_FWD (i : Nat) : Nat := 0x03400080 + i * 0x4
def F.HAL_FWD (i : Nat) : Fld := ⟨R.HAL_FWD i, 0, 32, false, 0, []⟩
def R.HAL_H_CFG (i : Nat) : Nat := 0x03400100 + i * 0x40
def F.HAL_H_CFG_ENABLE (i : Nat) : Fld := ⟨R.HAL_H_CFG i, 0, 1, false, 0, []⟩
def F.HAL_H_CFG_PAIR (i : Nat) : Fld := ⟨R.HAL_H_CFG i, 1, 1, false, 0, []⟩
def F.HAL_H_CFG_TAGGED (i : Nat) : Fld := ⟨R.HAL_H_CFG i, 2, 1, false, 0, []⟩
def F.HAL_H_CFG_VID (i : Nat) : Fld := ⟨R.HAL_H_CFG i, 16, 12, false, 0, []⟩
def R.HAL_H_SA (i : Nat) : Nat := 0x03400108 + i * 0x40
def F.HAL_H_SA (i : Nat) : Fld := ⟨R.HAL_H_SA i, 0, 48, false, 0, []⟩
def R.HAL_H_STATUS (i : Nat) : Nat := 0x03400110 + i * 0x40
def F.HAL_H_STATUS_LINK (i : Nat) : Fld := ⟨R.HAL_H_STATUS i, 0, 1, false, 0, []⟩
def F.HAL_H_STATUS_PCS_LOCK (i : Nat) : Fld := ⟨R.HAL_H_STATUS i, 1, 1, false, 0, []⟩
def R.HAL_H_STICKY (i : Nat) : Nat := 0x03400114 + i * 0x40
def F.HAL_H_STICKY_LINK_LOST (i : Nat) : Fld := ⟨R.HAL_H_STICKY i, 0, 1, false, 0, []⟩
def F.HAL_H_STICKY_RX_DROP_SEEN (i : Nat) : Fld := ⟨R.HAL_H_STICKY i, 1, 1, false, 0, []⟩
def R.HAL_H_RXDROP (i : Nat) : Nat := 0x03400118 + i * 0x40
def F.HAL_H_RXDROP (i : Nat) : Fld := ⟨R.HAL_H_RXDROP i, 0, 64, false, 0, []⟩
def R.HAL_VIOL_CFG (i : Nat) : Nat := 0x03400400 + i * 0x10
def F.HAL_VIOL_CFG_QN (i : Nat) : Fld := ⟨R.HAL_VIOL_CFG i, 0, 8, true, 16, []⟩
def F.HAL_VIOL_CFG_QWIN (i : Nat) : Fld := ⟨R.HAL_VIOL_CFG i, 8, 16, true, 8000, [(1, 65535)]⟩
def F.HAL_VIOL_CFG_RATE (i : Nat) : Fld := ⟨R.HAL_VIOL_CFG i, 24, 8, true, 4, []⟩
def R.HAL_VIOL_QTICKS (i : Nat) : Nat := 0x03400404 + i * 0x10
def F.HAL_VIOL_QTICKS_QTICKS (i : Nat) : Fld := ⟨R.HAL_VIOL_QTICKS i, 0, 24, true, 8000, []⟩
def R.HAL_VCNT (i j : Nat) : Nat := 0x03400500 + i * 0x10 + j * 0x4
def F.HAL_VCNT (i j : Nat) : Fld := ⟨R.HAL_VCNT i j, 0, 32, false, 0, []⟩
def R.HAL_VLOG_INFO (i : Nat) : Nat := 0x03400600 + i * 0x10
def F.HAL_VLOG_INFO_KIND (i : Nat) : Fld := ⟨R.HAL_VLOG_INFO i, 0, 2, false, 0, []⟩
def F.HAL_VLOG_INFO_CLASS (i : Nat) : Fld := ⟨R.HAL_VLOG_INFO i, 2, 2, false, 0, []⟩
def F.HAL_VLOG_INFO_TYPE (i : Nat) : Fld := ⟨R.HAL_VLOG_INFO i, 4, 8, false, 0, []⟩
def F.HAL_VLOG_INFO_REASON (i : Nat) : Fld := ⟨R.HAL_VLOG_INFO i, 12, 8, false, 0, []⟩
def F.HAL_VLOG_INFO_VALID (i : Nat) : Fld := ⟨R.HAL_VLOG_INFO i, 20, 1, false, 0, []⟩
def R.HAL_VLOG_TICK (i : Nat) : Nat := 0x03400604 + i * 0x10
def F.HAL_VLOG_TICK (i : Nat) : Fld := ⟨R.HAL_VLOG_TICK i, 0, 32, false, 0, []⟩
def R.HAL_VLOG_ID (i : Nat) : Nat := 0x03400608 + i * 0x10
def F.HAL_VLOG_ID (i : Nat) : Fld := ⟨R.HAL_VLOG_ID i, 0, 64, false, 0, []⟩
def R.HAL_QUAR_STATUS : Nat := 0x03400800
def F.HAL_QUAR_STATUS_HOST : Fld := ⟨R.HAL_QUAR_STATUS, 0, 1, false, 0, []⟩
def F.HAL_QUAR_STATUS_MGR : Fld := ⟨R.HAL_QUAR_STATUS, 1, 1, false, 0, []⟩
def F.HAL_QUAR_STATUS_COUNT : Fld := ⟨R.HAL_QUAR_STATUS, 8, 8, false, 0, []⟩
def R.HAL_QUAR_DISC : Nat := 0x03400808
def F.HAL_QUAR_DISC : Fld := ⟨R.HAL_QUAR_DISC, 0, 64, false, 0, []⟩
def R.HAL_QUAR_MEM (i : Nat) : Nat := 0x03400810 + i * 0x4
def F.HAL_QUAR_MEM (i : Nat) : Fld := ⟨R.HAL_QUAR_MEM i, 0, 32, false, 0, []⟩
def R.HAL_MEM_STATE (i : Nat) : Nat := 0x03401000 + i * 0x10
def F.HAL_MEM_STATE_STATE (i : Nat) : Fld := ⟨R.HAL_MEM_STATE i, 0, 2, false, 0, []⟩
def F.HAL_MEM_STATE_PAIR_MEMBER (i : Nat) : Fld := ⟨R.HAL_MEM_STATE i, 2, 1, false, 0, []⟩
def F.HAL_MEM_STATE_CONFIG_GEN (i : Nat) : Fld := ⟨R.HAL_MEM_STATE i, 16, 16, false, 0, []⟩
def R.HAL_MEM_BURGEE (i : Nat) : Nat := 0x03401008 + i * 0x10
def F.HAL_MEM_BURGEE (i : Nat) : Fld := ⟨R.HAL_MEM_BURGEE i, 0, 64, false, 0, []⟩

/-! ## Block REC (R494/R495) -/

def R.REC_CFG : Nat := 0x03500000
def F.REC_CFG_FULL_MODE : Fld := ⟨R.REC_CFG, 0, 1, false, 0, []⟩
def F.REC_CFG_BLOCK : Fld := ⟨R.REC_CFG, 1, 1, false, 1, []⟩
def F.REC_CFG_CKU : Fld := ⟨R.REC_CFG, 2, 8, false, 0, []⟩
def F.REC_CFG_TIMEOUT : Fld := ⟨R.REC_CFG, 10, 8, false, 100, [(1, 255)]⟩
def R.REC_NSID : Nat := 0x03500004
def F.REC_NSID : Fld := ⟨R.REC_NSID, 0, 32, false, 1, []⟩
def R.REC_STATUS : Nat := 0x03500008
def F.REC_STATUS_STATE : Fld := ⟨R.REC_STATUS, 0, 3, false, 0, []⟩
def F.REC_STATUS_DRIVE_PRESENT : Fld := ⟨R.REC_STATUS, 3, 1, false, 0, []⟩
def R.REC_STICKY : Nat := 0x0350000C
def F.REC_STICKY_LOST_SEEN : Fld := ⟨R.REC_STICKY, 0, 1, false, 0, []⟩
def F.REC_STICKY_MUST_LOST : Fld := ⟨R.REC_STICKY, 1, 1, false, 0, []⟩
def F.REC_STICKY_DRIVE_LOST_SEEN : Fld := ⟨R.REC_STICKY, 2, 1, false, 0, []⟩
def F.REC_STICKY_FULL_SEEN : Fld := ⟨R.REC_STICKY, 3, 1, false, 0, []⟩
def F.REC_STICKY_WRAPPED : Fld := ⟨R.REC_STICKY, 4, 1, false, 0, []⟩
def F.REC_STICKY_NVME_ERR : Fld := ⟨R.REC_STICKY, 5, 1, false, 0, []⟩
def R.REC_RING_START : Nat := 0x03500010
def F.REC_RING_START : Fld := ⟨R.REC_RING_START, 0, 64, false, 0, []⟩
def R.REC_RING_BLOCKS : Nat := 0x03500018
def F.REC_RING_BLOCKS : Fld := ⟨R.REC_RING_BLOCKS, 0, 64, false, 0, []⟩
def R.REC_WRITE_LBA : Nat := 0x03500020
def F.REC_WRITE_LBA : Fld := ⟨R.REC_WRITE_LBA, 0, 64, false, 0, []⟩
def R.REC_OLDEST_LBA : Nat := 0x03500028
def F.REC_OLDEST_LBA : Fld := ⟨R.REC_OLDEST_LBA, 0, 64, false, 0, []⟩
def R.REC_OLDEST_SEQ : Nat := 0x03500030
def F.REC_OLDEST_SEQ : Fld := ⟨R.REC_OLDEST_SEQ, 0, 64, false, 0, []⟩
def R.REC_RELEASE_LBA : Nat := 0x03500038
def F.REC_RELEASE_LBA : Fld := ⟨R.REC_RELEASE_LBA, 0, 64, false, 0, []⟩
def R.REC_SEQ_NEXT : Nat := 0x03500040
def F.REC_SEQ_NEXT : Fld := ⟨R.REC_SEQ_NEXT, 0, 64, false, 0, []⟩
def R.REC_DURABLE_SEQ : Nat := 0x03500048
def F.REC_DURABLE_SEQ : Fld := ⟨R.REC_DURABLE_SEQ, 0, 64, false, 0, []⟩
def R.REC_STAGE_BASE : Nat := 0x03500050
def F.REC_STAGE_BASE : Fld := ⟨R.REC_STAGE_BASE, 6, 20, false, 0, []⟩
def R.REC_STAGE_LINES : Nat := 0x03500054
def F.REC_STAGE_LINES : Fld := ⟨R.REC_STAGE_LINES, 0, 20, false, 0, []⟩
def R.REC_RESV_LINES : Nat := 0x03500058
def F.REC_RESV_LINES : Fld := ⟨R.REC_RESV_LINES, 0, 20, false, 0, []⟩
def R.REC_FLUSH_PER : Nat := 0x0350005C
def F.REC_FLUSH_PER : Fld := ⟨R.REC_FLUSH_PER, 0, 16, false, 800, [(1, 65535)]⟩
def R.REC_B_RATE : Nat := 0x03500060
def F.REC_B_RATE : Fld := ⟨R.REC_B_RATE, 0, 24, false, 65536, []⟩
def R.REC_LOST : Nat := 0x03500068
def F.REC_LOST : Fld := ⟨R.REC_LOST, 0, 64, false, 0, []⟩
def R.REC_SRC_CFG (i : Nat) : Nat := 0x03501000 + i * 0x10
def F.REC_SRC_CFG_EN (i : Nat) : Fld := ⟨R.REC_SRC_CFG i, 0, 1, false, 0, []⟩
def F.REC_SRC_CFG_MUST (i : Nat) : Fld := ⟨R.REC_SRC_CFG i, 1, 1, false, 0, []⟩
def F.REC_SRC_CFG_BY_TICK (i : Nat) : Fld := ⟨R.REC_SRC_CFG i, 2, 1, false, 0, []⟩
def F.REC_SRC_CFG_TICKS (i : Nat) : Fld := ⟨R.REC_SRC_CFG i, 3, 8, false, 0, []⟩
def F.REC_SRC_CFG_QUEUE (i : Nat) : Fld := ⟨R.REC_SRC_CFG i, 11, 15, false, 0, []⟩
def R.REC_SRC_CHAN (i : Nat) : Nat := 0x03501004 + i * 0x10
def F.REC_SRC_CHAN_CHAN (i : Nat) : Fld := ⟨R.REC_SRC_CHAN i, 0, 14, false, 0, []⟩
def R.REC_SRC_LOST (i : Nat) : Nat := 0x03501008 + i * 0x10
def F.REC_SRC_LOST (i : Nat) : Fld := ⟨R.REC_SRC_LOST i, 0, 32, false, 0, []⟩

/-- The rows of block `SUP` (R158/R159/R515/R516). -/
def rowsSUP : List RegRow := [
  ⟨0x0, 0x0, 1, 0x0, 1, false, false, false, [⟨0, 16, .ro, .L, 32868, []⟩, ⟨16, 8, .ro, .L, 16, []⟩]⟩,
  ⟨0x8, 0x0, 1, 0x0, 1, true, false, false, [⟨0, 64, .ro, .L, 0, []⟩]⟩,
  ⟨0x10, 0x0, 1, 0x0, 1, false, false, false, [⟨0, 32, .ro, .L, 0, []⟩]⟩,
  ⟨0x14, 0x0, 1, 0x0, 1, false, false, false, [⟨0, 16, .ro, .L, 65535, []⟩]⟩,
  ⟨0x20, 0x0, 1, 0x0, 1, false, false, false, [⟨0, 4, .ro, .L, 1, []⟩, ⟨4, 2, .ro, .L, 0, []⟩, ⟨6, 2, .ro, .L, 0, []⟩, ⟨8, 3, .ro, .L, 0, []⟩, ⟨11, 3, .ro, .L, 0, []⟩, ⟨14, 3, .ro, .L, 0, []⟩, ⟨17, 1, .ro, .L, 0, []⟩, ⟨18, 1, .ro, .L, 0, []⟩, ⟨19, 1, .ro, .L, 0, []⟩, ⟨20, 1, .ro, .L, 0, []⟩, ⟨21, 1, .ro, .L, 0, []⟩, ⟨22, 1, .ro, .L, 0, []⟩, ⟨23, 1, .ro, .L, 0, []⟩, ⟨24, 8, .ro, .L, 0, []⟩]⟩,
  ⟨0x24, 0x0, 1, 0x0, 1, false, false, false, [⟨0, 1, .w1c, .L, 0, []⟩, ⟨1, 1, .w1c, .L, 0, []⟩, ⟨2, 1, .w1c, .L, 0, []⟩, ⟨3, 1, .w1c, .L, 0, []⟩, ⟨4, 1, .w1c, .L, 0, []⟩]⟩,
  ⟨0x28, 0x0, 1, 0x0, 1, false, false, false, [⟨0, 1, .ro, .L, 0, []⟩, ⟨1, 1, .ro, .L, 0, []⟩, ⟨2, 1, .ro, .L, 0, []⟩, ⟨3, 1, .ro, .L, 1, []⟩, ⟨8, 8, .ro, .L, 0, []⟩]⟩,
  ⟨0x2C, 0x0, 1, 0x0, 1, false, false, false, [⟨0, 1, .w1s, .L, 0, []⟩]⟩,
  ⟨0x30, 0x0, 1, 0x0, 1, false, false, false, [⟨0, 1, .ro, .L, 0, []⟩, ⟨1, 1, .ro, .L, 0, []⟩]⟩,
  ⟨0x38, 0x0, 1, 0x0, 1, true, false, false, [⟨0, 64, .cnt, .L, 0, []⟩]⟩,
  ⟨0x1000, 0x40, 16, 0x0, 1, false, false, false, [⟨0, 8, .rw, .L, 0, []⟩, ⟨8, 4, .rw, .L, 0, []⟩, ⟨16, 16, .rw, .L, 0, []⟩]⟩,
  ⟨0x1004, 0x40, 16, 0x0, 1, false, false, false, [⟨0, 1, .w1s, .L, 0, []⟩, ⟨1, 1, .w1s, .L, 0, []⟩]⟩,
  ⟨0x1008, 0x40, 16, 0x0, 1, false, false, false, [⟨0, 8, .ro, .L, 0, []⟩, ⟨16, 16, .ro, .L, 0, []⟩]⟩,
  ⟨0x100C, 0x40, 16, 0x0, 1, false, false, false, [⟨0, 16, .ro, .L, 0, []⟩]⟩,
  ⟨0x1010, 0x40, 16, 0x4, 12, false, false, false, [⟨0, 32, .rw, .L, 0, []⟩]⟩]

/-- The rows of block `CLK` (R87-R93). -/
def rowsCLK : List RegRow := [
  ⟨0x0, 0x0, 1, 0x0, 1, false, false, false, [⟨0, 1, .ro, .L, 0, []⟩, ⟨1, 1, .ro, .L, 0, []⟩, ⟨2, 1, .ro, .L, 0, []⟩, ⟨3, 1, .ro, .L, 0, []⟩, ⟨4, 1, .ro, .L, 0, []⟩, ⟨5, 1, .ro, .L, 0, []⟩, ⟨6, 4, .ro, .L, 0, []⟩, ⟨10, 1, .ro, .L, 0, []⟩, ⟨11, 1, .ro, .L, 0, []⟩, ⟨12, 1, .ro, .L, 0, []⟩, ⟨13, 4, .ro, .L, 0, []⟩, ⟨17, 3, .ro, .L, 0, []⟩, ⟨20, 2, .ro, .L, 0, []⟩, ⟨22, 1, .ro, .L, 0, []⟩]⟩,
  ⟨0x4, 0x0, 1, 0x0, 1, false, false, false, [⟨0, 1, .w1c, .L, 0, []⟩, ⟨1, 1, .w1c, .L, 0, []⟩, ⟨2, 1, .w1c, .L, 0, []⟩, ⟨3, 1, .w1c, .L, 0, []⟩, ⟨4, 4, .w1c, .L, 0, []⟩, ⟨8, 1, .w1c, .L, 0, []⟩, ⟨9, 1, .w1c, .L, 0, []⟩, ⟨10, 1, .w1c, .L, 0, []⟩, ⟨11, 1, .w1c, .L, 0, []⟩, ⟨12, 1, .w1c, .L, 0, []⟩, ⟨13, 1, .w1c, .L, 0, []⟩]⟩,
  ⟨0x8, 0x0, 1, 0x0, 1, false, false, false, [⟨0, 2, .ro, .L, 0, []⟩, ⟨2, 1, .ro, .L, 0, []⟩]⟩,
  ⟨0xC, 0x0, 1, 0x0, 1, false, false, false, [⟨0, 16, .ro, .L, 0, []⟩, ⟨16, 4, .ro, .L, 0, []⟩]⟩,
  ⟨0x10, 0x0, 1, 0x0, 1, false, false, false, [⟨0, 4, .rw, .L, 0, [(0, 10)]⟩, ⟨4, 2, .rw, .L, 0, [(0, 2)]⟩, ⟨8, 1, .w1s, .L, 0, []⟩]⟩,
  ⟨0x14, 0x0, 1, 0x0, 1, false, false, false, [⟨0, 22, .ro, .L, 0, []⟩, ⟨24, 1, .ro, .L, 0, []⟩, ⟨25, 1, .w1c, .L, 0, []⟩, ⟨26, 1, .w1c, .L, 0, []⟩]⟩,
  ⟨0x100, 0x0, 1, 0x0, 1, false, false, false, [⟨0, 1, .w1s, .L, 0, []⟩, ⟨1, 2, .rw, .F, 1, [(0, 2)]⟩, ⟨3, 5, .rw, .F, 10, [(1, 31)]⟩, ⟨8, 1, .rw, .F, 0, []⟩, ⟨9, 1, .rw, .F, 0, []⟩, ⟨10, 8, .rw, .F, 40, []⟩, ⟨18, 8, .rw, .F, 8, [(1, 255)]⟩]⟩,
  ⟨0x104, 0x0, 1, 0x0, 1, false, false, false, [⟨0, 3, .rw, .F, 0, [(0, 4)]⟩, ⟨4, 3, .rw, .F, 0, [(0, 4)]⟩]⟩,
  ⟨0x108, 0x0, 1, 0x0, 1, false, false, false, [⟨0, 14, .rw, .F, 0, []⟩, ⟨16, 14, .rw, .F, 0, []⟩]⟩,
  ⟨0x10C, 0x0, 1, 0x0, 1, false, false, false, [⟨0, 1, .wo, .L, 0, []⟩]⟩,
  ⟨0x110, 0x0, 1, 0x0, 1, false, false, false, [⟨0, 32, .ro, .L, 0, []⟩]⟩,
  ⟨0x118, 0x0, 1, 0x0, 1, false, false, false, [⟨0, 1, .wo, .L, 0, []⟩]⟩,
  ⟨0x120, 0x0, 1, 0x0, 1, true, false, false, [⟨0, 64, .ro, .L, 0, []⟩]⟩,
  ⟨0x128, 0x0, 1, 0x0, 1, true, false, false, [⟨0, 64, .ro, .L, 0, []⟩]⟩,
  ⟨0x130, 0x0, 1, 0x0, 1, true, false, false, [⟨0, 51, .rw, .H, 0, []⟩]⟩,
  ⟨0x138, 0x0, 1, 0x0, 1, true, false, false, [⟨0, 48, .ro, .L, 0, []⟩]⟩,
  ⟨0x140, 0x0, 1, 0x0, 1, true, false, false, [⟨0, 48, .ro, .L, 0, []⟩]⟩,
  ⟨0x150, 0x0, 1, 0x0, 1, true, false, false, [⟨0, 48, .rw, .F, 4294967296, []⟩]⟩,
  ⟨0x158, 0x0, 1, 0x0, 1, true, false, false, [⟨0, 48, .rw, .F, 4294967296, []⟩]⟩,
  ⟨0x160, 0x0, 1, 0x0, 1, false, false, false, [⟨0, 2, .rw, .F, 0, []⟩, ⟨2, 2, .rw, .F, 0, []⟩]⟩,
  ⟨0x1000, 0x20, 32, 0x0, 1, false, false, false, [⟨0, 8, .rw, .L, 0, [(0, 9), (16, 93), (96, 96)]⟩, ⟨8, 8, .rw, .L, 0, [(0, 9), (16, 93), (96, 96)]⟩, ⟨16, 1, .w1s, .L, 0, []⟩, ⟨17, 1, .rw, .L, 0, []⟩, ⟨18, 1, .ro, .L, 0, []⟩]⟩,
  ⟨0x1004, 0x20, 32, 0x0, 1, false, false, false, [⟨0, 24, .rw, .L, 1000, [(1, 16777215)]⟩]⟩,
  ⟨0x1008, 0x20, 32, 0x0, 1, true, false, false, [⟨0, 32, .ro, .L, 0, []⟩, ⟨32, 16, .ro, .L, 0, []⟩, ⟨48, 1, .ro, .L, 0, []⟩, ⟨49, 1, .ro, .L, 0, []⟩, ⟨50, 1, .ro, .L, 0, []⟩]⟩]

/-- The rows of block `PWR` (R124-R126). -/
def rowsPWR : List RegRow := [
  ⟨0x0, 0x0, 1, 0x0, 1, false, false, false, [⟨0, 1, .ro, .L, 0, []⟩, ⟨1, 1, .ro, .L, 0, []⟩, ⟨2, 1, .ro, .L, 0, []⟩, ⟨3, 1, .ro, .L, 0, []⟩, ⟨4, 1, .ro, .L, 0, []⟩, ⟨5, 1, .ro, .L, 0, []⟩, ⟨6, 1, .ro, .L, 0, []⟩, ⟨7, 1, .ro, .L, 0, []⟩]⟩,
  ⟨0x4, 0x0, 1, 0x0, 1, false, false, false, [⟨0, 1, .w1c, .L, 0, []⟩, ⟨1, 1, .w1c, .L, 0, []⟩, ⟨2, 1, .w1c, .L, 0, []⟩, ⟨3, 1, .w1c, .L, 0, []⟩, ⟨4, 1, .w1c, .L, 0, []⟩, ⟨5, 1, .w1c, .L, 0, []⟩, ⟨6, 1, .w1c, .L, 0, []⟩, ⟨7, 1, .w1c, .L, 0, []⟩, ⟨8, 1, .w1c, .L, 0, []⟩, ⟨9, 1, .w1c, .L, 0, []⟩, ⟨10, 1, .w1c, .L, 0, []⟩, ⟨11, 1, .w1c, .L, 0, []⟩, ⟨12, 1, .w1c, .L, 0, []⟩, ⟨13, 1, .w1c, .L, 0, []⟩]⟩,
  ⟨0x8, 0x0, 1, 0x0, 1, false, false, false, [⟨0, 8, .rw, .F, 170, [(24, 170)]⟩]⟩,
  ⟨0xC, 0x0, 1, 0x0, 1, false, false, false, [⟨0, 8, .ro, .L, 0, []⟩, ⟨8, 2, .ro, .L, 0, []⟩]⟩,
  ⟨0x10, 0x0, 1, 0x0, 1, false, false, false, [⟨0, 1, .wo, .L, 0, []⟩]⟩,
  ⟨0x14, 0x0, 1, 0x0, 1, false, false, false, [⟨0, 1, .w1s, .L, 0, []⟩, ⟨1, 1, .w1s, .L, 0, []⟩]⟩,
  ⟨0x18, 0x0, 1, 0x0, 1, false, false, false, [⟨0, 16, .ro, .L, 0, []⟩, ⟨16, 16, .ro, .L, 0, []⟩]⟩,
  ⟨0x1C, 0x0, 1, 0x0, 1, false, false, false, [⟨0, 16, .ro, .L, 0, []⟩, ⟨16, 16, .ro, .L, 0, []⟩]⟩,
  ⟨0x20, 0x0, 1, 0x0, 1, false, false, false, [⟨0, 32, .ro, .L, 0, []⟩]⟩,
  ⟨0x24, 0x0, 1, 0x0, 1, false, false, false, [⟨0, 16, .rw, .F, 200, [(1, 65535)]⟩]⟩,
  ⟨0x28, 0x0, 1, 0x0, 1, false, false, false, [⟨0, 16, .ro, .L, 0, []⟩, ⟨16, 4, .ro, .L, 0, []⟩]⟩,
  ⟨0x30, 0x0, 1, 0x0, 1, false, false, false, [⟨0, 1, .w1s, .L, 0, []⟩, ⟨1, 1, .w1s, .L, 0, []⟩, ⟨2, 1, .rw, .F, 0, []⟩]⟩,
  ⟨0x34, 0x0, 1, 0x0, 1, false, false, false, [⟨0, 4, .ro, .L, 0, []⟩, ⟨4, 4, .ro, .L, 0, []⟩, ⟨8, 1, .w1c, .L, 0, []⟩, ⟨9, 1, .ro, .L, 0, []⟩, ⟨16, 16, .ro, .L, 0, []⟩]⟩,
  ⟨0x38, 0x0, 1, 0x0, 1, false, false, false, [⟨0, 8, .rw, .H, 255, []⟩]⟩,
  ⟨0x3C, 0x0, 1, 0x0, 1, false, false, false, [⟨0, 7, .rw, .L, 0, [(0, 95)]⟩, ⟨8, 1, .w1s, .L, 0, []⟩]⟩,
  ⟨0x40, 0x4, 3, 0x0, 1, false, false, false, [⟨0, 32, .ro, .L, 0, []⟩]⟩,
  ⟨0x50, 0x0, 1, 0x0, 1, false, false, false, [⟨0, 20, .rw, .L, 30000, []⟩]⟩,
  ⟨0x100, 0x4, 162, 0x0, 1, false, false, false, [⟨0, 1, .rw, .L, 0, []⟩, ⟨1, 1, .rw, .L, 0, []⟩]⟩,
  ⟨0x400, 0x4, 162, 0x0, 1, false, false, false, [⟨0, 2, .ro, .L, 0, []⟩, ⟨2, 1, .ro, .L, 0, []⟩, ⟨3, 1, .w1c, .L, 0, []⟩, ⟨4, 1, .ro, .L, 0, []⟩]⟩,
  ⟨0x800, 0x4, 12, 0x0, 1, false, false, false, [⟨0, 16, .ro, .L, 0, []⟩, ⟨16, 1, .ro, .L, 0, []⟩]⟩,
  ⟨0x900, 0x4, 8, 0x0, 1, false, false, false, [⟨0, 20, .ro, .L, 0, []⟩]⟩]

/-- The rows of block `BUS` (R160/R161). -/
def rowsBUS : List RegRow := [
  ⟨0x0, 0x0, 1, 0x0, 1, false, false, false, [⟨0, 1, .w1c, .L, 0, []⟩, ⟨8, 8, .ro, .L, 0, []⟩, ⟨16, 16, .ro, .L, 0, []⟩]⟩,
  ⟨0x4, 0x0, 1, 0x0, 1, false, false, false, [⟨0, 27, .ro, .L, 0, []⟩]⟩,
  ⟨0x8, 0x0, 1, 0x0, 1, false, false, false, [⟨0, 24, .rw, .L, 0, []⟩]⟩,
  ⟨0xC, 0x0, 1, 0x0, 1, false, false, false, [⟨0, 24, .ro, .L, 0, []⟩]⟩,
  ⟨0x10, 0x0, 1, 0x0, 1, false, false, false, [⟨0, 32, .ro, .L, 0, []⟩]⟩,
  ⟨0x20, 0x0, 1, 0x0, 1, false, false, false, [⟨0, 32, .ro, .L, 0, []⟩]⟩,
  ⟨0x30, 0x0, 1, 0x0, 1, false, false, false, [⟨0, 16, .rw, .L, 1024, [(16, 65535)]⟩]⟩,
  ⟨0x100, 0x10, 16, 0x0, 1, false, false, false, [⟨0, 32, .ro, .L, 0, []⟩]⟩,
  ⟨0x104, 0x10, 16, 0x0, 1, false, false, false, [⟨0, 4, .ro, .L, 0, []⟩, ⟨4, 4, .ro, .L, 0, []⟩, ⟨8, 1, .ro, .L, 0, []⟩, ⟨9, 4, .ro, .L, 0, []⟩]⟩,
  ⟨0x108, 0x10, 16, 0x0, 1, true, false, false, [⟨0, 64, .ro, .L, 0, []⟩]⟩,
  ⟨0x200, 0x4, 13, 0x0, 1, false, false, false, [⟨0, 8, .ro, .L, 0, []⟩, ⟨8, 8, .ro, .L, 0, []⟩, ⟨16, 1, .ro, .L, 0, []⟩, ⟨17, 1, .ro, .L, 0, []⟩, ⟨18, 2, .ro, .L, 0, []⟩]⟩,
  ⟨0x300, 0x4, 21, 0x0, 1, false, false, false, [⟨0, 4, .ro, .L, 0, []⟩]⟩]

/-- The rows of block `EVT` (R492/R493). -/
def rowsEVT : List RegRow := [
  ⟨0x0, 0x0, 1, 0x0, 1, false, false, false, [⟨0, 1, .rw, .L, 0, []⟩]⟩,
  ⟨0x4, 0x0, 1, 0x0, 1, false, false, false, [⟨0, 1, .w1c, .L, 0, []⟩, ⟨1, 1, .w1c, .L, 0, []⟩]⟩,
  ⟨0x8, 0x0, 1, 0x0, 1, true, false, false, [⟨12, 52, .rw, .H, 0, []⟩]⟩,
  ⟨0x10, 0x0, 1, 0x0, 1, false, false, false, [⟨0, 5, .rw, .H, 10, [(6, 16)]⟩]⟩,
  ⟨0x14, 0x0, 1, 0x0, 1, false, false, false, [⟨0, 16, .rw, .L, 0, []⟩]⟩,
  ⟨0x18, 0x0, 1, 0x0, 1, false, false, false, [⟨0, 16, .ro, .L, 0, []⟩, ⟨16, 1, .ro, .L, 0, []⟩]⟩,
  ⟨0x1C, 0x0, 1, 0x0, 1, false, false, false, [⟨0, 16, .rw, .H, 0, []⟩, ⟨16, 16, .rw, .H, 0, []⟩]⟩,
  ⟨0x20, 0x0, 1, 0x0, 1, false, false, false, [⟨0, 16, .rw, .H, 0, []⟩]⟩,
  ⟨0x30, 0x4, 4, 0x0, 1, false, false, false, [⟨0, 32, .cnt, .L, 0, []⟩]⟩,
  ⟨0x40, 0x0, 1, 0x0, 1, true, false, false, [⟨0, 64, .cnt, .L, 0, []⟩]⟩,
  ⟨0x100, 0x4, 32, 0x0, 1, false, false, false, [⟨0, 32, .w1c, .L, 0, []⟩]⟩,
  ⟨0x200, 0x4, 8, 0x0, 1, false, false, false, [⟨0, 32, .w1s, .L, 4294967295, []⟩]⟩,
  ⟨0x300, 0x4, 48, 0x0, 1, false, false, false, [⟨0, 32, .ro, .L, 0, []⟩]⟩,
  ⟨0x1000, 0x4, 1024, 0x0, 1, false, false, false, [⟨0, 1, .rw, .L, 1, []⟩, ⟨1, 1, .rw, .L, 0, []⟩, ⟨2, 1, .rw, .L, 0, []⟩, ⟨3, 1, .rw, .L, 0, []⟩, ⟨4, 1, .rw, .L, 0, []⟩, ⟨5, 2, .rw, .L, 0, []⟩, ⟨8, 8, .rw, .L, 0, []⟩]⟩]

/-- The rows of block `TAL` (R496/R497). -/
def rowsTAL : List RegRow := [
  ⟨0x0, 0x0, 1, 0x0, 1, false, false, false, [⟨0, 1, .rw, .L, 0, []⟩, ⟨1, 1, .rw, .H, 0, []⟩, ⟨16, 16, .rw, .H, 8000, [(1, 65535)]⟩]⟩,
  ⟨0x8, 0x0, 1, 0x0, 1, true, false, false, [⟨11, 53, .rw, .H, 0, []⟩]⟩,
  ⟨0x10, 0x0, 1, 0x0, 1, false, false, false, [⟨0, 5, .rw, .H, 8, [(4, 16)]⟩]⟩,
  ⟨0x14, 0x0, 1, 0x0, 1, false, false, false, [⟨0, 16, .rw, .L, 0, []⟩]⟩,
  ⟨0x18, 0x0, 1, 0x0, 1, false, false, false, [⟨0, 16, .ro, .L, 0, []⟩]⟩,
  ⟨0x1C, 0x0, 1, 0x0, 1, false, false, false, [⟨0, 1, .w1c, .L, 0, []⟩, ⟨1, 1, .w1c, .L, 0, []⟩]⟩,
  ⟨0x20, 0x0, 1, 0x0, 1, false, false, false, [⟨0, 1, .rw, .L, 0, []⟩, ⟨1, 1, .rw, .H, 0, []⟩, ⟨2, 5, .rw, .H, 12, [(4, 20)]⟩, ⟨7, 5, .rw, .H, 12, [(8, 20)]⟩]⟩,
  ⟨0x28, 0x0, 1, 0x0, 1, true, false, false, [⟨12, 52, .rw, .H, 0, []⟩]⟩,
  ⟨0x30, 0x0, 1, 0x0, 1, false, false, false, [⟨0, 20, .rw, .L, 0, []⟩]⟩,
  ⟨0x34, 0x0, 1, 0x0, 1, false, false, false, [⟨0, 20, .ro, .L, 0, []⟩]⟩,
  ⟨0x40, 0x4, 3, 0x0, 1, false, false, false, [⟨0, 32, .rw, .L, 4294967295, []⟩]⟩,
  ⟨0x50, 0x4, 3, 0x0, 1, false, false, false, [⟨0, 32, .rw, .L, 0, []⟩]⟩,
  ⟨0x800, 0x4, 96, 0x0, 1, false, false, false, [⟨0, 24, .rw, .H, 1, [(1, 16777215)]⟩]⟩,
  ⟨0x1000, 0x40, 24, 0x8, 8, true, false, false, [⟨0, 64, .ro, .L, 0, []⟩]⟩]

/-- The rows of block `CAL` (R127). -/
def rowsCAL : List RegRow := [
  ⟨0x0, 0x0, 1, 0x0, 1, false, false, false, [⟨0, 1, .ro, .L, 0, []⟩, ⟨1, 1, .ro, .L, 0, []⟩, ⟨2, 2, .ro, .L, 0, []⟩]⟩,
  ⟨0x4, 0x0, 1, 0x0, 1, false, false, false, [⟨0, 16, .wo, .L, 0, []⟩, ⟨16, 1, .w1s, .L, 0, []⟩]⟩,
  ⟨0x8, 0x0, 1, 0x0, 1, false, false, false, [⟨0, 11, .ro, .L, 0, []⟩]⟩,
  ⟨0x1000, 0x4, 1024, 0x0, 1, false, false, false, [⟨0, 32, .ro, .L, 0, []⟩]⟩,
  ⟨0x2000, 0x4, 1024, 0x0, 1, false, false, false, [⟨0, 32, .rw, .L, 0, []⟩]⟩]

/-- The rows of block `TILE` (R190/R191/R218). -/
def rowsTILE : List RegRow := [
  ⟨0x0, 0x0, 1, 0x0, 1, false, false, false, [⟨0, 1, .rw, .L, 0, []⟩, ⟨8, 7, .rw, .H, 90, [(50, 100)]⟩]⟩,
  ⟨0x4, 0x0, 1, 0x0, 1, false, false, false, [⟨0, 12, .ro, .L, 0, []⟩, ⟨12, 12, .ro, .L, 0, []⟩]⟩,
  ⟨0x8, 0x0, 1, 0x0, 1, false, false, false, [⟨0, 13, .rw, .F, 1024, [(64, 4096)]⟩]⟩,
  ⟨0xC, 0x0, 1, 0x0, 1, false, false, false, [⟨0, 1, .wo, .L, 0, []⟩]⟩,
  ⟨0x10, 0x0, 1, 0x0, 1, true, false, false, [⟨0, 64, .cnt, .L, 0, []⟩]⟩,
  ⟨0x18, 0x0, 1, 0x0, 1, true, false, false, [⟨0, 64, .cnt, .L, 0, []⟩]⟩,
  ⟨0x100, 0x10, 12, 0x0, 1, false, false, false, [⟨0, 16, .ro, .L, 0, []⟩, ⟨16, 16, .ro, .L, 0, []⟩]⟩,
  ⟨0x104, 0x10, 12, 0x0, 1, false, false, false, [⟨0, 16, .ro, .L, 0, []⟩, ⟨16, 7, .ro, .L, 0, []⟩]⟩,
  ⟨0x1000, 0x8, 192, 0x0, 1, true, false, false, [⟨0, 64, .w1c, .L, 0, []⟩]⟩,
  ⟨0x2000, 0x10, 192, 0x0, 1, false, false, false, [⟨0, 1, .ro, .L, 0, []⟩, ⟨1, 2, .ro, .L, 0, []⟩, ⟨3, 7, .ro, .L, 0, []⟩, ⟨10, 1, .ro, .L, 0, []⟩, ⟨11, 1, .ro, .L, 0, []⟩]⟩,
  ⟨0x2004, 0x10, 192, 0x0, 1, false, false, false, [⟨0, 4, .ro, .L, 0, []⟩, ⟨4, 6, .ro, .L, 0, []⟩, ⟨10, 1, .w1c, .L, 0, []⟩, ⟨16, 16, .ro, .L, 0, []⟩]⟩,
  ⟨0x2008, 0x10, 192, 0x0, 1, false, false, false, [⟨0, 17, .ro, .L, 0, []⟩]⟩,
  ⟨0x200C, 0x10, 192, 0x0, 1, false, false, false, [⟨0, 32, .ro, .L, 0, []⟩]⟩,
  ⟨0x3000, 0x0, 1, 0x0, 1, false, true, false, [⟨0, 2, .rw, .H, 0, [(0, 2)]⟩]⟩,
  ⟨0x3008, 0x0, 1, 0x0, 1, true, true, false, [⟨22, 42, .rw, .H, 0, []⟩]⟩,
  ⟨0x3010, 0x0, 1, 0x0, 1, false, true, false, [⟨0, 14, .rw, .L, 0, []⟩, ⟨31, 1, .w1s, .L, 0, []⟩]⟩,
  ⟨0x3040, 0x4, 16, 0x0, 1, false, true, false, [⟨0, 32, .ro, .L, 0, []⟩]⟩,
  ⟨0x3080, 0x0, 1, 0x0, 1, false, true, false, [⟨0, 12, .ro, .L, 0, []⟩]⟩,
  ⟨0x3088, 0x0, 1, 0x0, 1, true, true, false, [⟨0, 64, .cnt, .L, 0, []⟩]⟩,
  ⟨0x3090, 0x0, 1, 0x0, 1, true, true, false, [⟨0, 64, .cnt, .L, 0, []⟩]⟩]

/-- The rows of block `LIN` (R276-R280). -/
def rowsLIN : List RegRow := [
  ⟨0x0, 0x0, 1, 0x0, 1, false, false, false, [⟨0, 1, .wo, .L, 0, []⟩]⟩,
  ⟨0x4, 0x0, 1, 0x0, 1, false, false, false, [⟨0, 16, .ro, .L, 0, []⟩]⟩,
  ⟨0x100, 0x10, 4, 0x0, 1, false, false, false, [⟨0, 3, .rw, .H, 0, [(0, 6)]⟩, ⟨4, 3, .rw, .H, 1, []⟩, ⟨8, 2, .rw, .H, 0, []⟩]⟩,
  ⟨0x104, 0x10, 4, 0x0, 1, false, false, false, [⟨0, 1, .ro, .L, 0, []⟩, ⟨1, 1, .ro, .L, 0, []⟩]⟩,
  ⟨0x1000, 0x40, 16, 0x0, 1, false, false, false, [⟨0, 1, .rw, .L, 0, []⟩, ⟨1, 4, .rw, .H, 0, [(0, 10)]⟩, ⟨5, 2, .rw, .H, 0, [(0, 2)]⟩, ⟨7, 1, .rw, .H, 0, []⟩, ⟨8, 1, .rw, .H, 0, []⟩, ⟨9, 1, .rw, .F, 0, []⟩, ⟨10, 2, .rw, .H, 0, [(0, 2)]⟩, ⟨12, 1, .rw, .H, 0, []⟩, ⟨13, 1, .rw, .H, 0, []⟩, ⟨18, 14, .rw, .H, 1522, [(64, 9600)]⟩]⟩,
  ⟨0x1004, 0x40, 16, 0x0, 1, false, false, false, [⟨0, 14, .rw, .H, 0, []⟩, ⟨16, 14, .rw, .H, 0, []⟩]⟩,
  ⟨0x1008, 0x40, 16, 0x0, 1, false, false, false, [⟨0, 1, .ro, .L, 0, []⟩, ⟨1, 1, .ro, .L, 0, []⟩, ⟨2, 1, .ro, .L, 0, []⟩, ⟨3, 1, .ro, .L, 0, []⟩]⟩,
  ⟨0x100C, 0x40, 16, 0x0, 1, false, false, false, [⟨0, 1, .w1c, .L, 0, []⟩, ⟨1, 1, .w1c, .L, 0, []⟩, ⟨2, 1, .w1c, .L, 0, []⟩, ⟨3, 1, .w1c, .L, 0, []⟩, ⟨4, 1, .w1c, .L, 0, []⟩, ⟨5, 1, .w1c, .L, 0, []⟩]⟩,
  ⟨0x1010, 0x40, 16, 0x0, 1, true, false, false, [⟨0, 64, .cnt, .L, 0, []⟩]⟩,
  ⟨0x1018, 0x40, 16, 0x0, 1, true, false, false, [⟨0, 32, .cnt, .L, 0, []⟩, ⟨32, 32, .cnt, .L, 0, []⟩]⟩,
  ⟨0x1020, 0x40, 16, 0x0, 1, false, false, false, [⟨0, 32, .ro, .L, 0, []⟩]⟩,
  ⟨0x2000, 0x40, 8, 0x0, 1, false, false, false, [⟨0, 1, .rw, .L, 0, []⟩, ⟨1, 1, .rw, .F, 0, []⟩]⟩,
  ⟨0x2004, 0x40, 8, 0x0, 1, false, false, false, [⟨0, 14, .rw, .H, 0, []⟩]⟩,
  ⟨0x2008, 0x40, 8, 0x0, 1, false, false, false, [⟨0, 1, .ro, .L, 0, []⟩, ⟨8, 8, .ro, .L, 0, []⟩]⟩,
  ⟨0x4000, 0x200, 8, 0x4, 126, false, false, false, [⟨0, 14, .rw, .H, 0, []⟩, ⟨14, 1, .rw, .L, 0, []⟩, ⟨15, 1, .rw, .H, 0, []⟩, ⟨16, 14, .rw, .H, 0, []⟩]⟩,
  ⟨0x6000, 0x40, 32, 0x0, 1, false, false, false, [⟨0, 1, .rw, .L, 0, []⟩, ⟨1, 1, .rw, .H, 0, []⟩, ⟨2, 1, .rw, .H, 0, []⟩, ⟨3, 1, .rw, .H, 0, []⟩, ⟨4, 2, .rw, .H, 0, [(0, 2)]⟩, ⟨6, 1, .rw, .H, 0, []⟩, ⟨7, 1, .rw, .F, 0, []⟩, ⟨8, 8, .rw, .F, 16, [(1, 255)]⟩]⟩,
  ⟨0x6004, 0x40, 32, 0x0, 1, false, false, false, [⟨0, 24, .rw, .H, 2048000, [(600, 2048000)]⟩, ⟨24, 8, .rw, .F, 40, [(1, 255)]⟩]⟩,
  ⟨0x6008, 0x40, 32, 0x0, 1, false, false, false, [⟨0, 14, .rw, .H, 0, []⟩, ⟨16, 14, .rw, .H, 0, []⟩]⟩,
  ⟨0x600C, 0x40, 32, 0x0, 1, false, false, false, [⟨0, 1, .ro, .L, 0, []⟩, ⟨1, 1, .ro, .L, 0, []⟩, ⟨8, 24, .ro, .L, 0, []⟩]⟩,
  ⟨0x6010, 0x40, 32, 0x0, 1, false, false, false, [⟨0, 1, .w1c, .L, 0, []⟩, ⟨1, 1, .w1c, .L, 0, []⟩, ⟨2, 1, .w1c, .L, 0, []⟩, ⟨3, 1, .w1c, .L, 0, []⟩, ⟨4, 1, .w1c, .L, 0, []⟩, ⟨5, 1, .w1c, .L, 0, []⟩]⟩,
  ⟨0x8000, 0x0, 1, 0x0, 1, false, false, false, [⟨0, 16, .rw, .F, 34997, []⟩, ⟨16, 8, .rw, .F, 128, [(1, 255)]⟩]⟩,
  ⟨0x8004, 0x0, 1, 0x0, 1, false, false, false, [⟨0, 8, .rw, .L, 0, []⟩]⟩,
  ⟨0x8008, 0x0, 1, 0x0, 1, true, false, false, [⟨0, 48, .rw, .H, 0, []⟩]⟩,
  ⟨0x8100, 0x20, 64, 0x0, 1, false, false, false, [⟨0, 1, .rw, .L, 0, []⟩, ⟨1, 1, .w1s, .L, 0, []⟩, ⟨2, 1, .rw, .H, 0, []⟩, ⟨4, 4, .rw, .H, 0, []⟩, ⟨8, 8, .rw, .H, 0, []⟩, ⟨16, 14, .rw, .H, 0, []⟩]⟩,
  ⟨0x8104, 0x20, 64, 0x0, 1, false, false, false, [⟨0, 2, .ro, .L, 0, []⟩, ⟨2, 1, .w1c, .L, 0, []⟩, ⟨3, 1, .w1c, .L, 0, []⟩, ⟨8, 8, .ro, .L, 0, []⟩, ⟨16, 16, .ro, .L, 0, []⟩]⟩,
  ⟨0x8108, 0x20, 64, 0x0, 1, true, false, false, [⟨0, 64, .ro, .L, 0, []⟩]⟩,
  ⟨0x20000, 0x2000, 16, 0x4, 2048, false, false, false, [⟨0, 14, .rw, .L, 0, []⟩, ⟨14, 1, .rw, .L, 0, []⟩, ⟨16, 14, .rw, .L, 0, []⟩, ⟨30, 1, .rw, .L, 0, []⟩]⟩]

/-- The rows of block `DEF` (R302/R303). -/
def rowsDEF : List RegRow := [
  ⟨0x0, 0x0, 1, 0x0, 1, false, false, false, [⟨0, 1, .rw, .L, 0, []⟩]⟩,
  ⟨0x4, 0x0, 1, 0x0, 1, false, false, false, [⟨0, 1, .wo, .L, 0, []⟩]⟩,
  ⟨0x8, 0x0, 1, 0x0, 1, false, false, false, [⟨0, 1, .w1c, .L, 0, []⟩, ⟨1, 1, .w1c, .L, 0, []⟩]⟩,
  ⟨0x10, 0x0, 1, 0x0, 1, true, false, false, [⟨0, 64, .cnt, .L, 0, []⟩]⟩,
  ⟨0x18, 0x0, 1, 0x0, 1, false, false, false, [⟨0, 32, .ro, .L, 0, []⟩]⟩,
  ⟨0x100, 0x4, 256, 0x0, 1, false, false, false, [⟨0, 16, .rw, .F, 5069, []⟩, ⟨16, 16, .rw, .F, 2080, []⟩]⟩,
  ⟨0x1000, 0x4, 512, 0x0, 1, false, false, false, [⟨0, 32, .ro, .L, 0, []⟩]⟩,
  ⟨0x1800, 0x4, 512, 0x0, 1, false, false, false, [⟨0, 32, .ro, .L, 0, []⟩]⟩,
  ⟨0x2000, 0x4, 4, 0x0, 1, false, false, false, [⟨0, 32, .w1c, .L, 0, []⟩]⟩]

/-- The rows of block `MAP` (R335/R336). -/
def rowsMAP : List RegRow := [
  ⟨0x0, 0x0, 1, 0x0, 1, false, false, false, [⟨0, 1, .rw, .L, 0, []⟩]⟩,
  ⟨0x4, 0x0, 1, 0x0, 1, false, false, false, [⟨0, 1, .wo, .L, 0, []⟩]⟩,
  ⟨0x8, 0x0, 1, 0x0, 1, false, false, false, [⟨0, 1, .w1c, .L, 0, []⟩, ⟨1, 1, .w1c, .L, 0, []⟩, ⟨2, 1, .w1c, .L, 0, []⟩, ⟨3, 1, .w1c, .L, 0, []⟩, ⟨4, 1, .w1c, .L, 0, []⟩]⟩,
  ⟨0x10, 0x0, 1, 0x0, 1, true, false, false, [⟨0, 64, .cnt, .L, 0, []⟩]⟩,
  ⟨0x18, 0x0, 1, 0x0, 1, true, false, false, [⟨0, 64, .cnt, .L, 0, []⟩]⟩,
  ⟨0x20, 0x0, 1, 0x0, 1, false, false, false, [⟨0, 32, .ro, .L, 0, []⟩]⟩,
  ⟨0x24, 0x0, 1, 0x0, 1, false, false, false, [⟨0, 14, .rw, .H, 0, []⟩]⟩,
  ⟨0x28, 0x0, 1, 0x0, 1, false, false, false, [⟨0, 32, .rw, .H, 0, []⟩]⟩,
  ⟨0x2C, 0x0, 1, 0x0, 1, false, false, false, [⟨0, 16, .rw, .H, 0, []⟩]⟩,
  ⟨0x1000, 0x4, 1024, 0x0, 1, false, false, false, [⟨0, 1, .rw, .F, 0, []⟩, ⟨1, 4, .rw, .F, 0, []⟩, ⟨5, 6, .rw, .F, 0, []⟩, ⟨11, 2, .rw, .F, 0, []⟩, ⟨13, 1, .rw, .F, 0, []⟩]⟩,
  ⟨0x2000, 0x4, 1024, 0x0, 1, false, false, false, [⟨0, 2, .ro, .L, 0, []⟩, ⟨2, 10, .ro, .L, 0, []⟩, ⟨12, 1, .ro, .L, 0, []⟩, ⟨16, 1, .w1c, .L, 0, []⟩, ⟨17, 1, .w1c, .L, 0, []⟩, ⟨24, 8, .ro, .L, 0, []⟩]⟩,
  ⟨0x4000, 0x10, 4096, 0x0, 1, false, false, false, [⟨0, 20, .rw, .L, 0, []⟩, ⟨20, 1, .rw, .L, 0, []⟩]⟩,
  ⟨0x4004, 0x10, 4096, 0x0, 1, false, false, false, [⟨0, 14, .rw, .L, 0, []⟩]⟩,
  ⟨0x20000, 0x10, 4096, 0x0, 1, false, false, false, [⟨0, 32, .rw, .L, 0, []⟩]⟩,
  ⟨0x20004, 0x10, 4096, 0x0, 1, false, false, false, [⟨0, 16, .rw, .L, 0, []⟩, ⟨16, 12, .rw, .L, 0, []⟩, ⟨28, 3, .rw, .L, 0, []⟩, ⟨31, 1, .rw, .L, 0, []⟩]⟩,
  ⟨0x20008, 0x10, 4096, 0x0, 1, false, false, false, [⟨0, 20, .rw, .L, 0, []⟩, ⟨20, 1, .rw, .L, 0, []⟩]⟩,
  ⟨0x30000, 0x4, 32, 0x0, 1, false, false, false, [⟨0, 29, .ro, .L, 0, []⟩]⟩]

/-- The rows of block `QUE` (R360/R361). -/
def rowsQUE : List RegRow := [
  ⟨0x0, 0x0, 1, 0x0, 1, false, false, false, [⟨0, 1, .wo, .L, 0, []⟩]⟩,
  ⟨0x4, 0x0, 1, 0x0, 1, false, false, false, [⟨0, 15, .rw, .L, 0, []⟩]⟩,
  ⟨0x8, 0x0, 1, 0x0, 1, false, false, false, [⟨0, 1, .w1c, .L, 0, []⟩, ⟨1, 1, .w1c, .L, 0, []⟩, ⟨2, 1, .w1c, .L, 0, []⟩]⟩,
  ⟨0xC, 0x0, 1, 0x0, 1, false, false, false, [⟨0, 16, .ro, .L, 0, []⟩]⟩,
  ⟨0x10, 0x0, 1, 0x0, 1, false, false, false, [⟨6, 20, .rw, .H, 0, []⟩]⟩,
  ⟨0x14, 0x0, 1, 0x0, 1, false, false, false, [⟨0, 20, .rw, .H, 0, [(0, 983040)]⟩]⟩,
  ⟨0x18, 0x0, 1, 0x0, 1, true, false, false, [⟨6, 31, .rw, .H, 0, []⟩]⟩,
  ⟨0x20, 0x0, 1, 0x0, 1, false, false, false, [⟨0, 32, .rw, .H, 0, [(0, 2147483648)]⟩]⟩,
  ⟨0x28, 0x0, 1, 0x0, 1, true, false, false, [⟨6, 31, .rw, .H, 0, []⟩]⟩,
  ⟨0x30, 0x0, 1, 0x0, 1, false, false, false, [⟨0, 32, .rw, .H, 0, [(0, 2147483648)]⟩]⟩,
  ⟨0x40, 0x0, 1, 0x0, 1, false, false, false, [⟨0, 15, .ro, .L, 0, []⟩]⟩,
  ⟨0x44, 0x0, 1, 0x0, 1, false, false, false, [⟨0, 32, .ro, .L, 0, []⟩]⟩,
  ⟨0x48, 0x0, 1, 0x0, 1, false, false, false, [⟨0, 15, .ro, .L, 0, []⟩, ⟨31, 1, .ro, .L, 0, []⟩]⟩,
  ⟨0x100, 0x4, 128, 0x0, 1, false, false, false, [⟨0, 32, .ro, .L, 0, []⟩]⟩,
  ⟨0x400, 0x0, 1, 0x0, 1, false, false, true, [⟨0, 1, .rw, .L, 0, []⟩, ⟨1, 2, .rw, .H, 0, []⟩, ⟨3, 1, .rw, .H, 0, []⟩, ⟨4, 1, .rw, .H, 0, []⟩, ⟨5, 1, .rw, .H, 0, []⟩, ⟨6, 1, .rw, .L, 0, []⟩, ⟨7, 1, .rw, .H, 0, []⟩, ⟨8, 2, .rw, .H, 0, [(0, 2)]⟩, ⟨10, 14, .rw, .H, 0, []⟩, ⟨24, 2, .rw, .H, 0, [(0, 2)]⟩]⟩,
  ⟨0x404, 0x0, 1, 0x0, 1, false, false, true, [⟨0, 11, .rw, .H, 0, [(0, 1535)]⟩]⟩,
  ⟨0x408, 0x0, 1, 0x0, 1, false, false, true, [⟨0, 31, .rw, .H, 0, []⟩]⟩,
  ⟨0x40C, 0x0, 1, 0x0, 1, false, false, true, [⟨0, 20, .rw, .H, 0, []⟩]⟩,
  ⟨0x410, 0x0, 1, 0x0, 1, false, false, true, [⟨0, 24, .rw, .L, 16777215, []⟩]⟩,
  ⟨0x414, 0x0, 1, 0x0, 1, false, false, true, [⟨0, 24, .rw, .L, 0, []⟩]⟩,
  ⟨0x418, 0x0, 1, 0x0, 1, false, false, true, [⟨0, 1, .w1s, .L, 0, []⟩]⟩,
  ⟨0x420, 0x0, 1, 0x0, 1, true, false, true, [⟨0, 64, .rw, .F, 0, []⟩]⟩,
  ⟨0x428, 0x0, 1, 0x0, 1, false, false, true, [⟨0, 1, .ro, .L, 1, []⟩, ⟨1, 1, .ro, .L, 0, []⟩, ⟨2, 1, .ro, .L, 0, []⟩, ⟨3, 1, .ro, .L, 0, []⟩, ⟨4, 1, .ro, .L, 0, []⟩, ⟨5, 1, .ro, .L, 0, []⟩, ⟨6, 1, .ro, .L, 0, []⟩]⟩,
  ⟨0x42C, 0x0, 1, 0x0, 1, false, false, true, [⟨0, 24, .ro, .L, 0, []⟩]⟩,
  ⟨0x430, 0x0, 1, 0x0, 1, false, false, true, [⟨0, 1, .w1c, .L, 0, []⟩, ⟨1, 1, .w1c, .L, 0, []⟩, ⟨2, 1, .w1c, .L, 0, []⟩, ⟨3, 1, .w1c, .L, 0, []⟩, ⟨4, 1, .w1c, .L, 0, []⟩, ⟨8, 8, .ro, .L, 0, []⟩, ⟨16, 8, .ro, .L, 0, []⟩]⟩,
  ⟨0x434, 0x0, 1, 0x0, 1, false, false, true, [⟨0, 32, .cnt, .L, 0, []⟩]⟩,
  ⟨0x438, 0x0, 1, 0x0, 1, false, false, true, [⟨0, 32, .cnt, .L, 0, []⟩]⟩,
  ⟨0x43C, 0x0, 1, 0x0, 1, false, false, true, [⟨0, 32, .ro, .L, 0, []⟩]⟩,
  ⟨0x1000, 0x4, 1024, 0x0, 1, false, false, false, [⟨0, 32, .w1c, .L, 0, []⟩]⟩,
  ⟨0x2000, 0x4, 1024, 0x0, 1, false, false, false, [⟨0, 32, .w1c, .L, 0, []⟩]⟩]

/-- The rows of block `CKU` (R381/R382). -/
def rowsCKU : List RegRow := [
  ⟨0x0, 0x0, 1, 0x0, 1, false, false, false, [⟨0, 9, .ro, .L, 0, []⟩]⟩,
  ⟨0x1000, 0x100, 256, 0x0, 1, false, false, false, [⟨0, 1, .rw, .L, 0, []⟩, ⟨1, 3, .rw, .H, 0, [(0, 4)]⟩, ⟨4, 6, .rw, .H, 31, []⟩, ⟨10, 1, .rw, .H, 1, []⟩, ⟨11, 1, .rw, .H, 1, []⟩, ⟨12, 3, .rw, .H, 0, []⟩, ⟨15, 1, .rw, .H, 0, []⟩, ⟨16, 1, .rw, .H, 0, []⟩, ⟨17, 1, .rw, .H, 0, []⟩, ⟨18, 1, .rw, .H, 0, []⟩, ⟨19, 1, .rw, .H, 0, []⟩, ⟨20, 1, .rw, .L, 0, []⟩, ⟨21, 1, .rw, .H, 0, []⟩]⟩,
  ⟨0x1004, 0x100, 256, 0x0, 1, false, false, false, [⟨0, 15, .rw, .H, 0, []⟩]⟩,
  ⟨0x1008, 0x100, 256, 0x0, 1, false, false, false, [⟨0, 5, .rw, .H, 0, []⟩, ⟨8, 5, .rw, .H, 0, []⟩, ⟨16, 8, .rw, .H, 0, []⟩]⟩,
  ⟨0x100C, 0x100, 256, 0x0, 1, false, false, false, [⟨0, 1, .ro, .L, 0, []⟩, ⟨1, 2, .ro, .L, 0, []⟩, ⟨3, 1, .ro, .L, 0, []⟩, ⟨4, 4, .ro, .L, 0, []⟩]⟩,
  ⟨0x1010, 0x100, 256, 0x0, 1, true, false, false, [⟨0, 64, .rw, .H, 79764919, []⟩]⟩,
  ⟨0x1018, 0x100, 256, 0x0, 1, true, false, false, [⟨0, 64, .rw, .H, 4294967295, []⟩]⟩,
  ⟨0x1020, 0x100, 256, 0x0, 1, true, false, false, [⟨0, 64, .rw, .H, 4294967295, []⟩]⟩,
  ⟨0x1028, 0x100, 256, 0x0, 1, true, false, false, [⟨0, 64, .rw, .H, 0, []⟩]⟩,
  ⟨0x1030, 0x100, 256, 0x0, 1, true, false, false, [⟨0, 64, .rw, .H, 0, []⟩]⟩,
  ⟨0x1038, 0x100, 256, 0x0, 1, true, false, false, [⟨0, 64, .rw, .L, 0, []⟩]⟩,
  ⟨0x1040, 0x100, 256, 0x0, 1, true, false, false, [⟨0, 64, .ro, .L, 0, []⟩]⟩,
  ⟨0x1048, 0x100, 256, 0x0, 1, true, false, false, [⟨0, 64, .rw, .L, 0, []⟩]⟩,
  ⟨0x1050, 0x100, 256, 0x0, 1, false, false, false, [⟨0, 1, .w1s, .L, 0, []⟩]⟩,
  ⟨0x1054, 0x100, 256, 0x0, 1, false, false, false, [⟨0, 1, .w1c, .L, 0, []⟩, ⟨1, 1, .w1c, .L, 0, []⟩, ⟨2, 1, .w1c, .L, 0, []⟩, ⟨3, 1, .w1c, .L, 0, []⟩, ⟨4, 1, .w1c, .L, 0, []⟩, ⟨5, 1, .w1c, .L, 0, []⟩]⟩,
  ⟨0x1058, 0x100, 256, 0x0, 1, false, false, false, [⟨0, 32, .cnt, .L, 0, []⟩]⟩,
  ⟨0x105C, 0x100, 256, 0x0, 1, false, false, false, [⟨0, 32, .cnt, .L, 0, []⟩]⟩,
  ⟨0x20000, 0x100, 256, 0x10, 16, true, false, false, [⟨0, 64, .ro, .L, 0, []⟩]⟩,
  ⟨0x20008, 0x100, 256, 0x10, 16, false, false, false, [⟨0, 32, .ro, .L, 0, []⟩]⟩,
  ⟨0x2000C, 0x100, 256, 0x10, 16, false, false, false, [⟨0, 1, .ro, .L, 0, []⟩, ⟨1, 1, .ro, .L, 0, []⟩, ⟨2, 1, .ro, .L, 0, []⟩]⟩]

/-- The rows of block `VOX` (R400-R402). -/
def rowsVOX : List RegRow := [
  ⟨0x0, 0x0, 1, 0x0, 1, false, false, false, [⟨0, 1, .wo, .L, 0, []⟩]⟩,
  ⟨0x4, 0x0, 1, 0x0, 1, false, false, false, [⟨0, 1, .w1c, .L, 0, []⟩, ⟨1, 1, .w1c, .L, 0, []⟩]⟩,
  ⟨0x1000, 0x40, 16, 0x0, 1, false, false, false, [⟨0, 1, .rw, .L, 0, []⟩, ⟨1, 1, .rw, .H, 0, []⟩, ⟨2, 1, .rw, .H, 0, []⟩, ⟨3, 1, .rw, .H, 0, []⟩, ⟨4, 5, .rw, .H, 0, []⟩, ⟨9, 2, .rw, .H, 0, []⟩, ⟨11, 2, .rw, .H, 0, [(0, 2)]⟩, ⟨13, 1, .rw, .H, 0, []⟩, ⟨14, 1, .rw, .H, 0, []⟩, ⟨15, 1, .rw, .H, 0, []⟩, ⟨16, 6, .rw, .H, 0, []⟩, ⟨22, 1, .rw, .L, 1, []⟩, ⟨23, 1, .rw, .L, 0, []⟩, ⟨24, 6, .rw, .L, 7, []⟩]⟩,
  ⟨0x1004, 0x40, 16, 0x0, 1, false, false, false, [⟨0, 32, .rw, .F, 4294967295, []⟩]⟩,
  ⟨0x1008, 0x40, 16, 0x0, 1, false, false, false, [⟨0, 16, .rw, .H, 8000, []⟩, ⟨16, 8, .rw, .L, 10, [(1, 255)]⟩]⟩,
  ⟨0x100C, 0x40, 16, 0x0, 1, false, false, false, [⟨0, 24, .rw, .H, 250000, []⟩]⟩,
  ⟨0x1010, 0x40, 16, 0x0, 1, false, false, false, [⟨0, 14, .rw, .H, 0, []⟩, ⟨16, 14, .rw, .H, 0, []⟩]⟩,
  ⟨0x1014, 0x40, 16, 0x0, 1, false, false, false, [⟨0, 1, .w1s, .L, 0, []⟩, ⟨1, 1, .w1s, .L, 0, []⟩]⟩,
  ⟨0x1018, 0x40, 16, 0x0, 1, false, false, false, [⟨0, 2, .ro, .L, 0, []⟩, ⟨2, 1, .ro, .L, 0, []⟩, ⟨3, 1, .ro, .L, 0, []⟩, ⟨4, 1, .ro, .L, 0, []⟩, ⟨5, 1, .ro, .L, 0, []⟩, ⟨6, 1, .ro, .L, 0, []⟩, ⟨8, 8, .ro, .L, 0, []⟩]⟩,
  ⟨0x101C, 0x40, 16, 0x0, 1, false, false, false, [⟨0, 1, .w1c, .L, 0, []⟩, ⟨1, 1, .w1c, .L, 0, []⟩, ⟨2, 1, .w1c, .L, 0, []⟩, ⟨3, 1, .w1c, .L, 0, []⟩, ⟨4, 1, .w1c, .L, 0, []⟩, ⟨5, 1, .w1c, .L, 0, []⟩, ⟨6, 1, .w1c, .L, 0, []⟩, ⟨7, 1, .w1c, .L, 0, []⟩, ⟨8, 1, .w1c, .L, 0, []⟩]⟩,
  ⟨0x1020, 0x40, 16, 0x0, 1, false, false, false, [⟨0, 20, .ro, .L, 0, []⟩]⟩,
  ⟨0x1024, 0x40, 16, 0x0, 1, false, false, false, [⟨0, 8, .rw, .H, 8, [(2, 255)]⟩, ⟨8, 8, .rw, .H, 4, []⟩]⟩,
  ⟨0x1028, 0x40, 16, 0x0, 1, true, false, false, [⟨0, 32, .cnt, .L, 0, []⟩, ⟨32, 32, .cnt, .L, 0, []⟩]⟩,
  ⟨0x1030, 0x40, 16, 0x0, 1, true, false, false, [⟨0, 32, .cnt, .L, 0, []⟩, ⟨32, 32, .cnt, .L, 0, []⟩]⟩,
  ⟨0x1038, 0x40, 16, 0x0, 1, false, false, false, [⟨0, 32, .cnt, .L, 0, []⟩]⟩,
  ⟨0x3000, 0x10, 64, 0x0, 1, false, false, false, [⟨0, 1, .rw, .L, 0, []⟩, ⟨1, 1, .rw, .H, 0, []⟩]⟩,
  ⟨0x3004, 0x10, 64, 0x0, 1, false, false, false, [⟨0, 14, .rw, .H, 0, []⟩, ⟨16, 14, .rw, .H, 0, []⟩]⟩,
  ⟨0x4000, 0x4, 2048, 0x0, 1, false, false, false, [⟨0, 1, .rw, .F, 0, []⟩, ⟨1, 1, .rw, .F, 0, []⟩, ⟨2, 1, .rw, .F, 0, []⟩, ⟨4, 4, .rw, .F, 0, []⟩, ⟨8, 5, .rw, .F, 0, []⟩]⟩]

/-- The rows of block `PRT` (R436-R438). -/
def rowsPRT : List RegRow := [
  ⟨0x0, 0x0, 1, 0x0, 1, false, false, false, [⟨0, 1, .wo, .L, 0, []⟩]⟩,
  ⟨0x8, 0x0, 1, 0x0, 1, false, false, false, [⟨6, 20, .rw, .H, 0, []⟩]⟩,
  ⟨0xC, 0x0, 1, 0x0, 1, false, false, false, [⟨0, 20, .rw, .H, 0, []⟩]⟩,
  ⟨0x100, 0x0, 1, 0x0, 1, false, false, false, [⟨0, 4, .rw, .H, 4, [(2, 15)]⟩, ⟨4, 3, .rw, .H, 2, [(1, 4)]⟩, ⟨7, 1, .rw, .H, 0, []⟩, ⟨8, 1, .rw, .H, 1, []⟩, ⟨9, 1, .rw, .H, 0, []⟩, ⟨16, 8, .rw, .H, 80, [(1, 255)]⟩, ⟨24, 7, .rw, .H, 72, [(3, 127)]⟩]⟩,
  ⟨0x104, 0x0, 1, 0x0, 1, false, false, false, [⟨0, 16, .rw, .H, 8000, [(1, 65535)]⟩]⟩,
  ⟨0x108, 0x0, 1, 0x0, 1, false, false, false, [⟨0, 3, .ro, .L, 0, []⟩, ⟨3, 1, .ro, .L, 0, []⟩, ⟨4, 1, .ro, .L, 0, []⟩, ⟨5, 1, .ro, .L, 0, []⟩, ⟨6, 1, .ro, .L, 0, []⟩, ⟨7, 1, .ro, .L, 0, []⟩, ⟨8, 1, .ro, .L, 0, []⟩, ⟨16, 16, .ro, .L, 0, []⟩]⟩,
  ⟨0x10C, 0x0, 1, 0x0, 1, false, false, false, [⟨0, 1, .w1c, .L, 0, []⟩, ⟨1, 1, .w1c, .L, 0, []⟩, ⟨2, 1, .w1c, .L, 0, []⟩, ⟨3, 1, .w1c, .L, 0, []⟩, ⟨4, 1, .w1c, .L, 0, []⟩, ⟨5, 1, .w1c, .L, 0, []⟩, ⟨6, 1, .w1c, .L, 0, []⟩, ⟨7, 1, .w1c, .L, 0, []⟩, ⟨8, 1, .w1c, .L, 0, []⟩, ⟨9, 1, .w1c, .L, 0, []⟩, ⟨10, 1, .w1c, .L, 0, []⟩, ⟨11, 1, .w1c, .L, 0, []⟩, ⟨12, 1, .w1c, .L, 0, []⟩]⟩,
  ⟨0x110, 0x0, 1, 0x0, 1, true, false, false, [⟨6, 31, .rw, .H, 0, []⟩]⟩,
  ⟨0x118, 0x0, 1, 0x0, 1, true, false, false, [⟨6, 31, .rw, .H, 0, []⟩]⟩,
  ⟨0x120, 0x0, 1, 0x0, 1, false, false, false, [⟨0, 32, .rw, .H, 0, []⟩]⟩,
  ⟨0x128, 0x0, 1, 0x0, 1, true, false, false, [⟨0, 64, .ro, .L, 0, []⟩]⟩,
  ⟨0x130, 0x0, 1, 0x0, 1, false, false, false, [⟨0, 8, .ro, .L, 0, []⟩]⟩,
  ⟨0x134, 0x0, 1, 0x0, 1, false, false, false, [⟨0, 32, .ro, .L, 0, []⟩]⟩,
  ⟨0x138, 0x0, 1, 0x0, 1, true, false, false, [⟨0, 64, .cnt, .L, 0, []⟩]⟩,
  ⟨0x140, 0x0, 1, 0x0, 1, false, false, false, [⟨0, 32, .ro, .L, 0, []⟩]⟩,
  ⟨0x200, 0x4, 8, 0x0, 1, false, false, false, [⟨0, 32, .w1c, .L, 0, []⟩]⟩,
  ⟨0x400, 0x4, 128, 0x0, 1, false, false, false, [⟨0, 32, .w1c, .L, 0, []⟩]⟩,
  ⟨0x10000, 0x20, 4096, 0x0, 1, false, false, false, [⟨0, 1, .rw, .L, 0, []⟩, ⟨1, 1, .rw, .H, 0, []⟩, ⟨2, 1, .rw, .F, 0, []⟩, ⟨3, 1, .rw, .F, 0, []⟩, ⟨8, 8, .rw, .F, 0, []⟩, ⟨16, 16, .rw, .F, 300, []⟩]⟩,
  ⟨0x10004, 0x20, 4096, 0x0, 1, false, false, false, [⟨0, 14, .rw, .H, 0, []⟩, ⟨16, 14, .rw, .H, 0, []⟩]⟩,
  ⟨0x10008, 0x20, 4096, 0x0, 1, false, false, false, [⟨0, 14, .rw, .H, 0, []⟩, ⟨16, 12, .rw, .H, 0, []⟩]⟩,
  ⟨0x1000C, 0x20, 4096, 0x0, 1, false, false, false, [⟨0, 20, .rw, .H, 0, []⟩]⟩,
  ⟨0x10010, 0x20, 4096, 0x0, 1, false, false, false, [⟨0, 4, .rw, .H, 0, []⟩, ⟨4, 6, .rw, .H, 0, []⟩, ⟨10, 4, .rw, .H, 0, []⟩, ⟨14, 6, .rw, .H, 0, []⟩, ⟨20, 10, .rw, .H, 0, []⟩]⟩,
  ⟨0x10014, 0x20, 4096, 0x0, 1, false, false, false, [⟨0, 3, .rw, .F, 0, [(0, 4)]⟩]⟩,
  ⟨0x10018, 0x20, 4096, 0x0, 1, false, false, false, [⟨0, 1, .ro, .L, 0, []⟩, ⟨1, 4, .ro, .L, 0, []⟩, ⟨5, 1, .ro, .L, 0, []⟩, ⟨6, 1, .ro, .L, 0, []⟩, ⟨7, 1, .ro, .L, 0, []⟩, ⟨8, 1, .ro, .L, 0, []⟩, ⟨9, 1, .ro, .L, 0, []⟩, ⟨16, 1, .w1c, .L, 0, []⟩, ⟨17, 1, .w1c, .L, 0, []⟩]⟩,
  ⟨0x1001C, 0x20, 4096, 0x0, 1, false, false, false, [⟨0, 32, .cnt, .L, 0, []⟩]⟩]

/-- The rows of block `HAL` (R464-R466). -/
def rowsHAL : List RegRow := [
  ⟨0x0, 0x0, 1, 0x0, 1, false, false, false, [⟨0, 2, .rw, .H, 0, []⟩, ⟨2, 1, .rw, .H, 1, []⟩, ⟨3, 1, .rw, .H, 1, []⟩, ⟨16, 16, .rw, .H, 34998, []⟩]⟩,
  ⟨0x4, 0x0, 1, 0x0, 1, false, false, false, [⟨0, 1, .wo, .L, 0, []⟩]⟩,
  ⟨0x8, 0x0, 1, 0x0, 1, false, false, false, [⟨0, 1, .w1s, .L, 0, []⟩, ⟨1, 1, .rw, .L, 0, []⟩]⟩,
  ⟨0xC, 0x0, 1, 0x0, 1, false, false, false, [⟨0, 2, .ro, .L, 0, []⟩, ⟨2, 14, .ro, .L, 0, []⟩, ⟨16, 16, .ro, .L, 0, []⟩]⟩,
  ⟨0x10, 0x0, 1, 0x0, 1, false, false, false, [⟨0, 1, .w1c, .L, 0, []⟩, ⟨1, 1, .w1c, .L, 0, []⟩, ⟨2, 1, .w1c, .L, 0, []⟩]⟩,
  ⟨0x18, 0x0, 1, 0x0, 1, true, false, false, [⟨0, 64, .ro, .L, 0, []⟩]⟩,
  ⟨0x20, 0x0, 1, 0x0, 1, true, false, false, [⟨0, 64, .ro, .L, 0, []⟩]⟩,
  ⟨0x28, 0x0, 1, 0x0, 1, true, false, false, [⟨0, 64, .rw, .H, 0, []⟩]⟩,
  ⟨0x30, 0x0, 1, 0x0, 1, false, false, false, [⟨0, 16, .rw, .F, 1024, []⟩]⟩,
  ⟨0x34, 0x0, 1, 0x0, 1, false, false, false, [⟨0, 16, .ro, .L, 0, []⟩, ⟨16, 16, .ro, .L, 0, []⟩]⟩,
  ⟨0x38, 0x0, 1, 0x0, 1, false, false, false, [⟨0, 14, .rw, .H, 0, []⟩, ⟨16, 14, .rw, .H, 0, []⟩]⟩,
  ⟨0x40, 0x0, 1, 0x0, 1, false, false, false, [⟨0, 26, .rw, .H, 0, []⟩, ⟨26, 6, .rw, .H, 0, []⟩]⟩,
  ⟨0x80, 0x4, 32, 0x0, 1, false, false, false, [⟨0, 32, .rw, .L, 0, []⟩]⟩,
  ⟨0x100, 0x40, 2, 0x0, 1, false, false, false, [⟨0, 1, .rw, .L, 0, []⟩, ⟨1, 1, .rw, .H, 0, []⟩, ⟨2, 1, .rw, .H, 0, []⟩, ⟨16, 12, .rw, .H, 0, []⟩]⟩,
  ⟨0x108, 0x40, 2, 0x0, 1, true, false, false, [⟨0, 48, .rw, .H, 0, []⟩]⟩,
  ⟨0x110, 0x40, 2, 0x0, 1, false, false, false, [⟨0, 1, .ro, .L, 0, []⟩, ⟨1, 1, .ro, .L, 0, []⟩]⟩,
  ⟨0x114, 0x40, 2, 0x0, 1, false, false, false, [⟨0, 1, .w1c, .L, 0, []⟩, ⟨1, 1, .w1c, .L, 0, []⟩]⟩,
  ⟨0x118, 0x40, 2, 0x0, 1, true, false, false, [⟨0, 64, .cnt, .L, 0, []⟩]⟩,
  ⟨0x400, 0x10, 4, 0x0, 1, false, false, false, [⟨0, 8, .rw, .F, 16, []⟩, ⟨8, 16, .rw, .F, 8000, [(1, 65535)]⟩, ⟨24, 8, .rw, .F, 4, []⟩]⟩,
  ⟨0x404, 0x10, 4, 0x0, 1, false, false, false, [⟨0, 24, .rw, .F, 8000, []⟩]⟩,
  ⟨0x500, 0x10, 4, 0x4, 4, false, false, false, [⟨0, 32, .cnt, .L, 0, []⟩]⟩,
  ⟨0x600, 0x10, 16, 0x0, 1, false, false, false, [⟨0, 2, .ro, .L, 0, []⟩, ⟨2, 2, .ro, .L, 0, []⟩, ⟨4, 8, .ro, .L, 0, []⟩, ⟨12, 8, .ro, .L, 0, []⟩, ⟨20, 1, .ro, .L, 0, []⟩]⟩,
  ⟨0x604, 0x10, 16, 0x0, 1, false, false, false, [⟨0, 32, .ro, .L, 0, []⟩]⟩,
  ⟨0x608, 0x10, 16, 0x0, 1, true, false, false, [⟨0, 64, .ro, .L, 0, []⟩]⟩,
  ⟨0x800, 0x0, 1, 0x0, 1, false, false, false, [⟨0, 1, .w1c, .L, 0, []⟩, ⟨1, 1, .w1c, .L, 0, []⟩, ⟨8, 8, .ro, .L, 0, []⟩]⟩,
  ⟨0x808, 0x0, 1, 0x0, 1, true, false, false, [⟨0, 64, .w1c, .L, 0, []⟩]⟩,
  ⟨0x810, 0x4, 4, 0x0, 1, false, false, false, [⟨0, 32, .w1c, .L, 0, []⟩]⟩,
  ⟨0x1000, 0x10, 128, 0x0, 1, false, false, false, [⟨0, 2, .ro, .L, 0, []⟩, ⟨2, 1, .ro, .L, 0, []⟩, ⟨16, 16, .ro, .L, 0, []⟩]⟩,
  ⟨0x1008, 0x10, 128, 0x0, 1, true, false, false, [⟨0, 64, .ro, .L, 0, []⟩]⟩]

/-- The rows of block `REC` (R494/R495). -/
def rowsREC : List RegRow := [
  ⟨0x0, 0x0, 1, 0x0, 1, false, false, false, [⟨0, 1, .rw, .H, 0, []⟩, ⟨1, 1, .rw, .H, 1, []⟩, ⟨2, 8, .rw, .H, 0, []⟩, ⟨10, 8, .rw, .H, 100, [(1, 255)]⟩]⟩,
  ⟨0x4, 0x0, 1, 0x0, 1, false, false, false, [⟨0, 32, .rw, .H, 1, []⟩]⟩,
  ⟨0x8, 0x0, 1, 0x0, 1, false, false, false, [⟨0, 3, .ro, .L, 0, []⟩, ⟨3, 1, .ro, .L, 0, []⟩]⟩,
  ⟨0xC, 0x0, 1, 0x0, 1, false, false, false, [⟨0, 1, .w1c, .L, 0, []⟩, ⟨1, 1, .w1c, .L, 0, []⟩, ⟨2, 1, .w1c, .L, 0, []⟩, ⟨3, 1, .w1c, .L, 0, []⟩, ⟨4, 1, .w1c, .L, 0, []⟩, ⟨5, 1, .w1c, .L, 0, []⟩]⟩,
  ⟨0x10, 0x0, 1, 0x0, 1, true, false, false, [⟨0, 64, .rw, .H, 0, []⟩]⟩,
  ⟨0x18, 0x0, 1, 0x0, 1, true, false, false, [⟨0, 64, .rw, .H, 0, []⟩]⟩,
  ⟨0x20, 0x0, 1, 0x0, 1, true, false, false, [⟨0, 64, .ro, .L, 0, []⟩]⟩,
  ⟨0x28, 0x0, 1, 0x0, 1, true, false, false, [⟨0, 64, .ro, .L, 0, []⟩]⟩,
  ⟨0x30, 0x0, 1, 0x0, 1, true, false, false, [⟨0, 64, .ro, .L, 0, []⟩]⟩,
  ⟨0x38, 0x0, 1, 0x0, 1, true, false, false, [⟨0, 64, .rw, .L, 0, []⟩]⟩,
  ⟨0x40, 0x0, 1, 0x0, 1, true, false, false, [⟨0, 64, .rw, .H, 0, []⟩]⟩,
  ⟨0x48, 0x0, 1, 0x0, 1, true, false, false, [⟨0, 64, .ro, .L, 0, []⟩]⟩,
  ⟨0x50, 0x0, 1, 0x0, 1, false, false, false, [⟨6, 20, .rw, .H, 0, []⟩]⟩,
  ⟨0x54, 0x0, 1, 0x0, 1, false, false, false, [⟨0, 20, .rw, .H, 0, []⟩]⟩,
  ⟨0x58, 0x0, 1, 0x0, 1, false, false, false, [⟨0, 20, .rw, .H, 0, []⟩]⟩,
  ⟨0x5C, 0x0, 1, 0x0, 1, false, false, false, [⟨0, 16, .rw, .L, 800, [(1, 65535)]⟩]⟩,
  ⟨0x60, 0x0, 1, 0x0, 1, false, false, false, [⟨0, 24, .rw, .L, 65536, []⟩]⟩,
  ⟨0x68, 0x0, 1, 0x0, 1, true, false, false, [⟨0, 64, .cnt, .L, 0, []⟩]⟩,
  ⟨0x1000, 0x10, 512, 0x0, 1, false, false, false, [⟨0, 1, .rw, .L, 0, []⟩, ⟨1, 1, .rw, .H, 0, []⟩, ⟨2, 1, .rw, .H, 0, []⟩, ⟨3, 8, .rw, .H, 0, []⟩, ⟨11, 15, .rw, .H, 0, []⟩]⟩,
  ⟨0x1004, 0x10, 512, 0x0, 1, false, false, false, [⟨0, 14, .rw, .H, 0, []⟩]⟩,
  ⟨0x1008, 0x10, 512, 0x0, 1, false, false, false, [⟨0, 32, .cnt, .L, 0, []⟩]⟩]

/-- The rows of the block of index `i` (R129). -/
def blockRows (i : Nat) : List RegRow :=
  match i with
  | 0 => rowsSUP
  | 1 => rowsCLK
  | 2 => rowsPWR
  | 3 => rowsBUS
  | 4 => rowsEVT
  | 5 => rowsTAL
  | 6 => rowsCAL
  | 7 => rowsTILE
  | 8 => rowsTILE
  | 9 => rowsTILE
  | 10 => rowsTILE
  | 11 => rowsTILE
  | 12 => rowsTILE
  | 13 => rowsTILE
  | 14 => rowsTILE
  | 15 => rowsLIN
  | 16 => rowsDEF
  | 17 => rowsMAP
  | 18 => rowsQUE
  | 19 => rowsCKU
  | 20 => rowsVOX
  | 21 => rowsPRT
  | 22 => rowsHAL
  | 23 => rowsREC
  | _ => []

end Sys2Proof.Machine
end

