-- ==== Sys2Proof/Config.lean ====
section
/-! DEFINITION. What an implementation fixes and the spec leaves open: opaque free values, with no body, so that nothing can
be proved of any particular value; and the factory facts a device carries. -/

namespace Sys2Proof

/-- A value the spec leaves undefined or unstated, drawn afresh at each use: applied to `State.free`, which then advances.
Nothing constrains it. -/
opaque Config.freeWord : Nat → Word

/-- The key hash in slot 0 of the fuse row, from the factory (R504). -/
opaque Config.factoryKeyHash : List Byte

/-- The fractional part of the tick ratio that the DPLL's filter chooses, in 2^-32 XIN cycles from nominal (R58): the spec
gives the filter's bandwidth and bounds, not its output. -/
opaque Config.dpllStep : Nat → Nat

/-- The transmitters, numbered as their stamping sources (R16), that take the stream of a SID from the release stage. DESIGN
CHOICE, log 30: the spec routes a released stream to its transmitter and names no register for the routing. -/
opaque Config.transmitters : Nat → List Nat

end Sys2Proof
end

