-- ==== Sys2Proof/Machine/State.lean ====
section
/-! DEFINITION. The state of the device, as plain data: the register file, the memories, and the state that the spec gives
its blocks beside their registers; the queue of waiting commands; the reasons a step can stop; and the state after reset. -/

namespace Sys2Proof.Machine

/-- A block frozen under the HOLD policy (R143): its index and its control outputs, stored and in-force words. -/
structure HeldBlock where
  blk : Nat
  vals : List (Nat × Reg)
  live : List (Nat × Reg)
deriving DecidableEq, Repr

/-- The register file: stored words (of F fields, the shadow), in-force copies of registers with F fields, the copies whose
parity no longer matches, the registers with a set reported bit (R142), the frozen blocks, the blocks with an armed commit
(R140). A word not listed holds its reset value. -/
structure Regs where
  vals : List (Nat × Reg) := []
  live : List (Nat × Reg) := []
  bad : List (Nat × Bool) := []
  reported : List Nat := []
  held : List HeldBlock := []
  armed : List Nat := []
deriving DecidableEq, Repr

/-- The tick generator and the clocks (chapter 2), beside the `CLK` registers. -/
structure Clk where
  /-- The tick count of the FTC (R52). -/
  tick : Nat := 0
  /-- XIN cycles since the tick boundary (R53). -/
  xin : Nat := 0
  /-- Fraction of an XIN cycle carried into this tick, in 2^-32 (R58). -/
  frac : Nat := 0
  /-- Ratios of the latest ticks, newest first, at most 320 (R60). -/
  hist : List Nat := []
  /-- Offset retained under BUILDOUT, and whether the next measured phase error becomes that offset (R65). -/
  offset : Int := 0
  takeOffset : Bool := false
  /-- Consecutive ticks in ACQUIRE with the phase error within ±8 units (R59). -/
  lockTicks : Nat := 0
  /-- Ticks each slot's reference has been present without a loss condition, and whether it is qualified (R62). -/
  priTicks : Nat := 0
  altTicks : Nat := 0
  priQual : Bool := false
  altQual : Bool := false
  /-- The tick in which the active reference was declared lost, while the loss has not acted yet (R61). -/
  lossAt : Option Nat := none
  /-- Ticks a requalified primary has held while the alternate is active (R63). -/
  wtrTicks : Nat := 0
  /-- XIN qualification (R70 to R73): windows since the attempt began, in-band counts (newest first, at most 8), consecutive
  out-of-band counts, the last qualified count, monitor trips since power-up, whether the oscillator driver and ITO run. -/
  windows : Nat := 0
  counts : List Nat := []
  badCounts : Nat := 0
  lastGood : Nat := 0
  trips : Nat := 0
  oscOn : Bool := true
  /-- Ticks each PLL has held lock: core, fabric, DDR, quads 0 to 3 (R76). -/
  pllHeld : List Nat := [0, 0, 0, 0, 0, 0, 0]
  /-- Clock domains switched to their floor by a coasting PLL (R76). -/
  coasted : List Nat := []
  /-- Switches waiting at their multiplexer: domain and new source (R78); domains force-switched, until they resume (R79). -/
  switching : List (Nat × Nat) := []
  forced : List Nat := []
  /-- Ticks since a slot's LINE reference made a valid report, and the latest work tick it reported (R61, R253). -/
  priMiss : Nat := 0
  altMiss : Nat := 0
  priReport : Option Nat := none
  altReport : Option Nat := none
  /-- Meters with a measurement running (R84). -/
  metering : List Nat := []
  /-- The `XIN_SEL` straps as sampled (R68, R518). -/
  xinSel : Nat := 0
deriving DecidableEq, Repr

/-- A per-hoist or per-source event gathered over a tick (R41, R353, R411): source, code, class, data, subject, and the
occurrences it stands for. -/
structure TickEvent where
  src : Nat
  code : Nat
  cls : Option Nat
  data : Nat
  subject : Nat
  count : Nat
deriving DecidableEq, Repr

/-- The event unit (chapter 16), beside the `EVT` registers: records written since `ENABLE`, records dropped since the last
overflow record by class (S, V, T, B) and whether an overflow record waits (R472); the events gathered in the tick. -/
structure Evt where
  seq : Nat := 0
  dropped : List Nat := [0, 0, 0, 0]
  overflow : Bool := false
  /-- Records to forward in EVENT frames (R455), oldest first. -/
  forward : List (List Nat) := []
  gathered : List TickEvent := []
deriving DecidableEq, Repr

/-- What a release holds (R33, R34, R172): the words of the output with the valid bits of the last one, or substitute content
by its kind (0 all-ones, 1 the substitute word, 2 silence) and substitute word. -/
inductive Content where
  | words (ws : List TWord) (lastBits : Nat)
  | subst (kind : Nat) (word : Word)
deriving DecidableEq, Repr

/-- An NVMe command of the recorder (R477): the initialisation commands as one, a Write of whole blocks (with the highest `SEQ`
that it completes), a Flush, a Read into central SRAM. -/
inductive NvmeCmd where
  | init (nsid : Nat)
  | write (lba : Nat) (bs : List Byte) (fua : Bool) (last : Option Nat)
  | flush
  | read (lba blocks addr : Nat)
deriving DecidableEq, Repr

/-- What leaves the device, in order: messages, frames, released words and drive commands. -/
inductive Out where
  /-- An MSI-X message of a vector, with the address and data of its table entry (R473). -/
  | msix (vector : Nat) (addr : Nat) (data : Nat)
  /-- An output released on a stream (R33): the channel, the output tick, the content, the defect flag. -/
  | release (sid chan tick : Nat) (c : Content) (defect : Bool)
  /-- Words handed to a transmitter (R35), numbered as its stamping source. -/
  | tx (port : Nat) (ws : List TWord)
  /-- A transmitter's elastic store ran empty: all-ones, or idle (R263); the excess over its store was discarded. -/
  | txFill (port : Nat)
  | txExcess (port : Nat)
  /-- A frame that the discovery agent sends through the MAC of a lane (R274), without its FCS. -/
  | frame (lane : Nat) (bs : List Byte)
  /-- A halyard frame (R440), the acknowledgement of a reliable frame (R442, log 34), and a packet of `HAL_TX_SID` (R455). -/
  | hal (f : HalFrame)
  | halAck (port : Nat) (ty seq : Nat) (to_ : Nat)
  | halUser (port : Nat) (ws : List TWord)
  /-- A bundle frame, scrambled (R265). -/
  | bundle (b : Nat) (bs : List Byte)
  /-- A command to the recorder's drive (R477). -/
  | nvme (c : NvmeCmd)
  /-- A frame that a voice port plays, slot by slot (R384, R393). -/
  | voice (n : Nat) (samples : List (BitVec 32))
  /-- What a pair unit sends over `H0` (R414), with the frame's sequence number (R442): its heartbeat, ledger, journal entries
  and their acknowledgement, digests, the snapshot of T0 (its parts are not spelled out: log 35), the acknowledgement of a
  snapshot, a yield naming T, an accept, a negative answering pennant (reason, type and number answered). -/
  | heartbeat (n : Nat) (h : Heartbeat)
  | ledger (n : Nat) (l : LedgerMsg)
  | journal (seq : Nat) (e : JEntry)
  | journalAck (n seq : Nat)
  | digests (n : Nat) (es : List DigestEntry)
  | snapshot (t0 : Nat)
  | snapshotAck (n : Nat)
  | yield (n t : Nat)
  | accept (n : Nat)
  | pairNeg (n reason ty seq : Nat)
deriving DecidableEq, Repr

/-- The pins the device drives as levels: `INT_A`, `INT_B` (R474), `CLKFAIL` (R71), `PAIR_YIELD_OUT` (R423). -/
structure Pins where
  intA : Bool := false
  intB : Bool := false
  clkfail : Bool := false
  /-- `PAIR_YIELD_OUT` is released (R415, R423). -/
  yieldOut : Bool := false
deriving DecidableEq, Repr

/-- One spell of Pennant Mode (R114, R117): the boundary E of its entry, the super-tick boundary of the placement move, and
the boundary X of its exit. -/
structure Spell where
  entry : Nat
  moved : Option Nat := none
  exit : Option Nat := none
deriving DecidableEq, Repr

/-- Power (chapter 3), beside the `PWR` registers. -/
structure Pwr where
  /-- Feeds opened for overcurrent that wait for `RETRY_x` (R96). -/
  ocA : Bool := false
  ocB : Bool := false
  /-- The tick of a restore whose cap return is still to be computed (R99). -/
  restoredAt : Option Nat := none
  /-- T and B threads do not issue for the rest of this tick (R97). -/
  tbStop : Bool := false
  /-- The credit computed in this tick, for the next one, and the base power and slots it was computed from (R107). -/
  creditNext : Nat := 0
  base : Nat := 0
  admitted : Nat := 0
  /-- Consecutive budget runs with short credit, and consecutive ticks without (R109, R113). -/
  shortRuns : Nat := 0
  notShort : Nat := 0
  /-- All sensors have failed in one tick since reset (R112). -/
  allFailed : Bool := false
  /-- Sensor offsets of the calibration page in force, in 1/16 °C (R111, R122). -/
  sensorOffs : List Int := []
  /-- Spells of Pennant Mode, newest first, and whether an exit has been accepted (R114, R117). -/
  spells : List Spell := []
  exitAccepted : Bool := false
  /-- The keeper set in effect (R106). -/
  keepers : Nat := 0xFF
  /-- A retirement waiting for its boundary: engine and tick of the write (R119). -/
  retire : Option (Nat × Nat) := none
  /-- The standby supervisor is held in reset until a device reset; a reload waits for the reload boundary (R101, R102). -/
  supHeld : Bool := false
  supReload : Bool := false
  /-- Parts of a count not yet carried into the counters of R487: slots below 2^10, energy below 1 mJ in nW ticks. -/
  slotPart : Nat := 0
  energyPart : Nat := 0
  /-- `CAL_CTRL.KEY` was the access before (R123). -/
  keyArmed : Bool := false
deriving DecidableEq, Repr

/-- Why a thread waits with its instruction's words kept (R29, R205). -/
structure Stall where
  pfx : Option (BitVec 32)
  w : BitVec 32
deriving DecidableEq, Repr

/-- A loaded hoist (R166, R168) and the thread that runs it (R192 to R218). -/
structure Hoist where
  /-- Hoist number 16 × engine + thread of `HOME` (R168). -/
  num : Nat
  cls : Nat
  lat : Nat
  typ : Nat
  wc : Nat
  tmin : Nat
  emerg : Bool
  /-- Pennant placement as a hoist number, if it has one (R166). -/
  pennantAt : Option Nat
  members : List Nat
  /-- Where the thread runs now, as a hoist number (R114). -/
  at_ : Nat
  /-- Not admitted since E in Pennant Mode (R114). -/
  suspended : Bool := false
  /-- Super-tick boundary at which the hoist took effect, or resumed (R196, R509). -/
  since : Nat
  /-- Work tick W (R196). -/
  w : Nat
  /-- The thread has a work tick to work on; it has ended; it has stopped (R196, R199, R201). -/
  ready : Bool := false
  halted : Bool := false
  /-- The tick before which the thread does not issue (`YIELD`, R200; the allowance, R108). -/
  notBefore : Nat := 0
  /-- AFI registers t0 to t15, predicates p0 to p7, pc, call stack, hoist index (R192). -/
  t : List Word := List.replicate 16 0
  p : List Bool := List.replicate 8 false
  pc : Nat := 0
  stack : List Nat := []
  hx : Nat := 0
  /-- The last member's marker has been written in this work tick (R197). -/
  lastDone : Bool := false
  /-- Image whose code the work tick runs (R222). -/
  img : Nat := 0
  /-- Valid bits of the last data word written to `REL_Q` for W, 0 where it is full (R198). -/
  lastBits : Nat := 0
  /-- Partial word of the `out` cursor: its bits, most significant first in line order, and their number (R207). -/
  outAcc : Nat := 0
  outBits : Nat := 0
  /-- Instructions issued in this work tick, and issue slots used and allowed in this tick (R108, R216). -/
  issued : Nat := 0
  used : Nat := 0
  allow : Nat := 0
  /-- Scratch words written in this work tick (R203). -/
  scratch : List Nat := []
  /-- Queues closed for W (R205). -/
  closed : List Nat := []
  stall : Option Stall := none
deriving DecidableEq, Repr

/-- An entry of the context cache (R178); the cache's list holds the most recently used first. -/
structure CtxEntry where
  chan : Nat
  words : List Word
  dirty : Bool
  pinned : Bool
deriving DecidableEq, Repr

/-- An AFI image loaded in a tile (R219 to R221). -/
structure Image where
  tile : Nat
  id : Nat
  /-- Load address in program memory, size of the code and of the constants in their units, tile SRAM offset of the
  constants, fault entry, classes that may run it. -/
  base : Nat
  codeWords : Nat
  constOff : Nat
  constWords : Nat
  faultEntry : Nat
  classes : Nat
deriving DecidableEq, Repr

/-- A word held in a queue (R337): its data and tags, the arrival tick it carries (R26, R205), and whether its code check
has found it uncorrectable (R358). -/
structure QWord where
  data : Word
  tag : BitVec 5
  arr : Nat
  poison : Bool := false
deriving DecidableEq, Repr

/-- An enabled queue (chapter 11), beside its window registers. -/
structure Queue where
  num : Nat
  /-- The words held, head first. -/
  words : List QWord := []
  /-- The gate tick, once it has started (R28, R347). -/
  gate : Option Nat := none
  /-- The first stamp that a stream-fed queue accepts (R347). -/
  accept : Nat := 0
  /-- Bits of the head word that the `in` cursor has taken (R206). -/
  bit : Nat := 0
  /-- A packet is open at the tail (R354). -/
  open_ : Bool := false
  /-- The tick of a flush request that waits, and, once its flush point is reached, the words before it (R354). -/
  flush : Option Nat := none
  flushWords : Option Nat := none
  /-- Ticks whose gate advanced without a marker (R30), newest first. -/
  incomplete : List Nat := []
deriving DecidableEq, Repr

/-- A check unit's state beside its registers (chapter 12). -/
structure Cku where
  num : Nat
  /-- A held `RUN_LO` (R376) and the chain value of RECORDER mode (R375). -/
  runLo : Option Nat := none
  chain : Option Nat := none
  /-- The bytes held back and the bytes taken of an open packet (R370). -/
  held : List Byte := []
  bytes : Nat := 0
  /-- The tick whose body is open in SNOOP_TICK mode, and whether the body holds words of it (R371). -/
  tick : Nat := 0
  /-- The open body has failed its parity (R379). -/
  failed : Bool := false
deriving DecidableEq, Repr

/-- The pennant of a channel as its end-of-tick marker for a tick found it (R298). -/
structure MarkNote where
  chan : Nat
  tick : Nat
  pen : Nat
  /-- The tick in which the marker was written (R114). -/
  wrote : Nat
deriving DecidableEq, Repr

/-- The tally reader (R488, R490): the snapshot sequence number and the LFSRs of the tagged engines. -/
structure Tal where
  seq : Nat := 0
  lfsr : List (Nat × Nat) := []
deriving DecidableEq, Repr

/-- A stamping source of `LIN` (R26, R269, R301), numbered: lane l is l, direct port d 16 + d, the management channel of
bundle b 48 + b, tributary t of bundle b 64 + 128 × b + t. -/
structure Src where
  num : Nat
  /-- Bits delivered on the stream, and how many there were before the first bit stamped with a tick, newest tick first. -/
  total : Nat := 0
  starts : List (Nat × Nat) := []
  /-- Conditions that stand, and conditions seen in the tick, at their places in the status word (R269). -/
  stand : Nat := 0
  seen : Nat := 0
  /-- Bits and errors of the tick, and whether descrambling has been off in it. -/
  bits : Nat := 0
  errs : Nat := 0
  off : Bool := true
  /-- Bits gathered that are not yet a word (R268, R339), the first the most significant, and their number. -/
  acc : Nat := 0
  accBits : Nat := 0
  /-- The 64 bits delivered last. -/
  last : Nat := 0
  /-- Units of the tick for the ledger (R416): bits [15:0] of the FCS of each Ethernet frame, newest first. -/
  frames : List (BitVec 16) := []
deriving DecidableEq, Repr

/-- The descrambler of a lane (R260, R301): the frame phase in force and the stream position at which it takes effect; the
request that waits for tick R + 1 (`some none` stops descrambling). -/
structure Descr where
  lane : Nat
  phase : Option Nat := none
  at_ : Nat := 0
  wait : Option (Nat × Option Nat) := none
deriving DecidableEq, Repr

/-- The frame that a lane transmitter is in (R261, R316): bits sent since its start, the scrambler, the parity gathered for B1
and, byte lane by byte lane, for B2, and that of the frame before, once it was whole. -/
structure TxLane where
  lane : Nat
  pos : Nat := 0
  scr : Nat
  b1Acc : Nat := 0
  b2Acc : List Nat := []
  b1 : Option Nat := none
  b2 : Option (List Nat) := none
deriving DecidableEq, Repr

/-- A receive bundle (R266): consecutive frames with the pattern, and with an errored pattern; its transmit frame counter. -/
structure Bund where
  num : Nat
  good : Nat := 0
  bad : Nat := 0
  count : Nat := 0
  /-- Frames received in the tick, for the ledger (R416). -/
  units : Nat := 0
deriving DecidableEq, Repr

/-- A discovery entry (R274, R275): the sequence numbers of its latest message and of its latest hail, and the super-ticks
since its latest valid message. -/
structure Disc where
  num : Nat
  next : Nat := 0
  seq : Option Nat := none
  silent : Nat := 0
deriving DecidableEq, Repr

/-- One unit of line input that a standby holds until the ledger says how to stamp it (R416). -/
inductive Unit1 where
  | bits (bs : List Bool)
  | frame (bs : List Byte)
  | bundle (bs : List Byte)
  | voice (f : VoiceFrame)
deriving DecidableEq, Repr

/-- A held unit: its source, and the tick in which it arrived. -/
structure HeldUnit where
  src : Nat
  tick : Nat
  unit : Unit1
deriving DecidableEq, Repr

/-- What the catch-up log holds (R432): a stamped word of a stream, or a tick-close marker. -/
inductive LogItem where
  | word (sid stamp : Nat) (w : TWord)
  | close (sid tick : Nat)
deriving DecidableEq, Repr

/-- `LIN` (chapter 8), beside its registers. -/
structure Lin where
  srcs : List Src := []
  descr : List Descr := []
  bunds : List Bund := []
  discs : List Disc := []
  /-- Super-ticks since the discovery agent's latest hails (R274). -/
  hail : Nat := 0
  /-- Lane transmitters that have met a frame start (R261). -/
  txs : List TxLane := []
  /-- The service word applied last to a lane or port: target, tick, channel (R301, R305). -/
  svc : List (Nat × Nat × Nat) := []
  /-- Line bits not yet carried into their counter (R487). -/
  bitPart : Nat := 0
  /-- Words that internal sources hold until their sinks have room (R19): stream, stamp, word; oldest first. -/
  waiting : List (Nat × Nat × TWord) := []
  /-- Line input held by a standby, oldest first; ledger entries with units still to stamp, by tick, oldest first; the first
  tick whose stamping is not settled (R416). -/
  held : List HeldUnit := []
  quota : List (Nat × List LedgerEntry) := []
  settled : Nat := 0
  /-- The catch-up log, oldest first, while input goes to it (R432). -/
  logging : Bool := false
  log : List LogItem := []
deriving DecidableEq, Repr

/-- A pass-through slot (R315 to R318): the entry in effect at the egress frames (`MAP_XC` word), and the interpreter of its
source pointer (R295): run class and length, the value of the run, NORM words in a row, the H1 byte received. -/
structure Pass where
  slot : Nat
  entry : Nat := 0
  run : Nat := 0
  runLen : Nat := 0
  runVal : Nat := 0
  norms : Nat := 0
  h1 : Option Nat := none
deriving DecidableEq, Repr

/-- `MAP` (chapter 10), beside its registers: pass-through slots, and the open frame of the pseudowire classifier. -/
structure Map where
  pass : List Pass := []
  rx : List TWord := []
deriving DecidableEq, Repr

/-- One member's output as it reaches a selector (R405): output tick, content, SF and SD, defect flag. -/
structure Given where
  tick : Nat
  chan : Nat
  c : Content
  sf : Bool
  sd : Bool
  defect : Bool
deriving DecidableEq, Repr

/-- A protection selector in operation (R405 to R408): ticks each condition has held, the wait to restore in ticks and
whether it may start, what has been released for the tick before, and the members' outputs of this sample. -/
structure Sel where
  num : Nat
  sfW : Nat := 0
  sdW : Nat := 0
  sfP : Nat := 0
  sdP : Nat := 0
  wtr : Option Nat := none
  /-- P was selected by request 4 or 6 (R406). -/
  byFail : Bool := false
  prev : Option (List TWord) := none
  w : Option Given := none
  p : Option Given := none
deriving DecidableEq, Repr

/-- How a direction's gain moves (R394): it stands; up; down; muted until the first frame with data; muted until the first
whole frame after the condition clears. -/
inductive GainMode where | steady | up | down | start | cond
deriving DecidableEq, Repr

/-- The gain of one direction of a voice port (R394): its attenuation in steps of 90 / K dB; beyond K steps every sample is 0. -/
structure Gain where
  att : Nat := 0
  mode : GainMode := .steady
deriving DecidableEq, Repr

/-- A voice port (chapter 13), beside its registers. -/
structure Vp where
  num : Nat
  /-- Consecutive frame syncs at the expected count; a clock stop in the meter's gate; the tick of the latest glitch (R386). -/
  fsGood : Nat := 0
  stopped : Bool := false
  glitched : Option Nat := none
  /-- An accepted `SERVICE` waits for its frame boundary (R388); slot alignment is kept (R387). -/
  svc : Bool := false
  aligned : Bool := false
  /-- The receive block in progress (R389 to R391): its mask, its frames (oldest first), the time of its first frame, the tick
  of its last, its flags, and the next block's sequence number. -/
  mask : Nat := 0xFFFFFFFF
  frames : List (List (BitVec 32)) := []
  start : Nat := 0
  lastTick : Nat := 0
  seq : Nat := 0
  changed : Bool := false
  prov : Bool := false
  ramp : Bool := false
  clkEv : Bool := false
  rateEv : Bool := false
  /-- The transmit buffer (R393): samples held, whether playing has started, the frame played last. -/
  tx : List (BitVec 32) := []
  started : Bool := false
  played : List (BitVec 32) := []
  rxGain : Gain := {}
  txGain : Gain := {}
  /-- The crossconnect stores (R397): frames, the frame taken last, whether the store has held 2 frames since its restart. -/
  rxStore : List (List (BitVec 32)) := []
  rxLast : List (BitVec 32) := []
  rxRun : Bool := false
  txStore : List (Nat × List (BitVec 32)) := []
  txLast : List (BitVec 32) := []
  txRun : Bool := false
  /-- Frames received in the tick, for the ledger (R416). -/
  units : Nat := 0
deriving DecidableEq, Repr

/-- `VOX` (chapter 13), beside its registers: the ports that are not OFF, and the tick whose bundles have been emitted. -/
structure Vox where
  ports : List Vp := []
  emitted : Option Nat := none
deriving DecidableEq, Repr

/-- A journal entry that waits for its boundary (R418, R419): whether the standby has acknowledged it. -/
structure JWait where
  seq : Nat
  entry : JEntry
  acked : Bool := false
deriving DecidableEq, Repr

/-- Pair mode (chapter 14), beside the `PRT` registers. -/
structure Pair where
  /-- The tick of the latest heartbeat received (R424); own heartbeat periods since it (R426); the heartbeat; loss declared;
  the standby was qualified as the loss was declared (R427). -/
  hbTick : Option Nat := none
  silent : Nat := 0
  peer : Option Heartbeat := none
  lost : Bool := false
  wasQual : Bool := false
  /-- Ticks the guard has read yielded, and holding (R425, R427). -/
  low : Nat := 0
  high : Nat := 0
  /-- Heartbeat periods in CLAIMING; periods left of the wait after a withdrawn claim (R426). -/
  claim : Nat := 0
  wait : Option Nat := none
  /-- The journal (R418, R419): the next sequence number sent, or expected; a gap was seen; the entries that wait; the `CLK`
  writes a standby holds (R417). -/
  jnext : Nat := 0
  gap : Bool := false
  journal : List JWait := []
  heldClk : List (Nat × Reg) := []
  /-- The comparison store (R421): own and peer's entries; ticks that disagreed (R422), newest first; whether one was found in
  this tick; consecutive good ticks. -/
  mine : List DigestEntry := []
  peers : List DigestEntry := []
  dis : List Nat := []
  disNow : Bool := false
  good : Nat := 0
  /-- A yield (R429): its decision tick and T; accepted; a fault yield; the output released last on each stream. -/
  yieldFrom : Nat := 0
  yieldAt : Option Nat := none
  accepted : Bool := false
  fault : Bool := false
  outs : List (Nat × Nat × Content) := []
  /-- A join (R430 to R432): T0; the parts staged and the number of the next; the copy is complete (on the active: a snapshot
  is due); the snapshot has been loaded; phase 2 starts at the next super-tick boundary; the standby has diverged since it
  joined; ticks without a RELEASE breach; one was found in this tick. -/
  t0 : Option Nat := none
  parts : List SnapPart := []
  partNext : Nat := 0
  copied : Bool := false
  loaded : Bool := false
  resync : Bool := false
  diverged : Bool := false
  noBreach : Nat := 0
  breached : Bool := false
  /-- Hoists wait for the super-tick boundary after a cold takeover (R433). -/
  restart : Bool := false
deriving DecidableEq, Repr

/-- Where a mailbox command comes from, and where its result goes (R147, R419, R453, R506): a slot, the start script, the
journal, a COMMAND frame. -/
inductive CmdFrom where
  | slot (n : Nat)
  | script
  | journal
  | frame (f : HalFrame)
deriving DecidableEq, Repr

/-- An accepted mailbox command (R147, R148): its acceptance sequence number and its words. -/
structure Cmd where
  src : CmdFrom
  seq : Nat
  op : Nat
  argWords : Nat
  args : List Nat
  tag : Nat
deriving DecidableEq, Repr

/-- The command in execution, while it waits for its boundary or completion (R148, R149): the tick in which it began, the
first tick at which it may take effect and the journal entry whose acknowledgement it needs (R419), a count of its own. -/
structure Busy where
  cmd : Cmd
  began : Nat
  due : Nat := 0
  jseq : Option Nat := none
  n : Nat := 0
deriving DecidableEq, Repr

/-- The mailbox (R147 to R150): the next acceptance sequence number, the accepted commands that wait, the one in execution, and
a command of a slot set aside while one of the journal is in execution (R419). -/
structure Mbox where
  next : Nat := 0
  queue : List Cmd := []
  busy : Option Busy := none
  aside : Option Busy := none
deriving DecidableEq, Repr

/-- Start-up (chapter 17), beside the `SUP` registers. -/
structure Boot where
  /-- Steps of R500 that have been completed, as far as events report them: supervisors, PLLs (locked or timed out, by number
  0 core, 1 fabric, 2 DDR), calibration, an image accepted, the channel table written. -/
  supDone : Bool := false
  pllDone : List Nat := []
  calDone : Bool := false
  image : Bool := false
  table : Bool := false
  /-- NOR slots whose image has failed (R502); a `BOOT_LOAD` whose image was accepted, until step 8 ends (R507). -/
  failed : List BootSource := []
  load : Option Cmd := none
  /-- The accepted image (R503): domains of its map that are not yet ON, controllers to train, its script, the image-signing
  key of R219. -/
  powerMap : List Nat := []
  ddrUse : List Nat := []
  script : List Byte := []
  imageKey : List Byte := []
  /-- DDR controllers trained (R500). -/
  trained : List Nat := []
  /-- The hash in key slot 1 of the fuse row, once programmed (R504, R505). -/
  keySlot1 : Option (List Byte) := none
  /-- The script runs, or has ended; its next entry; ticks of a wait; a command of it is in execution; the code it closed up
  with (R506). -/
  running : Bool := false
  ran : Bool := false
  entry : Nat := 0
  wait : Option Nat := none
  cmd : Bool := false
  result : Option Nat := none
  /-- `RESET_N` is low (R523); the straps have been sampled since the power-on reset (R518); the tick of a reset that
  `DEVICE_RESET` has announced (R507). -/
  held : Bool := false
  sampled : Bool := false
  resetAt : Option Nat := none
  /-- `CHT_RESUME` acts at the next tick boundary (R513). -/
  resume : Bool := false
deriving DecidableEq, Repr

/-- A body that a recorder source gathers (R478). -/
structure RecOpen where
  src : Nat
  first : Nat
  last : Nat
  bytes : List Byte := []
  poison : Bool := false
  cut : Bool := false
  inc : Bool := false
deriving DecidableEq, Repr

/-- A closed body in the staging region (R483). -/
structure RecBody where
  src : Nat
  must : Bool
  flags : Nat
  stamp : Nat
  ticks : Nat
  chan : Nat
  payload : List Byte
deriving DecidableEq, Repr

/-- The recorder (R477 to R486), beside the `REC` registers. -/
structure Rec where
  open_ : List RecOpen := []
  staged : List RecBody := []
  /-- Bodies lost since the last GAP record, by source (R481). -/
  lost : List (Nat × Nat) := []
  /-- Byte offset of the next record, counted on across wraps of the ring; the bytes of the block that it lies in, and whether
  they ask for FUA. -/
  pos : Nat := 0
  part : List Byte := []
  fua : Bool := false
  /-- Records of the session in the ring, oldest first: `SEQ` and byte offset (R482); a block of the session has been issued. -/
  recs : List (Nat × Nat) := []
  wrote : Bool := false
  /-- Commands in flight, oldest first; the highest `SEQ` of completed writes (R484). -/
  flight : List NvmeCmd := []
  written : Option Nat := none
  /-- `SEQ` assigned last, and made durable last, in this session (R481, R484). -/
  assigned : Option Nat := none
  durable : Option Nat := none
  /-- Bytes of class B written in this tick; ticks since the last flush (R484). -/
  bUsed : Nat := 0
  since : Nat := 0
  /-- Bytes written that are not yet a whole 2^10 (R487). -/
  bytePart : Nat := 0
deriving DecidableEq, Repr

/-- What the device keeps of a partner (R458, R461): the window and its strikes, the tick at which a quarantine starts, the
tick at which one ends, the messages of the tick, whether their excess has been counted. -/
structure Peer where
  who : Partner
  window : Nat := 0
  strikes : Nat := 0
  due : Option Nat := none
  ends : Option Nat := none
  msgs : Nat := 0
  excess : Bool := false
deriving DecidableEq, Repr

/-- A reliable frame without its answer yet (R442): the receiver, the frame, the tick of its latest transmission, the number
of repeats. -/
structure Sent where
  who : Partner
  frame : HalFrame
  at_ : Nat
  tries : Nat := 0
deriving DecidableEq, Repr

/-- A sequence count per partner and type (R442). -/
structure SeqCount where
  who : Partner
  ty : Nat
  n : Nat
deriving DecidableEq, Repr

/-- What a manager keeps of a member beside its registers (R443, R445, R451): its role, its pair peer's burgee, the
super-ticks since its latest TIME_REQ. -/
structure Member where
  num : Nat
  role : Nat := 1
  peer : Nat := 0
  silent : Nat := 0
  /-- A JOIN_OFFER is due at the next tick boundary (R446, R447). -/
  offer : Bool := false
deriving DecidableEq, Repr

/-- An image push as a member receives it (R454): its identifier, the bytes received, its mask and load arguments. -/
structure PushIn where
  id : Nat
  bytes : Nat := 0
deriving DecidableEq, Repr

/-- An image push as a manager runs it (R454, R456): mailbox request, members asked, members that answered, members that
loaded, the tick of the last chunk. -/
structure PushOut where
  req : Nat
  asked : List Nat
  answered : List Nat := []
  good : List Nat := []
  last : Nat
deriving DecidableEq, Repr

/-- `HAL` (chapter 15), beside its registers. -/
structure Hal where
  peers : List Peer := []
  rx : List SeqCount := []
  tx : List SeqCount := []
  sent : List Sent := []
  /-- The answer sent last to a reliable type (R442). -/
  answers : List (Partner × Nat × Out) := []
  members : List Member := []
  joinOpen : Bool := false
  /-- State before JOINING (R444). -/
  before : Nat := 0
  /-- Super-ticks since the latest hail, and since the manager's latest valid frame; the `SEQ` of the latest hail. -/
  hail : Nat := 0
  mgrSilent : Nat := 0
  hailSeq : Option Nat := none
  /-- An accepted offer waits to set `CLK_FTC_CTRL.ENABLE` (R447). -/
  autoFtc : Bool := false
  /-- t1 of the TIME_REQ that waits for its answer, and its tick (R452). -/
  timeReq : Option (Nat × Nat) := none
  /-- Frames of senders without an entry in this tick, per port (R461). -/
  strangers : List Nat := [0, 0]
  /-- Entries written to the violation log (R462). -/
  logged : Nat := 0
  pushIn : Option PushIn := none
  pushOut : Option PushOut := none
deriving DecidableEq, Repr

/-- The state of the device. -/
structure State where
  regs : Regs := {}
  /-- All byte memories in one list in canonical form (`Memory.wf`): the key is the space's base plus the address. -/
  mem : List Host.Cell := []
  clk : Clk := {}
  evt : Evt := {}
  pwr : Pwr := {}
  /-- Loaded hoists, in the order of their loading. -/
  hoists : List Hoist := []
  /-- The context cache (R178). -/
  ctx : List CtxEntry := []
  images : List Image := []
  queues : List Queue := []
  ckus : List Cku := []
  /-- Markers written and not yet released (R298), newest first. -/
  marks : List MarkNote := []
  /-- Channels whose release queue has been sampled in this tick (R33). -/
  sampled : List Nat := []
  lin : Lin := {}
  map : Map := {}
  sels : List Sel := []
  vox : Vox := {}
  pair : Pair := {}
  mbox : Mbox := {}
  boot : Boot := {}
  rec_ : Rec := {}
  hal : Hal := {}
  tally : Tal := {}
  /-- Digest entries closed by units offered to pair agreement (R373, R421), newest first. -/
  offered : List DigestEntry := []
  pins : Pins := {}
  /-- What has left the device, newest first. -/
  out : List Out := []
  /-- The model's own counter of free values drawn (no state of the device). -/
  free : Nat := 0
  /-- The commands that wait, first in, first out. -/
  pending : List Instr := []
deriving DecidableEq, Repr

/-- The device right after reset: a power-on reset, which `SUP_RESET_CAUSE` shows (R499, R516). -/
def State.reset : State := { regs := { vals := [(0x24, 1)] } }

/-- Why a run ends with a fault. No command of this device ends a run: the type has no constructor the meanings use beside
this one, kept so that the outcome has a reason to name. -/
inductive Fault where
  /-- Raised by nobody: the device has no event after which it takes no further command. Safe. -/
  | none
deriving DecidableEq, Repr

/-- Why a command is refused. -/
inductive Refusal where
  /-- Answered by `exec` for a command the model does not cover yet; safe, since nothing is claimed of it. -/
  | notModelled (mnemonic : String)
deriving DecidableEq, Repr

end Sys2Proof.Machine
end

