-- ==== Sys2Proof/Machine/Ops.lean ====
section
/-! DEFINITION. The named operations every meaning is built of: bit fields of naturals, sparse sorted maps, the register
file (R136, R139, R140, R143, R13), the byte memories, and the counters of R487. -/

namespace Sys2Proof.Machine

/-! ## Bits of naturals -/

/-- Bits [lo+w-1:lo] of `v`. -/
def bitsOf (v lo w : Nat) : Nat := (v >>> lo) % 2 ^ w
/-- `v` with bits [lo+w-1:lo] replaced by `x`. -/
def putBits (v lo w x : Nat) : Nat := v - (bitsOf v lo w) * 2 ^ lo + (x % 2 ^ w) * 2 ^ lo
/-- Bit `i` of `v`. -/
def bitOf (v i : Nat) : Bool := v.testBit i
/-- 1 for true, 0 for false. -/
def b2n (b : Bool) : Nat := if b then 1 else 0
/-- Two's complement value of the low `w` bits of `v`. -/
def sgn (w v : Nat) : Int := let m := v % 2 ^ w; if 2 * m < 2 ^ w then m else (m : Int) - (2 ^ w : Nat)
/-- The low `w` bits of an integer. -/
def unsgn (w : Nat) (i : Int) : Nat := (i % (2 ^ w : Nat)).toNat
/-- The smallest `n` with `n * d ≥ a`. -/
def ceilDiv (a d : Nat) : Nat := (a + d - 1) / d
/-- Number of 1 bits among the low `n` bits of `v`. -/
def popCount : Nat → Nat → Nat
  | 0, _ => 0
  | n + 1, v => v % 2 + popCount n (v / 2)
/-- The low `n` bits of `v` in reverse order. -/
def revBits : Nat → Nat → Nat
  | 0, _ => 0
  | n + 1, v => (v % 2) * 2 ^ n + revBits n (v / 2)
/-- Sum of a list of naturals. -/
def sumL (l : List Nat) : Nat := l.foldl (· + ·) 0
/-- The largest of a list, 0 where it is empty. -/
def maxL (l : List Nat) : Nat := l.foldl Nat.max 0
/-- The smallest of a non-empty list. -/
def minL (l : List Nat) : Nat := match l with | [] => 0 | a :: r => r.foldl Nat.min a
/-- Little-endian value of a list of bytes. -/
def leNat : List Byte → Nat
  | [] => 0
  | b :: r => b.toNat + 256 * leNat r
/-- The `n` little-endian bytes of a value. -/
def leBytes : Nat → Nat → List Byte
  | 0, _ => []
  | n + 1, v => BitVec.ofNat 8 v :: leBytes n (v / 256)
/-- Element `i` of a list replaced by `f` of it. -/
def modAt {α : Type} (l : List α) (i : Nat) (f : α → α) : List α := l.modify i f

/-! ## Sparse sorted maps -/

/-- The entry of key `k`, if any. -/
def Sparse.find {β : Type} : List (Nat × β) → Nat → Option β
  | [], _ => none
  | (a, b) :: r, k => if a = k then some b else Sparse.find r k
/-- The value of key `k`: its entry, or the default. -/
def Sparse.get {β : Type} (d : β) (m : List (Nat × β)) (k : Nat) : β := (Sparse.find m k).getD d
/-- The map without key `k`. -/
def Sparse.erase {β : Type} : List (Nat × β) → Nat → List (Nat × β)
  | [], _ => []
  | (a, b) :: r, k => if a = k then Sparse.erase r k else (a, b) :: Sparse.erase r k
/-- The map with `(k, v)` put before the first larger key. -/
def Sparse.insert {β : Type} : List (Nat × β) → Nat → β → List (Nat × β)
  | [], k, v => [(k, v)]
  | (a, b) :: r, k, v => if a < k then (a, b) :: Sparse.insert r k v else (k, v) :: (a, b) :: r
/-- The map with key `k` set to `v`; a value equal to the default is not listed. -/
def Sparse.set {β : Type} [DecidableEq β] (d : β) (m : List (Nat × β)) (k : Nat) (v : β) : List (Nat × β) :=
  if v = d then Sparse.erase m k else Sparse.insert (Sparse.erase m k) k v
/-- Canonical form: keys strictly rising, no entry with the default value. -/
def Sparse.wf {β : Type} [DecidableEq β] (d : β) : List (Nat × β) → Bool
  | [] => true
  | [(_, b)] => b ≠ d
  | (a, b) :: (a', b') :: r => decide (b ≠ d) && decide (a < a') && Sparse.wf d ((a', b') :: r)

/-! ## The register file -/

/-- Index of the block that holds a register key (R129); the queue window's keys belong to `QUE`. -/
def blockOf (key : Nat) : Nat :=
  if queKeyBase ≤ key then 18 else
  let m := key / 0x100000
  if m < 7 then m else
  if 0x10 ≤ m ∧ m < 0x18 then m - 9 else
  match m with
  | 0x20 => 15 | 0x21 => 16 | 0x22 => 17 | 0x30 => 18 | 0x31 => 19 | 0x32 => 20 | 0x33 => 21 | 0x34 => 22 | 0x35 => 23
  | _ => 24

/-- Offset of a key in its block; in the queue window, the window offset. -/
def offOf (key : Nat) : Nat := if queKeyBase ≤ key then 0x400 + (key - queKeyBase) % 0x40 else key % 0x40000

/-- Whether offset `off` of tile `t` is a word of row `r`; the answer is the word's index (1 for the upper half of a pair). -/
def RegRow.word (r : RegRow) (t off : Nat) (win : Bool) : Option Nat :=
  if r.win ≠ win ∨ (r.only0 ∧ t ≠ 0) ∨ off < r.off then none else
  let d := off - r.off
  let d1 := if r.c1 = 1 then (if r.s1 = 0 then some d else none) else if d / r.s1 < r.c1 then some (d % r.s1) else none
  match d1 with
  | none => none
  | some d =>
    let d2 := if r.c2 = 1 then some d else if d / r.s2 < r.c2 then some (d % r.s2) else none
    match d2 with
    | some 0 => some 0
    | some 4 => if r.pair then some 1 else none
    | _ => none

/-- The row and word index of a key, if the key is a register. -/
def findRow (rows : List RegRow) (t off : Nat) (win : Bool) : Option (RegRow × Nat) :=
  match rows with
  | [] => none
  | r :: rs => match r.word t off win with
    | some w => some (r, w)
    | none => findRow rs t off win

/-- The row of a register key. -/
def rowOf (key : Nat) : Option (RegRow × Nat) :=
  let b := blockOf key
  findRow (blockRows b) (b - 7) (offOf key) (decide (queKeyBase ≤ key))

/-- The part of field `f` that lies in word `w` of its row: its lowest bit, width and the bits of its reset value. -/
def FieldRow.slice (f : FieldRow) (w : Nat) : Option (Nat × Nat × Nat) :=
  let a := Nat.max f.lo (32 * w)
  let e := Nat.min (f.lo + f.w) (32 * w + 32)
  if a < e then some (a - 32 * w, e - a, bitsOf f.rst (a - f.lo) (e - a)) else none

/-- Reset value of word `w` of a row. -/
def rowReset (r : RegRow) (w : Nat) : Nat :=
  r.fields.foldl (fun acc f => match f.slice w with | some (lo, _, v) => acc + v * 2 ^ lo | none => acc) 0

/-- Reset word of a key: the table's, and the three registers whose reset value depends on their index (R466, R496, R346). -/
def resetWord (key : Nat) : Nat :=
  match rowOf key with
  | none => 0
  | some (r, w) =>
    if key = R.HAL_VIOL_CFG 2 ∨ key = R.HAL_VIOL_CFG 3 then rowReset r w - 16
    else if R.TAL_TAG_SEED 0 ≤ key ∧ key < R.TAL_TAG_SEED 96 then (key - R.TAL_TAG_SEED 0) / 4 + 1
    else rowReset r w

/-- The stored word of a register key. -/
def State.word (s : State) (key : Nat) : Nat :=
  (Sparse.get (BitVec.ofNat 32 (resetWord key)) s.regs.vals key).toNat
/-- The in-force word of a register key with F fields. -/
def State.liveWord (s : State) (key : Nat) : Nat :=
  (Sparse.get (BitVec.ofNat 32 (resetWord key)) s.regs.live key).toNat
/-- Store a register word; its stored parity is computed afresh and its reported bit cleared (R141, R142). -/
def State.setWord (s : State) (key v : Nat) : State :=
  { s with regs := { s.regs with
      vals := Sparse.set (BitVec.ofNat 32 (resetWord key)) s.regs.vals key (BitVec.ofNat 32 v)
      bad := s.regs.bad.filter (· ≠ (key, false))
      reported := s.regs.reported.filter (· ≠ key) } }
/-- Set the in-force copy of a register word. -/
def State.setLive (s : State) (key v : Nat) : State :=
  { s with regs := { s.regs with
      live := Sparse.set (BitVec.ofNat 32 (resetWord key)) s.regs.live key (BitVec.ofNat 32 v)
      bad := s.regs.bad.filter (· ≠ (key, true)) } }

/-- A field's stored value. -/
def State.get (s : State) (f : Fld) : Nat :=
  if f.lo + f.w ≤ 32 then bitsOf (s.word f.reg) f.lo f.w
  else bitsOf (s.word f.reg + 2 ^ 32 * s.word (f.reg + 4)) f.lo f.w
/-- Whether a one-bit field is 1. -/
def State.bit (s : State) (f : Fld) : Bool := s.get f ≠ 0
/-- Set a field's stored value. -/
def State.set (s : State) (f : Fld) (v : Nat) : State :=
  if f.lo + f.w ≤ 32 then s.setWord f.reg (putBits (s.word f.reg) f.lo f.w v)
  else
    let n := putBits (s.word f.reg + 2 ^ 32 * s.word (f.reg + 4)) f.lo f.w v
    (s.setWord f.reg (n % 2 ^ 32)).setWord (f.reg + 4) (n / 2 ^ 32)
/-- Set or clear a one-bit field. -/
def State.put (s : State) (f : Fld) (b : Bool) : State := s.set f (b2n b)
/-- Bits set in a field, beside those it holds. -/
def State.orF (s : State) (f : Fld) (v : Nat) : State := s.set f (s.get f ||| v)
/-- A counter field advanced by `n`, wrapping at its width. -/
def State.inc (s : State) (f : Fld) (n : Nat) : State := s.set f ((s.get f + n) % 2 ^ f.w)
/-- A counter field advanced by one, staying at its largest value. -/
def State.incSat (s : State) (f : Fld) : State := if s.get f + 1 < 2 ^ f.w then s.set f (s.get f + 1) else s

/-- The block frozen under HOLD that a key belongs to, if any (R143). -/
def State.heldOf (s : State) (key : Nat) : Option HeldBlock := s.regs.held.find? (·.blk = blockOf key)
/-- A register word as its block's control outputs carry it: the frozen copy under HOLD, else the in-force or stored one. -/
def State.ctlWord (s : State) (frame : Bool) (key : Nat) : Nat :=
  match s.heldOf key with
  | some h => (Sparse.get (BitVec.ofNat 32 (resetWord key)) (if frame then h.live else h.vals) key).toNat
  | none => if frame then s.liveWord key else s.word key
/-- Whether a value is one the field's table lists (R13). -/
def legalIn (l : List (Nat × Nat)) (v : Nat) : Bool := l.isEmpty || l.any (fun p => decide (p.1 ≤ v ∧ v ≤ p.2))
/-- A configuration field as it acts (R13, R139, R143): in force, frozen under HOLD, and as its reset value where it holds a
value its table does not list. -/
def State.cfg (s : State) (f : Fld) : Nat :=
  let v := if f.lo + f.w ≤ 32 then bitsOf (s.ctlWord f.frame f.reg) f.lo f.w
    else bitsOf (s.ctlWord f.frame f.reg + 2 ^ 32 * s.ctlWord f.frame (f.reg + 4)) f.lo f.w
  if legalIn f.legal v then v else f.rst
/-- A field as stored, and as its reset value where it holds a value its table does not list (R13). -/
def State.listed (s : State) (f : Fld) : Nat := if legalIn f.legal (s.get f) then s.get f else f.rst
/-- A one-bit configuration field as it acts. -/
def State.on (s : State) (f : Fld) : Bool := s.cfg f ≠ 0

/-- Apply `g` where `b` holds. -/
def State.when (s : State) (b : Bool) (g : State → State) : State := if b then g s else s
/-- Apply `g` for every element of a list, in order. -/
def State.each {α : Type} (s : State) (l : List α) (g : State → α → State) : State := l.foldl g s

/-! ## Memories -/

/-- The byte memories, by the number of their space; each spans 2^64 keys of the one memory list. -/
def Sp.sram : Nat := 0
def Sp.ddr (x : Nat) : Nat := 1 + x
def Sp.prog (t : Nat) : Nat := 8 + t
def Sp.tile (t : Nat) : Nat := 16 + t
def Sp.locals : Nat := 24
def Sp.scratch : Nat := 25
def Sp.mtp : Nat := 26
def Sp.norA : Nat := 27
def Sp.norB : Nat := 28
def Sp.msix : Nat := 29
def Sp.nvme : Nat := 30
def Sp.host : Nat := 31

/-- Key of address `a` in space `sp`; addresses wrap at 2^64. -/
def memKey (sp a : Nat) : Nat := sp * 2 ^ 64 + a % 2 ^ 64
/-- A byte no command has written reads as this (DESIGN CHOICE, log 12). -/
def unlisted : Byte := 0
/-- Read one byte. -/
def Memory.read (m : List Host.Cell) (k : Nat) : Byte := Sparse.get unlisted m k
/-- Write one byte. -/
def Memory.write (m : List Host.Cell) (k : Nat) (b : Byte) : List Host.Cell := Sparse.set unlisted m k b
/-- The canonical form of memory. -/
def Memory.wf (m : List Host.Cell) : Bool := Sparse.wf unlisted m
/-- Write bytes at rising keys. -/
def Memory.writeAll (m : List Host.Cell) (k : Nat) : List Byte → List Host.Cell
  | [] => m
  | b :: r => Memory.writeAll (Memory.write m k b) (k + 1) r

/-- One byte of a space. -/
def State.rd (s : State) (sp a : Nat) : Byte := Memory.read s.mem (memKey sp a)
/-- `n` bytes of a space. -/
def State.rdBytes (s : State) (sp a n : Nat) : List Byte := (List.range n).map fun i => s.rd sp (a + i)
/-- A little-endian value of `n` bytes. -/
def State.rdLE (s : State) (sp a n : Nat) : Nat := leNat (s.rdBytes sp a n)
/-- Write bytes in a space. -/
def State.wr (s : State) (sp a : Nat) (bs : List Byte) : State :=
  { s with mem := Memory.writeAll s.mem (memKey sp a) bs }
/-- Write a little-endian value of `n` bytes. -/
def State.wrLE (s : State) (sp a n v : Nat) : State := s.wr sp a (leBytes n v)
/-- The memory without the cells of the spaces that `drop` names. -/
def State.dropSpaces (s : State) (drop : Nat → Bool) : State :=
  { s with mem := s.mem.filter fun c => !drop (c.1 / 2 ^ 64) }

/-! ## Time -/

/-- The nominal XIN cycles per tick, from `XIN_SEL` (R58, R68). -/
def State.nominalRatio (s : State) : Nat :=
  (if s.clk.xinSel = 2 then 2500 else if s.clk.xinSel = 3 then 1250 else 3125) * 2 ^ 32
/-- The state of the tick generator (R59). -/
def State.ftcState (s : State) : Nat := s.get F.CLK_STATUS_FTC_STATE
/-- The present tick. -/
def State.tick (s : State) : Nat := s.clk.tick
/-- The phase of R53. -/
def State.phase (s : State) : Nat :=
  if s.get F.CLK_FTC_RATIO = 0 then 0 else Nat.min 8191 (8192 * s.clk.xin * 2 ^ 32 / s.get F.CLK_FTC_RATIO)
/-- TS64 (R53). -/
def State.ts64 (s : State) : Nat := (s.tick * 8192 + s.phase) % 2 ^ 64

/-! ## Power domains, free values, outputs and counters -/

/-- Whether power domain `n` is ON (R103). -/
def State.domOn (s : State) (n : Nat) : Bool := s.get (F.PWR_DOM_STATUS_STATE n) = 2
/-- Whether a block has a power domain ON, for the blocks that lie in power domains of their own (R103). -/
def State.blockPowered (s : State) (b : Nat) : Bool :=
  if 7 ≤ b ∧ b ≤ 14 then s.domOn (96 + (b - 7))
  else if b = 19 then [156, 157, 158, 159].any s.domOn
  else if b = 20 then [152, 153, 154, 155].any s.domOn
  else if b = 22 then s.domOn 161
  else if b = 23 then s.domOn 160
  else true
/-- Draw a free value. -/
def State.draw (s : State) : Word × State := (Config.freeWord s.free, { s with free := s.free + 1 })
/-- Something leaves the device. -/
def State.emit (s : State) (o : Out) : State := { s with out := o :: s.out }
/-- Counter `c` of block `b` advances (R487); a block whose power domains are all off holds its counts. -/
def State.tal (s : State) (b c n : Nat) : State := if s.blockPowered b then s.inc (F.TAL_CNT b c) n else s

/-- The result of a command: the next state, with the queue as the command found it. -/
def done (s t : State) (pinsOf : State → Pins) : Host.Outcome State Fault Refusal :=
  .next { t with pending := s.pending, pins := pinsOf t }

end Sys2Proof.Machine
end

