-- ==== Sys2Proof/Machine/Events.lean ====
section
/-! DEFINITION. Raising an event, as one shared operation (R467 to R475): the pending bit, the bunting record, the message and
the pins; the events gathered over a tick; the access error log (R146). -/

namespace Sys2Proof.Machine

/-- An event as its source raises it: source and code (R467), class where the event concerns a hoist, channel or queue,
whether `RAISE` raised it, its occurrences, data, subject, `hx`, and its stamp where it is not the present time. -/
structure Ev where
  src : Nat
  code : Nat := 0
  cls : Option Nat := none
  prog : Bool := false
  count : Nat := 1
  data : Nat := 0
  subject : Nat := 0
  hx : Nat := 0
  stamp : Option Nat := none

/-- The four words of a bunting record (R469). -/
def recordWords (e : Ev) (cls lap seq stamp : Nat) : List Nat :=
  [stamp % 2 ^ 64,
   lap * 2 ^ 63 + e.src * 2 ^ 53 + (if 992 ≤ e.src then 0 else e.code) * 2 ^ 47 + cls * 2 ^ 45 + b2n e.prog * 2 ^ 44
     + Nat.min e.count 4095 * 2 ^ 32 + seq % 2 ^ 32,
   e.data % 2 ^ 64,
   e.subject % 2 ^ 32 + (if e.prog then (e.hx % 64) * 2 ^ 32 else 0)]

/-! ## Whether the halyard hierarchy is in use (R415, R439, R451) -/

/-- States of pair mode (R415). -/
def PairSt.off : Nat := 0
def PairSt.starting : Nat := 1
def PairSt.claiming : Nat := 2
def PairSt.active : Nat := 3
def PairSt.joinConfig : Nat := 4
def PairSt.joinState : Nat := 5
def PairSt.standby : Nat := 6
def PairSt.stopped : Nat := 7
/-- The pair state. -/
def State.pairState (s : State) : Nat := s.get F.PRT_PAIR_STATUS_STATE
/-- Whether the device takes part in the hierarchy, as far as pair mode goes (R451). -/
def State.pairSpeaks (s : State) : Bool := s.pairState = PairSt.off || s.pairState = PairSt.active

/-- The hierarchy port (R439). -/
def State.hierPort (s : State) : Nat := s.cfg F.HAL_CFG_HIER_PORT
/-- Whether the device sends on its hierarchy port (R439, R443, R451). -/
def State.hierOn (s : State) : Bool :=
  s.cfg F.HAL_CFG_ROLE ≠ 0 && s.on (F.HAL_H_CFG_ENABLE s.hierPort) && s.pairSpeaks
    && !(s.hierPort = 0 && s.on (F.HAL_H_CFG_PAIR 0))
/-- Whether `H0` carries the pair link (R414, R439). -/
def State.pairOn (s : State) : Bool := s.on (F.HAL_H_CFG_ENABLE 0) && s.on (F.HAL_H_CFG_PAIR 0)

/-- The count of a list of sequence counts (R442). -/
def seqOf (l : List SeqCount) (p : Partner) (ty : Nat) : Nat :=
  ((l.find? fun c => c.who = p ∧ c.ty = ty).map (·.n)).getD 0
/-- A list with a sequence count set. -/
def setSeq (l : List SeqCount) (p : Partner) (ty n : Nat) : List SeqCount :=
  ⟨p, ty, n⟩ :: l.filter fun c => !(c.who = p && c.ty = ty)

/-- A frame to the pair peer leaves on `H0` with the next number of its type (R414, R442). -/
def State.pairSend (s : State) (ty : Nat) (f : Nat → Out) : State :=
  if !s.pairOn then s else
  let n := (seqOf s.hal.tx .pair ty + 1) % 2 ^ 32
  (({ s with hal := { s.hal with tx := setSeq s.hal.tx .pair ty n } } : State).emit (f n)).tal 22 1 1

/-! ## The bunting ring -/

/-- log2 of the bunting ring's records (R470). -/
def State.ringLog (s : State) : Nat := s.cfg F.EVT_RING_SIZE_SIZE
/-- Unread records of the ring (R470). -/
def State.ringOcc (s : State) : Nat :=
  (s.get F.EVT_RING_TAIL_TAIL + 2 ^ 16 - s.get F.EVT_RING_HEAD_HEAD) % 2 ^ s.ringLog
/-- R(c) of R471. -/
def State.ringReserve (s : State) (c : Nat) : Nat :=
  (if 1 ≤ c then s.get F.EVT_RESV0_RESV_S else 0) + (if 2 ≤ c then s.get F.EVT_RESV0_RESV_V else 0)
    + (if 3 ≤ c then s.get F.EVT_RESV1_RESV_T else 0)
/-- Whether R471 admits a record of class `c`. -/
def State.ringAdmits (s : State) (c : Nat) : Bool := 2 ^ s.ringLog - 1 - s.ringOcc > s.ringReserve c
/-- Whether the endpoint can send to host memory (R472, R513). -/
def State.linkUp (s : State) : Bool := !s.bit F.SUP_FAULT_STATUS_HOST_LINK_DOWN

/-- Post an admitted record: the ring slot, `TAIL`, `LAP`, `SEQ` and `EVT_RECORDS` (R470, R472); a source selected in
`HAL_FWDw` has it forwarded (R455). -/
def State.postRecord (s : State) (e : Ev) (cls : Nat) : State :=
  let tail := s.get F.EVT_RING_TAIL_TAIL
  let ws := recordWords e cls (s.get F.EVT_RING_TAIL_LAP) s.evt.seq (e.stamp.getD s.ts64)
  let s := s.wr Sp.host (s.get F.EVT_RING_BASE * 4096 + tail * 32) (ws.flatMap (leBytes 8))
  let nt := (tail + 1) % 2 ^ s.ringLog
  let s := s.set F.EVT_RING_TAIL_TAIL nt
  let s := s.when (nt = 0) fun s => s.set F.EVT_RING_TAIL_LAP (1 - s.get F.EVT_RING_TAIL_LAP)
  let s := (s.inc F.EVT_RECORDS 1).tal 4 0 1
  let sent := s.hierOn && bitOf (s.get (F.HAL_FWD (e.src / 32))) (e.src % 32)
  { s with evt := { s.evt with
      seq := (s.evt.seq + 1) % 2 ^ 32, forward := if sent then s.evt.forward ++ [ws] else s.evt.forward } }

/-- Send an MSI-X message on a vector (R473). -/
def State.message (s : State) (v : Nat) : State :=
  if !s.linkUp then s else
  let w := F.EVT_ARM (v / 32)
  if !bitOf (s.get w) (v % 32) then s else
  let s := s.set w (s.get w - 2 ^ (v % 32))
  if s.rdLE Sp.msix (16 * v + 12) 4 % 2 = 1 then
    let p := 0x1000 + v / 8
    s.wrLE Sp.msix p 1 ((s.rd Sp.msix p).toNat ||| 2 ^ (v % 8))
  else (s.emit (.msix v (s.rdLE Sp.msix (16 * v) 8) (s.rdLE Sp.msix (16 * v + 8) 4))).tal 4 2 1

/-- What an event of an enabled source does beside its record (R468): the pending bit and the message. -/
def State.signalEvent (s : State) (src : Nat) : State :=
  if !s.on (F.EVT_ROUTE_ENABLE src) then s else
  let s := s.orF (F.EVT_PEND (src / 32)) (2 ^ (src % 32))
  if s.on (F.EVT_ROUTE_MSI src) then s.message (s.cfg (F.EVT_ROUTE_VECTOR src)) else s

/-- A record R471 does not admit (R472). -/
def State.dropRecord (s : State) (cls : Nat) : State :=
  let s := ((s.inc (F.EVT_DROP cls) 1).put F.EVT_STICKY_OVERFLOW true).tal 4 1 1
  let s := { s with evt := { s.evt with
    dropped := modAt s.evt.dropped cls (fun n => Nat.min (n + 1) 65535), overflow := true } }
  s.signalEvent 963

/-- The bunting record of an event whose source routes to the ring (R471, R472). -/
def State.record (s : State) (e : Ev) : State :=
  if !s.bit F.EVT_CTRL_ENABLE then s else
  let cls := e.cls.getD (s.cfg (F.EVT_ROUTE_CLASS e.src))
  if !s.ringAdmits cls then s.dropRecord cls
  else if !s.linkUp then ((s.inc (F.EVT_DROP cls) 1).put F.EVT_STICKY_RING_ERR true).tal 4 1 1
  else s.postRecord e cls

/-- Raise an event (R468): nothing where its source is disabled; else the pending bit, the record (posted before the message,
R473) and the message. -/
def State.raise (s : State) (e : Ev) : State :=
  if !s.on (F.EVT_ROUTE_ENABLE e.src) then s else
  let s := s.orF (F.EVT_PEND (e.src / 32)) (2 ^ (e.src % 32))
  let s := if s.on (F.EVT_ROUTE_RING e.src) ∧ e.src ≠ 963 then s.record e else s
  if s.on (F.EVT_ROUTE_MSI e.src) then s.message (s.cfg (F.EVT_ROUTE_VECTOR e.src)) else s

/-- Whether a gathered entry stands for the event. -/
def TickEvent.isFor (g : TickEvent) (e : Ev) : Bool := g.src = e.src ∧ g.code = e.code ∧ g.subject = e.subject
/-- A gathered entry with one more occurrence of the event. -/
def TickEvent.add (e : Ev) (g : TickEvent) : TickEvent :=
  if g.isFor e then { g with count := g.count + 1, data := g.data ||| e.data } else g

/-- Gather an event that is raised once a tick for its source, code and subject, counting its occurrences. -/
def State.gather (s : State) (e : Ev) : State :=
  let g := s.evt.gathered
  let n := if g.any (·.isFor e) then g.map (TickEvent.add e) else g ++ [⟨e.src, e.code, e.cls, e.data, e.subject, 1⟩]
  { s with evt := { s.evt with gathered := n } }

/-- Raise the events gathered in the tick that ends. -/
def State.raiseGathered (s : State) : State :=
  let g := s.evt.gathered
  let s := { s with evt := { s.evt with gathered := [] } }
  s.each g fun s t => s.raise { src := t.src, code := t.code, cls := t.cls, data := t.data, subject := t.subject, count := t.count }

/-- The levels of the pins (R474, R71, R415): each interrupt pin is asserted while a pending source routes to it. -/
def State.pinsNow (s : State) : Pins :=
  let pend := (List.range 32).map fun w => (w, s.get (F.EVT_PEND w))
  let act := pend.filter fun p => p.2 ≠ 0
  let any (f : Nat → Fld) : Bool := act.any fun p =>
    (List.range 32).any fun j => bitOf p.2 j && s.on (f (32 * p.1 + j))
  { intA := any F.EVT_ROUTE_PIN_A, intB := any F.EVT_ROUTE_PIN_B, clkfail := s.bit F.CLK_STATUS_CLKFAIL
    yieldOut := s.get F.PRT_PAIR_STATUS_STATE = 2 || s.get F.PRT_PAIR_STATUS_STATE = 3 }

/-- The result of a command: the next state, its pins settled, its queue as the command found it. -/
def settle (s t : State) : Host.Outcome State Fault Refusal := done s t State.pinsNow

/-- Kinds of the access error log (R146). -/
def Kind.narrowWrite : Nat := 1
def Kind.unaligned : Nat := 2
def Kind.wrongLength : Nat := 3
def Kind.hWhileEnabled : Nat := 4
def Kind.unmapped : Nat := 5
def Kind.windowLocked : Nat := 6
def Kind.bankOff : Nat := 7
def Kind.reservedValue : Nat := 8
def Kind.mboxState : Nat := 9
def Kind.refused : Nat := 10

/-- Log a rejected or refused access and raise `EV_REG_ACCESS` (R146). -/
def State.logAccess (s : State) (addr master kind : Nat) (write : Bool) (be : Nat) : State :=
  let k := s.get F.BUS_ERRLOG_COUNT % 16
  let s := s.set (F.BUS_ERRLOG_ADDR k) addr
  let s := s.set (F.BUS_ERRLOG_INFO_MASTER k) master
  let s := s.set (F.BUS_ERRLOG_INFO_KIND k) kind
  let s := s.put (F.BUS_ERRLOG_INFO_WRITE k) write
  let s := s.set (F.BUS_ERRLOG_INFO_BYTES k) be
  let s := s.set (F.BUS_ERRLOG_TIME k) s.ts64
  let s := s.inc F.BUS_ERRLOG_COUNT 1
  let s := s.tal 3 2 (b2n (kind ≠ Kind.reservedValue))
  s.raise { src := 961, subject := k }

end Sys2Proof.Machine
end

