-- ==== Sys2Proof/Machine/Clock.lean ====
section
/-! DEFINITION. The tick generator, its references, the oscillators, PLLs, clock-domain switches and frequency meters
(chapter 2): what the `CLK` registers' writes do, what a tick boundary does to them, and the events of the chapter. -/

namespace Sys2Proof.Machine

/-- States of the tick generator (R59). -/
def Ftc.disabled : Nat := 0
def Ftc.freerun : Nat := 1
def Ftc.acquire : Nat := 2
def Ftc.locked : Nat := 3
def Ftc.holdover : Nat := 4
def Ftc.itoHoldover : Nat := 5

/-! ## Start-up's progress (R500, R516) -/

/-- Whether step 8 has been completed (R500): an image accepted, its domains ON, its controllers trained, its script ended. -/
def State.bootDone (s : State) : Bool := s.boot.image && s.boot.powerMap.isEmpty && s.boot.ddrUse.isEmpty && s.boot.ran
/-- Whether each step's completion condition holds (R500). -/
def State.stepHolds (s : State) : Nat → Bool
  | 2 => s.boot.supDone
  | 3 => s.bit F.CLK_STATUS_ITO_OK
  | 4 => s.bit F.CLK_STATUS_XIN_OK
  | 5 => [0, 1, 2].all s.boot.pllDone.contains
  | 6 => s.boot.calDone
  | 7 => s.boot.image
  | 8 => s.bootDone
  | 9 => s.boot.table
  | 10 => s.bit F.CLK_FTC_CTRL_ENABLE
  | 11 => (List.range 8).any (fun t => s.bit (F.TILE_CTRL_ENABLE t)) && !s.hoists.isEmpty
  | _ => false
/-- The highest step that holds, 1 where none does. -/
def State.bootStep (s : State) : Nat := (((List.range 12).filter s.stepHolds).getLast?).getD 1
/-- `STEP` follows (R500): it never decreases, and `WAIT_HOST` and `HALTED` stay until an image is accepted or a reset. -/
def State.bootShow (s : State) : State :=
  let st := s.get F.SUP_BOOT_STATUS_STEP
  if st < s.bootStep ∧ st < 14 then s.set F.SUP_BOOT_STATUS_STEP s.bootStep else s

/-! ## The tick -/

/-- XIN cycles of the present tick: the first count at which the carried fraction plus the cycles reach the ratio (R58). -/
def State.tickCycles (s : State) : Nat := ceilDiv (s.get F.CLK_FTC_RATIO - s.clk.frac) (2 ^ 32)

/-- The block idles for one XIN cycle: the count advances up to the last cycle of the tick (R53; DESIGN CHOICE, log 3). -/
def State.idle (s : State) : State :=
  if s.ftcState = Ftc.disabled ∨ s.tickCycles ≤ s.clk.xin + 1 then s
  else { s with clk := { s.clk with xin := s.clk.xin + 1 } }

/-- A ratio the DPLL's filter chooses, within ±100 ppm of nominal (R58): a free value under that bound. -/
def State.dpllRatio (s : State) : Nat × State :=
  let n := s.nominalRatio
  let d := n / 10000
  (n - d + Config.dpllStep s.free % (2 * d + 1), { s with free := s.free + 1 })

/-- The ratio holdover uses (R60): the mean of the 256 ratios that end 64 ticks before; with fewer ticks behind it the spec
states none, and the value is free within R58's bound (log 20). -/
def State.holdRatio (s : State) : Nat × State :=
  let h := (s.clk.hist.drop 64).take 256
  if h.length = 256 then (sumL h / 256, s) else s.dpllRatio

/-- The reference kind of a slot (R61); a unit that joins or stands by takes a HALYARD reference alone (R417). -/
def State.refKind (s : State) (sl : RefSlot) : Nat :=
  if PairSt.joinConfig ≤ s.pairState ∧ s.pairState ≤ PairSt.standby then
    (match sl with | .pri => 4 | .alt => 0)
  else match sl with
    | .pri => s.cfg F.CLK_FTC_REF_SEL_PRI
    | .alt => s.cfg F.CLK_FTC_REF_SEL_ALT
/-- Whether a slot's qualification holds (R62). -/
def State.refQual (s : State) : RefSlot → Bool
  | .pri => s.clk.priQual
  | .alt => s.clk.altQual
def State.refTicks (s : State) : RefSlot → Nat
  | .pri => s.clk.priTicks
  | .alt => s.clk.altTicks
def State.setRefQual (s : State) (sl : RefSlot) (q : Bool) : State :=
  match sl with
  | .pri => { s with clk := { s.clk with priQual := q, wtrTicks := 0 } }
  | .alt => { s with clk := { s.clk with altQual := q } }
def State.setRefTicks (s : State) (sl : RefSlot) (n : Nat) : State :=
  match sl with
  | .pri => { s with clk := { s.clk with priTicks := n } }
  | .alt => { s with clk := { s.clk with altTicks := n } }
/-- The code of a slot in `FTC_ACTIVE_REF`. -/
def refCode : RefSlot → Nat
  | .pri => 1
  | .alt => 2
def refOther : RefSlot → RefSlot
  | .pri => .alt
  | .alt => .pri
/-- The active slot. -/
def State.activeRef (s : State) : Option RefSlot :=
  match s.get F.CLK_STATUS_FTC_ACTIVE_REF with
  | 1 => some .pri
  | 2 => some .alt
  | _ => none
/-- Whether a kind's input can be present: NONE never is, and a SYNC input whose mode is off is absent (R61). -/
def State.refPresent (s : State) (kind : Nat) : Bool :=
  match kind with
  | 0 => false
  | 2 => s.cfg F.CLK_SYNC_CFG_SYNC0 ≠ 0
  | 3 => s.cfg F.CLK_SYNC_CFG_SYNC1 ≠ 0
  | _ => true

/-- The generator takes a slot as its reference and acquires it (R59, R62, R65). -/
def State.takeRef (s : State) (sl : RefSlot) : State :=
  let changed := s.get F.CLK_STATUS_FTC_ACTIVE_REF ≠ refCode sl
  let s := s.when changed fun s => (s.put F.CLK_STICKY_REF_SWITCHED true).tal 1 1 1
  let s := (s.set F.CLK_STATUS_FTC_ACTIVE_REF (refCode sl)).set F.CLK_STATUS_FTC_STATE Ftc.acquire
  let build := s.cfg F.CLK_FTC_CTRL_ALIGN = 0 ∧ s.refKind sl ≠ 4
  { s with clk := { s.clk with lockTicks := 0, lossAt := none, takeOffset := build, offset := 0, wtrTicks := 0 } }

/-- The generator enters HOLDOVER (R59, R62). -/
def State.enterHoldover (s : State) : State :=
  let s := ((s.set F.CLK_STATUS_FTC_ACTIVE_REF 0).set F.CLK_STATUS_FTC_STATE Ftc.holdover).put F.CLK_STICKY_HOLDOVER_SEEN true
  { s with clk := { s.clk with lockTicks := 0, lossAt := none } }

/-- The loss of the active reference acts: the other slot where it is qualified, else HOLDOVER (R62). -/
def State.leaveRef (s : State) (sl : RefSlot) : State :=
  if s.refQual (refOther sl) then s.takeRef (refOther sl) else s.enterHoldover

/-- A reference is declared lost (R61): its sticky bit, its qualification, and, where it is active, a loss that acts at the
next tick boundary. -/
def State.loseRef (s : State) (sl : RefSlot) : State :=
  let s := s.put (match sl with | .pri => F.CLK_STICKY_PRI_LOST | .alt => F.CLK_STICKY_ALT_LOST) true
  let s := (s.setRefQual sl false).setRefTicks sl 0
  if s.activeRef = some sl then { s with clk := { s.clk with lossAt := some s.tick } } else s

/-- A commit of the tick fields has been copied (R61, R64): a slot whose selection changed starts anew, and one whose input
mode is now off is lost. -/
def State.clkCommitted (s old : State) : State :=
  let selOf (s : State) (sl : RefSlot) : Nat × Nat :=
    (s.refKind sl, match sl with | .pri => s.cfg F.CLK_FTC_REF_CHAN_PRI_CHAN | .alt => s.cfg F.CLK_FTC_REF_CHAN_ALT_CHAN)
  s.each [RefSlot.pri, RefSlot.alt] fun s sl =>
    if selOf old sl ≠ selOf s sl then
      let s := (s.setRefQual sl false).setRefTicks sl 0
      if s.activeRef = some sl then s.leaveRef sl else s
    else if s.refQual sl ∧ !s.refPresent (s.refKind sl) then s.loseRef sl else s

/-- The phase error to the active reference at a tick boundary, the offset taken, `CLK_FTC_PHERR` and the lock count (R59,
R65). -/
def State.measurePhase (s : State) (m : Meas) : State :=
  let raw := m.phErr.toInt
  let s := if s.clk.takeOffset then { s with clk := { s.clk with takeOffset := false, offset := raw } } else s
  let e := raw - s.clk.offset
  let s := s.set F.CLK_FTC_PHERR (unsgn 32 (if s.activeRef.isSome then e else 0))
  let inBand := decide (-8 ≤ e ∧ e ≤ 8)
  { s with clk := { s.clk with
    lockTicks := if s.ftcState = Ftc.acquire ∧ inBand then s.clk.lockTicks + 1 else 0 } }

/-- Presence of the two slots over the tick, and the wait to restore (R62, R63). -/
def State.countRefs (s : State) (m : Meas) : State :=
  let step (s : State) (sl : RefSlot) (ok : Bool) : State :=
    s.setRefTicks sl (if ok ∧ s.refPresent (s.refKind sl) then s.refTicks sl + 1 else 0)
  let s := step (step s RefSlot.pri m.priOk) RefSlot.alt m.altOk
  let wait := s.activeRef = some .alt ∧ s.clk.priQual ∧ s.on F.CLK_FTC_CTRL_REVERT
  { s with clk := { s.clk with wtrTicks := if wait then s.clk.wtrTicks + 1 else 0 } }

/-- Ticks since the LINE report of a slot (R61). -/
def State.countReports (s : State) : State :=
  { s with clk := { s.clk with priMiss := s.clk.priMiss + 1, altMiss := s.clk.altMiss + 1 } }
/-- Ticks since a slot's LINE report. -/
def State.refMiss (s : State) : RefSlot → Nat
  | .pri => s.clk.priMiss
  | .alt => s.clk.altMiss
/-- The work tick of a slot's latest LINE report. -/
def State.refReport (s : State) : RefSlot → Option Nat
  | .pri => s.clk.priReport
  | .alt => s.clk.altReport
/-- The channel that a LINE reference names. -/
def State.refChan (s : State) : RefSlot → Nat
  | .pri => s.cfg F.CLK_FTC_REF_CHAN_PRI_CHAN
  | .alt => s.cfg F.CLK_FTC_REF_CHAN_ALT_CHAN
/-- A frame start reported for work tick `w` by the channel of a LINE reference (R61, R253): the first report of a work tick
counts; one flagged unaligned loses the reference. -/
def State.lineReport (s : State) (sl : RefSlot) (c w : Nat) (unaligned : Bool) : State :=
  if s.refKind sl ≠ 1 ∨ s.refChan sl ≠ c ∨ s.refReport sl = some w then s else
  let s := match sl with
    | .pri => { s with clk := { s.clk with priReport := some w, priMiss := if unaligned then s.clk.priMiss else 0 } }
    | .alt => { s with clk := { s.clk with altReport := some w, altMiss := if unaligned then s.clk.altMiss else 0 } }
  if unaligned then s.loseRef sl else s

/-- Ticks each PLL has held lock (R76). -/
def State.countLocks (s : State) : State :=
  let locks := [s.bit F.CLK_STATUS_CORE_LOCK, s.bit F.CLK_STATUS_FAB_LOCK, s.bit F.CLK_STATUS_DDR_LOCK]
    ++ (List.range 4).map fun q => bitOf (s.get F.CLK_STATUS_QPLL_LOCK) q
  { s with clk := { s.clk with pllHeld := (s.clk.pllHeld.zip locks).map fun p => if p.2 then p.1 + 1 else 0 } }

/-- The ratio of the tick that begins (R58, R59, R60). -/
def State.nextRatio (s : State) : State :=
  let (r, s) :=
    if s.ftcState = Ftc.freerun then (s.nominalRatio, s)
    else if s.ftcState = Ftc.holdover ∨ s.ftcState = Ftc.itoHoldover then (s.get F.CLK_FTC_RATIO, s)
    else s.dpllRatio
  let s := s.set F.CLK_FTC_RATIO r
  let s := { s with clk := { s.clk with hist := (r :: s.clk.hist).take 320 } }
  if s.ftcState = Ftc.holdover ∨ s.ftcState = Ftc.itoHoldover then s else
  let (h, s) := s.holdRatio
  s.set F.CLK_FTC_HOLD_RATIO h

/-- The FTC's own part of a tick boundary (R52, R53, R58). -/
def State.advanceTick (s : State) (m : Meas) : State :=
  let carried := s.tickCycles * 2 ^ 32 + s.clk.frac - s.get F.CLK_FTC_RATIO
  let s := { s with clk := { s.clk with tick := s.clk.tick + 1, xin := 0, frac := carried } }
  let s := (((s.countRefs m).measurePhase m).countLocks).countReports
  (s.nextRatio.set F.CLK_FTC_NOW (s.ts64)).tal 1 0 1

/-- Write of `CLK_FTC_SNAP.GO` (R56). -/
def State.clkSnap (s : State) : State := s.set F.CLK_FTC_SNAPV s.ts64

/-- `CLK_FTC_CTRL.ENABLE` is set (R57, R59): the count starts at `CLK_FTC_SET`, the phase at 0; the state is FREERUN, or
ACQUIRE where a reference is qualified. -/
def State.ftcStart (s : State) : State :=
  if s.ftcState ≠ Ftc.disabled then s else
  let s := { s with clk := { s.clk with tick := s.cfg F.CLK_FTC_SET, xin := 0, frac := 0 } }
  let s := (s.set F.CLK_FTC_RATIO s.nominalRatio).set F.CLK_STATUS_FTC_STATE Ftc.freerun
  let s := if s.refQual .pri then s.takeRef .pri else if s.refQual .alt then s.takeRef .alt else s
  let (h, s) := s.holdRatio
  (s.set F.CLK_FTC_HOLD_RATIO h).bootShow

/-- REFERENCE_LOSS (R61): effective on a slot that has a reference; a LINE reference has gone 8 ticks without a report. -/
def execReferenceLoss (sl : RefSlot) (s : State) : Host.Outcome State Fault Refusal :=
  settle s (if s.refKind sl = 0 ∨ (s.refKind sl = 1 ∧ s.refMiss sl < 8) then s else s.loseRef sl)

/-- REFERENCE_SWITCH (R62): at the tick boundary after the loss of the active reference. -/
def execReferenceSwitch (s : State) : Host.Outcome State Fault Refusal :=
  settle s (match s.clk.lossAt, s.activeRef with
    | some t, some sl => if t < s.tick ∧ (s.ftcState = Ftc.locked ∨ s.ftcState = Ftc.acquire) then s.leaveRef sl else s
    | _, _ => s)

/-- REFERENCE_QUALIFY (R62): a slot present for `QUAL` × 1,024 ticks qualifies; in FREERUN and HOLDOVER it becomes active. -/
def execReferenceQualify (sl : RefSlot) (s : State) : Host.Outcome State Fault Refusal :=
  settle s (
    if s.refPresent (s.refKind sl) ∧ !s.refQual sl ∧ s.cfg F.CLK_FTC_CTRL_QUAL * 1024 ≤ s.refTicks sl then
      let s := s.setRefQual sl true
      if s.ftcState = Ftc.freerun ∨ s.ftcState = Ftc.holdover then s.takeRef sl else s
    else s)

/-- REVERT_WAIT_EXPIRY (R63): a requalified primary takes over again after `WTR` × 1,024 ticks. -/
def execRevertWaitExpiry (s : State) : Host.Outcome State Fault Refusal :=
  settle s (
    if s.activeRef = some .alt ∧ s.clk.priQual ∧ s.on F.CLK_FTC_CTRL_REVERT
        ∧ s.cfg F.CLK_FTC_CTRL_WTR * 1024 ≤ s.clk.wtrTicks then s.takeRef .pri
    else s)

/-- ACQUIRE_LOCK (R59): 64 consecutive ticks within ±8 units in ACQUIRE. -/
def execAcquireLock (s : State) : Host.Outcome State Fault Refusal :=
  settle s (if s.ftcState = Ftc.acquire ∧ 64 ≤ s.clk.lockTicks then s.set F.CLK_STATUS_FTC_STATE Ftc.locked else s)

/-! ## Oscillators (R68 to R73) -/

/-- The stored calibration page's check value: CRC-32, reflected, over its first 4,092 bytes (R121). -/
def crc32Step (c : Nat) (b : Byte) : Nat :=
  let x := c ^^^ b.toNat
  (List.range 8).foldl (fun v _ => if v % 2 = 1 then (v / 2) ^^^ 0xEDB88320 else v / 2) x
/-- CRC-32 of a byte string (polynomial 0x04C1_1DB7, reflected, initial value and final XOR 0xFFFF_FFFF). -/
def crc32 (bs : List Byte) : Nat := bs.foldl crc32Step 0xFFFFFFFF ^^^ 0xFFFFFFFF
/-- Whether the page in the MTP has its format identifier and a good CRC (R121, R122). -/
def State.calGood (s : State) : Bool :=
  s.rdLE Sp.mtp 0 4 = 0x31434C41 ∧ crc32 (s.rdBytes Sp.mtp 0 0xFFC) = s.rdLE Sp.mtp 0xFFC 4

/-- ITO_QUALIFY (R69): the ITO is qualified; the trim word, or the default trim where the page is bad. -/
def execItoQualify (s : State) : Host.Outcome State Fault Refusal :=
  settle s (
    if s.bit F.CLK_STATUS_ITO_OK ∨ !s.clk.oscOn ∨ !s.boot.supDone ∨ s.boot.held then s else
    let s := (s.put F.CLK_STATUS_ITO_OK true).put F.CLK_STATUS_CAL_TRIM_DEFAULT (!s.calGood)
    { s with clk := { s.clk with windows := 0, counts := [], badCounts := 0 } }.bootShow)

/-- Ten times the nominal window count (R70). -/
def State.xinNominal10 (s : State) : Nat :=
  if s.clk.xinSel = 2 then 262144 else if s.clk.xinSel = 3 then 131072 else 327680
/-- Whether a window count lies in the band of R70. -/
def State.xinInBand (s : State) (c : Nat) : Bool :=
  let n := s.xinNominal10
  let tol := if s.bit F.CLK_STATUS_CAL_TRIM_DEFAULT then 65 else 15
  (Int.natAbs ((10 * c : Nat) - (n : Int))) * 1000 ≤ n * tol
/-- Whether eight counts span no more than 200 ppm of nominal (R70). -/
def State.xinSpanOk (s : State) (l : List Nat) : Bool :=
  l.length = 8 ∧ (maxL l - minL l) * 10 * 1000000 ≤ 200 * s.xinNominal10

/-- A PLL coasts (R76): its domains go to the floor clock (the DDR PLL's and the quads' have none), its bits, its event. -/
def State.coast (s : State) (p : Pll) : State :=
  let already := match p with
    | .core => s.bit F.CLK_STATUS_CORE_COAST
    | .fabric => s.bit F.CLK_STATUS_FAB_COAST
    | .ddr => s.bit F.CLK_STATUS_DDR_COAST
    | .quad q => bitOf (s.get F.CLK_STATUS_QPLL_COAST) q.val
  if already then s else
  let s := match p with
    | .core => ((s.put F.CLK_STATUS_CORE_LOCK false).put F.CLK_STATUS_CORE_COAST true).put F.CLK_STICKY_CORE_COAST_SEEN true
    | .fabric => ((s.put F.CLK_STATUS_FAB_LOCK false).put F.CLK_STATUS_FAB_COAST true).put F.CLK_STICKY_FAB_COAST_SEEN true
    | .ddr => ((s.put F.CLK_STATUS_DDR_LOCK false).put F.CLK_STATUS_DDR_COAST true).put F.CLK_STICKY_DDR_COAST_SEEN true
    | .quad q =>
      let s := s.set F.CLK_STATUS_QPLL_LOCK (putBits (s.get F.CLK_STATUS_QPLL_LOCK) q.val 1 0)
      let s := (s.orF F.CLK_STATUS_QPLL_COAST (2 ^ q.val)).orF F.CLK_STICKY_QPLL_COAST_SEEN (2 ^ q.val)
      (s.put (F.LIN_QUAD_STATUS_LOCK q.val) false).put (F.LIN_QUAD_STATUS_COAST q.val) true
  let fed := match p with | .core => List.range 8 | .fabric => [8] | _ => []
  let src := s.get F.CLK_DOMSW_STATUS_SRC
  let move := fed.filter fun d => bitsOf src (2 * d) 2 = 0
  let s := s.set F.CLK_DOMSW_STATUS_SRC (move.foldl (fun v d => putBits v (2 * d) 2 1) src)
  let idx := match p with | .core => 0 | .fabric => 1 | .ddr => 2 | .quad q => 3 + q.val
  let dom := match p with | .fabric => 8 | .ddr => 9 | _ => 0
  let s := { s with clk := { s.clk with
    coasted := s.clk.coasted ++ move, pllHeld := modAt s.clk.pllHeld idx (fun _ => 0) } }
  (s.tal 1 2 1).raise { src := 16, code := 1, subject := dom }

/-- Quad PLLs whose input is XIN (R74, R258). -/
def State.xinQuads (s : State) : List (Fin 4) :=
  (List.finRange 4).filter fun q => s.cfg (F.LIN_QUAD_CFG_SRC q.val) ≤ 1

/-- XIN is declared lost (R72): the event, ITO_HOLDOVER with the holdover ratio scaled by the last qualified ratio of ITO to
XIN cycles, and every PLL on XIN coasts. -/
def State.loseXin (s : State) : State :=
  let s := ((s.put F.CLK_STATUS_XIN_OK false).put F.CLK_STICKY_XIN_LOST true).raise { src := 16, code := 0 }
  let s := if s.ftcState = Ftc.disabled then s else
    let (h, s) := if s.ftcState = Ftc.holdover then (s.get F.CLK_FTC_RATIO, s) else s.holdRatio
    let s := s.set F.CLK_FTC_HOLD_RATIO h
    let s := s.set F.CLK_FTC_RATIO (if s.clk.lastGood = 0 then h else h * 65536 / s.clk.lastGood)
    let s := (s.set F.CLK_STATUS_FTC_ACTIVE_REF 0).set F.CLK_STATUS_FTC_STATE Ftc.itoHoldover
    { s with clk := { s.clk with lockTicks := 0, lossAt := none } }.put F.CLK_STICKY_HOLDOVER_SEEN true
  let s := { s with clk := { s.clk with counts := [], badCounts := 0, windows := 0 } }
  let s := s.set F.CLK_XIN_MEAS_QUALS 0
  s.each ([Pll.core, .fabric, .ddr] ++ s.xinQuads.map Pll.quad) State.coast

/-- XIN qualifies (R70, R71): `CLKFAIL` is released, and ITO_HOLDOVER becomes HOLDOVER (R59). -/
def State.qualifyXin (s : State) : State :=
  let s := (s.put F.CLK_STATUS_XIN_OK true).put F.CLK_STATUS_CLKFAIL false
  if s.ftcState = Ftc.itoHoldover then
    let s := (s.set F.CLK_FTC_RATIO (s.get F.CLK_FTC_HOLD_RATIO)).enterHoldover
    if s.refQual .pri then s.takeRef .pri else if s.refQual .alt then s.takeRef .alt else s
  else s

/-- A window's count is judged, for qualification or, in service, for loss (R70, R72). -/
def State.xinWindow (s : State) (count : Nat) : State :=
    if !s.bit F.CLK_STATUS_ITO_OK ∨ !s.clk.oscOn then s else
    let s := (s.set F.CLK_XIN_MEAS_COUNT (Nat.min count 65535)).tal 0 3 1
    let good := s.xinInBand count
    let counts := if good then (count :: s.clk.counts).take 8 else []
    let s := { s with clk := { s.clk with
      windows := s.clk.windows + 1, counts := counts, badCounts := if good then 0 else s.clk.badCounts + 1 } }
    let s := s.set F.CLK_XIN_MEAS_QUALS counts.length
    if s.bit F.CLK_STATUS_XIN_OK then
      if good then { s with clk := { s.clk with lastGood := count } }
      else if 2 ≤ s.clk.badCounts then s.loseXin else s
    else if s.xinSpanOk counts then { s with clk := { s.clk with lastGood := count } }.qualifyXin.bootShow
    else s

/-- XIN_QUALIFY_TIMEOUT (R71): 64 windows without qualification assert `CLKFAIL`. -/
def execXinQualifyTimeout (s : State) : Host.Outcome State Fault Refusal :=
  settle s (if !s.bit F.CLK_STATUS_XIN_OK ∧ s.bit F.CLK_STATUS_ITO_OK ∧ 64 ≤ s.clk.windows
    then s.put F.CLK_STATUS_CLKFAIL true else s)

/-- The crystal monitor trips (R73): before ITO qualification `CLKFAIL` and a restart after the backoff; after it the counts
are discarded, and in service XIN is lost (R72). -/
def State.crystalTrip (s : State) : State :=
    if !s.boot.supDone then s
    else if !s.bit F.CLK_STATUS_ITO_OK then
      let s := s.put F.CLK_STATUS_CLKFAIL true
      { s with clk := { s.clk with oscOn := false, trips := s.clk.trips + 1, counts := [], windows := 0 } }
    else
      let s := { s with clk := { s.clk with counts := [], badCounts := 0 } }.set F.CLK_XIN_MEAS_QUALS 0
      if s.bit F.CLK_STATUS_XIN_OK then s.loseXin else s

/-- The wait before the next restart, in ms (R73). -/
def State.backoffMs (s : State) : Nat := if s.clk.trips ≤ 1 then 1 else if s.clk.trips = 2 then 2 else if s.clk.trips = 3 then 4 else 8

/-- CLOCK_RETRY (R73): the backoff has passed; the ITO and the oscillator driver restart and ITO qualification begins again. -/
def execClockRetry (s : State) : Host.Outcome State Fault Refusal :=
  settle s (if s.clk.oscOn then s else { s with clk := { s.clk with oscOn := true, windows := 0, counts := [], badCounts := 0 } })

/-- Index of a PLL in `Clk.pllHeld`. -/
def pllIdx : Pll → Nat
  | .core => 0
  | .fabric => 1
  | .ddr => 2
  | .quad q => 3 + q.val

/-- Whether a coasting PLL's input is qualified again (R76): XIN for those it feeds; another input is the sender's report. -/
def State.pllInputOk (s : State) : Pll → Bool
  | .quad q => if s.cfg (F.LIN_QUAD_CFG_SRC q.val) ≤ 1 then s.bit F.CLK_STATUS_XIN_OK else true
  | _ => s.bit F.CLK_STATUS_XIN_OK

/-- PLL_RESTORE (R76): the input is qualified and lock has held for 1,024 ticks; the domains go back to the PLL. -/
def execPllRestore (p : Pll) (s : State) : Host.Outcome State Fault Refusal :=
  settle s (
    if !s.pllInputOk p ∨ s.clk.pllHeld.getD (pllIdx p) 0 < 1024 then s else
    let s := match p with
      | .core => s.put F.CLK_STATUS_CORE_COAST false
      | .fabric => s.put F.CLK_STATUS_FAB_COAST false
      | .ddr => s.put F.CLK_STATUS_DDR_COAST false
      | .quad q => (s.set F.CLK_STATUS_QPLL_COAST (putBits (s.get F.CLK_STATUS_QPLL_COAST) q.val 1 0)).put
          (F.LIN_QUAD_STATUS_COAST q.val) false
    let fed := match p with | .core => List.range 8 | .fabric => [8] | _ => []
    let back := s.clk.coasted.filter fed.contains
    let s := s.set F.CLK_DOMSW_STATUS_SRC (back.foldl (fun v d => putBits v (2 * d) 2 0) (s.get F.CLK_DOMSW_STATUS_SRC))
    { s with clk := { s.clk with coasted := s.clk.coasted.filter fun d => !fed.contains d } })

/-! ## Clock-domain switches (R77 to R80) -/

/-- Whether a domain may take a source (R77). -/
def domSourceOk (d src : Nat) : Bool :=
  if d < 8 then src ≤ 2 else if d = 8 then src ≤ 1 else src = 0 ∨ src = 2

/-- Whether a request for a domain and source is rejected (R78). -/
def State.domReject (s : State) (d src : Nat) : Bool := s.clk.switching.any (·.1 = d) ∨ !domSourceOk d src

/-- An accepted request waits at the domain's multiplexer (R78). -/
def State.domRequest (s : State) (d src : Nat) : State :=
  { s with clk := { s.clk with switching := s.clk.switching ++ [(d, src)] } }.put F.CLK_DOMSW_STATUS_BUSY true

/-- A pending switch of domain `d` ends with its new source selected. -/
def State.domTake (s : State) (d src : Nat) : State :=
  let s := s.set F.CLK_DOMSW_STATUS_SRC (putBits (s.get F.CLK_DOMSW_STATUS_SRC) (2 * d) 2 src)
  let rest := s.clk.switching.filter (·.1 ≠ d)
  { s with clk := { s.clk with switching := rest, coasted := s.clk.coasted.filter (· ≠ d) } }.put
    F.CLK_DOMSW_STATUS_BUSY (!rest.isEmpty)

/-- DOMAIN_SWITCH_DONE (R78): effective on a domain with a switch pending. -/
def execDomainSwitchDone (d : Fin 11) (s : State) : Host.Outcome State Fault Refusal :=
  settle s (match s.clk.switching.find? (·.1 = d.val) with
    | some p => s.domTake d.val p.2
    | none => s)

/-- FORCED_DOMAIN_RESUME (R79): a force-switched domain resumes at a tick boundary. -/
def execForcedDomainResume (d : Fin 11) (s : State) : Host.Outcome State Fault Refusal :=
  settle s { s with clk := { s.clk with forced := s.clk.forced.filter (· ≠ d.val) } }

/-! ## Frequency meters (R84 to R86) -/

/-- `START` arms meter `n`, abandoning a measurement that runs (R84, R85). -/
def State.meterStart (s : State) (n : Nat) : State :=
  { s with clk := { s.clk with metering := n :: s.clk.metering.filter (· ≠ n) } }

/-- A measurement of meter `n` ends with a count (R84, R85). -/
def State.meterResult (s : State) (n count : Nat) (timeout : Bool) : State :=
  let big := 2 ^ 32 ≤ count
  let s := s.set (F.CLK_FM_RESULT_COUNT n) (if big then 2 ^ 32 - 1 else count)
  let s := ((s.put (F.CLK_FM_RESULT_SAT n) big).put (F.CLK_FM_RESULT_TIMEOUT n) timeout).put (F.CLK_FM_RESULT_VALID n) true
  let s := s.inc (F.CLK_FM_RESULT_SEQ n) 1
  if s.on (F.CLK_FM_CTRL_CONT n) ∧ !timeout then s
  else { s with clk := { s.clk with metering := s.clk.metering.filter (· ≠ n) } }

/-- FM_GATE_CLOSE (R84). -/
def execFmGateClose (n : Fin 32) (count : Nat) (s : State) : Host.Outcome State Fault Refusal :=
  settle s (if s.clk.metering.contains n.val then s.meterResult n.val count false else s)

/-- FM_TIMEOUT (R85). -/
def execFmTimeout (n : Fin 32) (count : Nat) (s : State) : Host.Outcome State Fault Refusal :=
  settle s (if s.clk.metering.contains n.val then s.meterResult n.val count true else s)

end Sys2Proof.Machine
end

