-- ==== Sys2Proof/Machine/Context.lean ====
section
/-! DEFINITION. The channel table and the context cache (R171 to R182, R511), and what a breach records (R40, R41, R183). -/

namespace Sys2Proof.Machine

/-- The space that holds the channel table (R177). -/
def State.chtSpace (s : State) : Nat :=
  match s.cfg F.CHT_CFG_WHERE with | 0 => Sp.ddr 0 | 1 => Sp.ddr 1 | _ => Sp.host
/-- Address of word `w` of channel `c`'s entry (R171). -/
def State.chtAddr (s : State) (c w : Nat) : Nat := s.cfg F.CHT_BASE * 2 ^ 22 + c * 256 + w * 8
/-- Whether the table is frozen (R511). -/
def State.frozen (s : State) : Bool := s.bit F.SUP_FAULT_STATUS_CHT_FROZEN

/-- The cache entry of a channel. -/
def State.ctxOf (s : State) (c : Nat) : Option CtxEntry := s.ctx.find? (·.chan = c)
/-- Whether a channel's entry is resident. -/
def State.resident (s : State) (c : Nat) : Bool := (s.ctxOf c).isSome
/-- Word `w` of a channel's entry: from the cache, or from the table; a frozen table's entries that are not resident read 0. -/
def State.chan (s : State) (c w : Nat) : Nat :=
  match s.ctxOf c with
  | some e => (e.words.getD w 0).toNat
  | none => if s.frozen then 0 else s.rdLE s.chtSpace (s.chtAddr c w) 8
/-- Change the cache entry of a channel. -/
def State.modCtx (s : State) (c : Nat) (f : CtxEntry → CtxEntry) : State :=
  { s with ctx := s.ctx.map fun e => if e.chan = c then f e else e }
/-- Write word `w` of a channel's entry (R182): in the cache where it is resident, else the 8-byte word alone in the table;
dropped and counted while the table is frozen (R511). -/
def State.setChan (s : State) (c w v : Nat) : State :=
  if s.resident c then
    s.modCtx c fun e => { e with dirty := true, words := e.words.set w (BitVec.ofNat 64 v) }
  else if s.frozen then s.inc F.SUP_CHT_DROPS 1
  else (s.wrLE s.chtSpace (s.chtAddr c w) 8 v).inc F.CTX_PEN_ONLY 1

/-- Header fields (R172). -/
def State.chValid (s : State) (c : Nat) : Bool := bitOf (s.chan c 0) 0
def State.chClass (s : State) (c : Nat) : Nat := bitsOf (s.chan c 0) 1 2
def State.chEmerg (s : State) (c : Nat) : Bool := bitOf (s.chan c 0) 3
def State.chMust (s : State) (c : Nat) : Bool := bitOf (s.chan c 0) 4
def State.chType (s : State) (c : Nat) : Nat := bitsOf (s.chan c 0) 8 8
def State.chLat (s : State) (c : Nat) : Nat := bitsOf (s.chan c 0) 16 7
def State.chHoist (s : State) (c : Nat) : Nat := bitsOf (s.chan c 0) 24 11
def State.chEntry (s : State) (c : Nat) : Nat := bitsOf (s.chan c 1) 0 17
def State.chImage (s : State) (c : Nat) : Nat := bitsOf (s.chan c 1) 32 16
/-- Queue of slot `i` (0 in, 1 rel, 2 aux0, 3 aux1), if its enable is 1. -/
def State.chQueue (s : State) (c i : Nat) : Option Nat :=
  if bitOf (s.chan c 2) (16 * i + 15) then some (bitsOf (s.chan c 2) (16 * i) 15) else none
def State.chCku (s : State) (c : Nat) : Option Nat :=
  if bitOf (s.chan c 3) 8 then some (bitsOf (s.chan c 3) 0 8) else none
def State.chTwin (s : State) (c : Nat) : Option Nat :=
  if bitOf (s.chan c 3) 38 then some (bitsOf (s.chan c 3) 24 14) else none
def State.chPrimary (s : State) (c : Nat) : Bool := bitOf (s.chan c 3) 39
def State.chSimplex (s : State) (c : Nat) : Bool := bitOf (s.chan c 3) 40
def State.chSubst (s : State) (c : Nat) : Nat := bitsOf (s.chan c 4) 0 2
def State.pennant (s : State) (c : Nat) : Nat := s.chan c 5
def State.defects (s : State) (c : Nat) : Nat := bitsOf (s.chan c 5) 0 16

/-- The state in which the release stage reads a channel's queues, twin and substitute setting: a frozen table withholds an
entry from the threads, but the member's release sample still finds its queue and its setting (R511, log 82). -/
def State.asLoaded (s : State) : State := s.put F.SUP_FAULT_STATUS_CHT_FROZEN false

/-- Whether a join holds the unit's hoists (R430, R432, R433): loaded, but not running yet. -/
def State.joinHold (s : State) : Bool :=
  let st := s.get F.PRT_PAIR_STATUS_STATE
  st = 4 || (st = 5 && !s.pair.loaded) || s.pair.restart

/-- The hoist that a channel is a member of, among the loaded ones. -/
def State.hoistOf (s : State) (c : Nat) : Option Hoist := s.hoists.find? (·.members.contains c)
/-- A loaded hoist by its number. -/
def State.hoist (s : State) (k : Nat) : Option Hoist := s.hoists.find? (·.num = k)
/-- Change a loaded hoist. -/
def State.modHoist (s : State) (k : Nat) (f : Hoist → Hoist) : State :=
  { s with hoists := s.hoists.map fun h => if h.num = k then f h else h }

/-- Set hoist bitmap bit `pos` of hoist `k`, and its summary bit (R183, R476). -/
def State.setHbm (s : State) (k pos : Nat) : State :=
  (s.orF (F.TILE_HBM (k / 192) (k % 192)) (2 ^ pos)).orF (F.EVT_HSUM (k / 32)) (2 ^ (k % 32))

/-- A channel's bit in its hoist's bitmap (R183). -/
def State.markChan (s : State) (c : Nat) : State :=
  match s.hoistOf c with
  | some h => s.setHbm h.num (h.members.idxOf c)
  | none => s

/-- Pennant bits set or cleared by hardware (R173, R182). -/
def State.penSet (s : State) (c mask : Nat) (v : Bool) : State :=
  let p := s.pennant c
  let n := if v then p ||| mask else p - (p &&& mask)
  if n = p then s else s.setChan c 5 n

/-- The first source number of tile `t`'s engine events (R467). -/
def tileSrc (t : Nat) : Nat := 64 + 24 * t

/-- An envelope breach of channel `c` for tick `n` with a cause bit (R40, R41): the pennant's flag, cause and count of breach
ticks, `LAST_BREACH`, the hoist bitmap, the tile's counter, and `EV_ENV_BREACH` once per hoist and tick. -/
def State.breach (s : State) (c n cause : Nat) : State :=
  let s := if cause = 2 then { s with pair := { s.pair with breached := true } } else s
  let first := bitsOf (s.pennant c) 48 16 = 0 ∨ s.chan c 7 ≠ n
  let p := s.pennant c ||| 2 ^ 33 ||| 2 ^ (34 + cause)
  let p := if first then putBits p 48 16 (Nat.min 65535 (bitsOf p 48 16 + 1)) else p
  let s := s.setChan c 5 p
  let s := if first then s.setChan c 7 (n % 2 ^ 51) else s
  match s.hoistOf c with
  | none => s
  | some h =>
    let t := h.num / 192
    let s := s.setHbm h.num (h.members.idxOf c)
    let s := if first then s.inc (F.TILE_BREACH_COUNT t) 1 else s
    s.gather { src := tileSrc t, code := 0, cls := some h.cls, subject := h.num }

/-- Set of a channel in the context cache (R178). -/
def ctxSet (c : Nat) : Nat := c % 512
/-- The entries of a channel's set, most recently used first. -/
def State.ctxWays (s : State) (c : Nat) : List CtxEntry := s.ctx.filter (ctxSet ·.chan = ctxSet c)
/-- The least recently used of a list of entries: the last. -/
def lru (l : List CtxEntry) : Option CtxEntry := l.getLast?

/-- The channel of the member that a thread is at. -/
def Hoist.cur (h : Hoist) : Nat := h.members.getD h.hx 0
/-- Whether a thread works on a channel (R178): from the load of its context until `NEXTC` or the end of its work tick. -/
def State.inUse (s : State) (c : Nat) : Bool := s.hoists.any fun h => h.ready && !h.lastDone && h.cur = c

/-- The victim of a miss (R179), if the set has an entry free to evict. -/
def State.ctxVictim (s : State) (c : Nat) : Option CtxEntry :=
  let free := (s.ctxWays c).filter fun e => !e.pinned && !s.inUse e.chan
  let cls (e : CtxEntry) : Nat := bitsOf (e.words.getD 0 0).toNat 1 2
  match lru (free.filter fun e => cls e ≤ 1 && (s.hoistOf e.chan).isNone) with
  | some e => some e
  | none => match lru (free.filter (cls · = 3)) with
    | some e => some e
    | none => lru (free.filter (cls · = 2))

/-- Write an entry's 32 words to the table (R176). -/
def State.ctxWriteBack (s : State) (e : CtxEntry) : State :=
  s.wr s.chtSpace (s.chtAddr e.chan 0) (e.words.flatMap fun w => leBytes 8 w.toNat)

/-- Make a channel's entry resident (R179), charged to tile `t` where it is a tile's miss (R180): nothing where it is
resident, where the table is frozen (counted, R511) or where the set has no entry free to evict. -/
def State.ctxFill (s : State) (t : Option Nat) (c : Nat) : State :=
  if s.resident c then s else
  let s := if t.isSome then s.inc F.CTX_MISSES 1 else s
  if s.frozen then s.inc F.SUP_CHT_DROPS 1 else
  let charge (s : State) : State := match t with | some t => s.inc (F.TILE_REFILLS t) 1 | none => s
  let fill (s : State) : State :=
    let ws := (List.range 32).map fun w => BitVec.ofNat 64 (s.rdLE s.chtSpace (s.chtAddr c w) 8)
    charge { s with ctx := ⟨c, ws, false, false⟩ :: s.ctx }
  if (s.ctxWays c).length < 8 then fill s else
  match s.ctxVictim c with
  | none => s
  | some v =>
    let s := if v.dirty then charge (s.ctxWriteBack v) else s
    fill { s with ctx := s.ctx.filter (·.chan ≠ v.chan) }

/-- Move a resident entry to the front of the recency order. -/
def State.ctxTouch (s : State) (c : Nat) : State :=
  match s.ctxOf c with
  | some e => { s with ctx := e :: s.ctx.filter (·.chan ≠ c) }
  | none => s

/-- Pin or unpin a channel's entry, and the number of pinned entries (R178). -/
def State.ctxPin (s : State) (c : Nat) (b : Bool) : State :=
  let s := s.modCtx c fun e => { e with pinned := b }
  s.set F.CTX_PINNED (s.ctx.filter (·.pinned)).length

/-- `CTX_RD_SEL.GO` (R190): a copy of the header, from the cache or the table; 0 where a frozen table lacks the entry. -/
def State.ctxSnapshot (s : State) (c : Nat) : State :=
  s.each (List.range 16) fun s i => s.set (F.CTX_RD_HDR i) (bitsOf (s.chan c (i / 2)) (32 * (i % 2)) 32)

/-- Write back every dirty entry (R184). -/
def State.ctxFlushAll (s : State) : State :=
  let s := s.each (s.ctx.filter (·.dirty)) State.ctxWriteBack
  { s with ctx := s.ctx.map fun e => { e with dirty := false } }

end Sys2Proof.Machine
end

