-- ==== Sys2Proof/Machine/Power.lean ====
section
/-! DEFINITION. Feeds, supervisors, power domains, the budget loop, Pennant Mode's causes, aging and the calibration page
(chapter 3). -/

namespace Sys2Proof.Machine

/-- States of a power domain (R104). -/
def Dom.off : Nat := 0
def Dom.powering : Nat := 1
def Dom.on : Nat := 2
def Dom.draining : Nat := 3

/-- Whether a domain delivers power: ON, or DRAINING, which works as ON (R104). -/
def State.domWorks (s : State) (n : Nat) : Bool :=
  let st := s.get (F.PWR_DOM_STATUS_STATE n)
  st = Dom.on ∨ st = Dom.draining

/-- Set the state of a domain, and the engine's bit in its tile's status (R104, R191). -/
def State.setDom (s : State) (n st : Nat) : State :=
  let s := s.set (F.PWR_DOM_STATUS_STATE n) st
  if n < 96 then
    let f := F.TILE_STATUS_ENG_ON (n / 12)
    s.set f (putBits (s.get f) (n % 12) 1 (b2n (st = Dom.on ∨ st = Dom.draining)))
  else s

/-- Whether a domain lies in the always-available partition (R105). -/
def State.keepEff (s : State) (n : Nat) : Bool :=
  let tileIn (t : Nat) : Bool := bitOf s.pwr.keepers t
  if n < 96 ∧ n % 12 = 0 ∧ tileIn (n / 12) then true
  else if 96 ≤ n ∧ n < 104 ∧ tileIn (n - 96) then true
  else if 104 ≤ n ∧ n < 112 ∧ tileIn (n - 104) then true
  else s.on (F.PWR_DOM_CTRL_KEEP n)

/-- `KEEP_EFF` of every domain, after a change of the keeper set or of a `KEEP` (R105). -/
def State.showKeep (s : State) : State :=
  s.each (List.range 162) fun s n =>
    let k := s.keepEff n
    if s.bit (F.PWR_DOM_STATUS_KEEP_EFF n) = k then s else s.put (F.PWR_DOM_STATUS_KEEP_EFF n) k

/-- Whether tile enables are all 0 (R177). -/
def State.tilesOff (s : State) : Bool := (List.range 8).all fun t => !s.on (F.TILE_CTRL_ENABLE t)

/-- Whether `l` is a lane of a four-lane group whose lowest lane is enabled (R104): OTL4.4 or 100GBASE-R4. -/
def State.laneGrouped (s : State) (l : Nat) : Bool :=
  let low := 4 * (l / 4)
  let m := s.cfg (F.LIN_LANE_CFG_MODE low)
  s.on (F.LIN_LANE_CFG_ENABLE low) && (m = 6 || m = 10)

/-- Enabled queues that use a test of their attributes: the numbers of the queues whose window configuration is listed. -/
def State.enabledQueues (s : State) : List Nat :=
  (s.regs.vals.filter fun e => decide (queKeyBase ≤ e.1) && (e.1 - queKeyBase) % 0x40 = 0 && bitOf e.2.toNat 0).map
    fun e => (e.1 - queKeyBase) / 0x40

/-- Whether a domain has an enabled user, or holds what bars its power-down (R104). -/
def State.domUsed (s : State) (n : Nat) : Bool :=
  if n < 96 then s.hoists.any fun h => h.num / 16 = n || h.at_ / 16 = n
  else if n < 112 then false
  else if n < 128 then
    -- a central SRAM bank that holds a queue middle
    let bank := n - 112
    s.enabledQueues.any fun q =>
      let sz := s.cfg (F.QUE_W_MIDSIZE q)
      let a := s.cfg F.QUE_MID_BASE * 64 + s.cfg (F.QUE_W_MIDBASE q) * 64
      sz ≠ 0 && !s.on (F.QUE_W_CFG_SPILL q) && decide (a < (bank + 1) * 0x3C0000 ∧ bank * 0x3C0000 < a + sz * 64)
  else if n < 144 then s.on (F.LIN_LANE_CFG_ENABLE (n - 128)) || s.laneGrouped (n - 128)
  else if n < 148 then (List.range 4).any fun i => s.on (F.LIN_LANE_CFG_ENABLE (4 * (n - 144) + i))
  else if n < 150 then
    let x := n - 148
    let pair := s.get F.PRT_PAIR_STATUS_STATE
    (s.cfg F.CHT_CFG_WHERE = x && !s.tilesOff)
      || (s.enabledQueues.any fun q => s.on (F.QUE_W_CFG_SPILL q) && s.cfg (F.QUE_W_CFG_DDR q) = x)
      || (pair ≠ 0 && pair ≠ 7 && s.cfg F.PRT_PAIR_CFG_SNAP_DDR = x)
  else if n = 150 then
    s.linkUp || (s.cfg F.CHT_CFG_WHERE = 2 && !s.tilesOff) || s.on F.EVT_CTRL_ENABLE
      || (s.on F.TAL_CTRL_ENABLE && s.cfg F.TAL_CTRL_WHERE = 1)
      || (s.on F.TAL_TAG_CFG_TAG_EN && s.cfg F.TAL_TAG_CFG_TAG_WHERE = 1)
  else if n = 151 then s.get F.REC_STATUS_STATE ≠ 0
  else if n < 156 then (List.range 4).any fun i => s.on (F.VOX_VP_CFG_ENABLE (4 * (n - 152) + i))
  else if n < 160 then (List.range 64).any fun i => s.on (F.CK_CFG_ENABLE (64 * (n - 156) + i))
  else if n = 160 then s.get F.REC_STATUS_STATE ≠ 0 || (List.range 512).any fun k => s.on (F.REC_SRC_CFG_EN k)
  else (List.range 2).any fun p => s.on (F.HAL_H_CFG_ENABLE p)

/-- Whether a power-down request is rejected (R104, R105). -/
def State.domStays (s : State) (n : Nat) : Bool := s.keepEff n || s.domUsed n

/-- Whether engine `e` is retired (R119). -/
def State.engRetired (s : State) (e : Nat) : Bool := bitOf (s.get (F.PWR_RETIRED (e / 32))) (e % 32)

/-- A request to power a domain up (R104, R119); one that Pennant Mode gates stays off until exit. -/
def State.domUp (s : State) (n : Nat) : State :=
  let st := s.get (F.PWR_DOM_STATUS_STATE n)
  if st = Dom.off then
    if (n < 96 ∧ s.engRetired n) ∨ s.bit (F.PWR_DOM_STATUS_PENNANT_GATED n)
      ∨ (96 ≤ n ∧ n < 112 ∧ bitOf (s.get F.SUP_FAULT_STATUS_TILE_LOST) (n % 8)) then s.put (F.PWR_DOM_STATUS_REJECTED n) true else s.setDom n Dom.powering
  else if st = Dom.draining then s.setDom n Dom.on
  else s

/-- A request to power a domain down (R104): DRAINING until the next super-tick boundary, or rejected. A domain that is OFF
or POWERING keeps its state (log 21). -/
def State.domDown (s : State) (n : Nat) : State :=
  if s.get (F.PWR_DOM_STATUS_STATE n) ≠ Dom.on then s
  else if s.domStays n then s.put (F.PWR_DOM_STATUS_REJECTED n) true
  else s.setDom n Dom.draining

/-- DOMAIN_SWITCH_OFF (R104): at a super-tick boundary every DRAINING domain is judged again. -/
def State.drainDomains (s : State) : State :=
  let l := (List.range 162).filter fun n => s.get (F.PWR_DOM_STATUS_STATE n) = Dom.draining
  s.each l fun s n =>
    if s.domStays n then (s.setDom n Dom.on).put (F.PWR_DOM_STATUS_REJECTED n) true else s.setDom n Dom.off

/-- Step 8 powers at most 16 domains of the image's map at a time (R500). -/
def State.bootPower (s : State) : State :=
  let state (n : Nat) : Nat := s.get (F.PWR_DOM_STATUS_STATE n)
  let busy := (s.boot.powerMap.filter fun n => state n = Dom.powering).length
  s.each ((s.boot.powerMap.filter fun n => state n = Dom.off).take (16 - busy)) fun s n => s.setDom n Dom.powering
/-- A domain of the map needs no more waiting for (R500). -/
def State.bootDomEnds (s : State) (n : Nat) : State :=
  ({ s with boot := { s.boot with powerMap := s.boot.powerMap.filter (· ≠ n) } } : State).bootPower

/-- DOMAIN_POWERED (R104, R500): a POWERING domain reaches ON; the gating of Pennant Mode no longer holds it; step 8 powers the
next one of the image's map. -/
def execDomainPowered (n : Fin 162) (s : State) : Host.Outcome State Fault Refusal :=
  settle s (
    if s.get (F.PWR_DOM_STATUS_STATE n.val) = Dom.powering then
      (((s.setDom n.val Dom.on).put (F.PWR_DOM_STATUS_PENNANT_GATED n.val) false).bootDomEnds n.val).bootShow
    else s)

/-! ## Pennant Mode causes (R113, R114) -/

/-- Bits of the causes (R113). -/
def Cause.credit : Nat := 0
def Cause.thermal : Nat := 1
def Cause.parity : Nat := 2
def Cause.command : Nat := 3

/-- A yield is decided (R429): the active sends it, naming T. -/
def State.yieldDecide (s : State) (fault : Bool) : State :=
  let t := s.tick + 1 + s.cfg F.PRT_PAIR_CFG_YIELD_LEAD
  ({ s with pair := { s.pair with yieldFrom := s.tick, yieldAt := some t, accepted := false, fault := fault } } : State).pairSend
    0x67 fun n => .yield n t
/-- Whether the active's standby is qualified, by its heartbeat (R422, R429). -/
def State.standbyQualified (s : State) : Bool :=
  s.get F.PRT_PAIR_STATUS_STATE = 3 && s.bit F.PRT_PAIR_STATUS_PEER_QUALIFIED && !s.pair.lost
/-- A fault yield (R429), where Pennant Mode entry is decided. -/
def State.faultYield (s : State) : State :=
  let away : Bool := match s.pair.peer with | some h => !h.pennant | none => false
  if s.on F.PRT_PAIR_CFG_YIELD_ON_PENNANT ∧ s.standbyQualified ∧ away ∧ s.pair.yieldAt.isNone then s.yieldDecide true else s

/-- A cause occurs (R113, R114): it is recorded, holds until its condition clears (COMMAND clears at once), and, where the
device is not in Pennant Mode nor entering it, entry is decided for the next tick boundary. -/
def State.pennantCause (s : State) (c : Nat) : State :=
  let s := s.orF F.PWR_PENNANT_STATUS_CAUSE (2 ^ c)
  let s := if c = Cause.command then s else s.orF F.PWR_PENNANT_STATUS_ACTIVE_CAUSES (2 ^ c)
  if s.bit F.PWR_STATUS_PENNANT ∨ s.bit F.PWR_STATUS_PENNANT_PENDING then s else
  let s := { s with pwr := { s.pwr with spells := { entry := s.tick + 1 } :: s.pwr.spells, exitAccepted := false } }
  let s := (s.put F.PWR_STATUS_PENNANT_PENDING true).incSat F.PWR_PENNANT_STATUS_ENTRIES
  (s.raise { src := 3, code := 0, subject := s.get F.PWR_PENNANT_STATUS_CAUSE }).faultYield

/-- A cause stops holding. -/
def State.causeClears (s : State) (c : Nat) : State :=
  let f := F.PWR_PENNANT_STATUS_ACTIVE_CAUSES
  s.set f (putBits (s.get f) c 1 0)

/-- Whether a hoist runs in Pennant Mode (R114). -/
def State.runsInPennant (s : State) (h : Hoist) : Bool :=
  h.cls = 0 || (h.cls = 1 && h.emerg && s.on F.PWR_PENNANT_CTRL_EMERG_V)

/-! ## The budget loop (R107 to R112) -/

/-- One half watt in nW. -/
def halfWatt : Nat := 500000000
/-- User cap, feed cap and thermal cap in nW (R107, R111); the junction temperature is in 1/16 °C. -/
def State.userCap (s : State) : Nat := s.cfg F.PWR_BUDGET_CAP_CAP * halfWatt
def State.feedCap (s : State) : Nat := if s.bit F.PWR_STATUS_SINGLE_FEED then 96 * halfWatt else 170 * halfWatt
def State.thermalCap (s : State) (tj : Int) : Option Nat :=
  if tj < 1600 then none
  else if tj < 1760 then some (Nat.max (24 * halfWatt) (s.userCap * (1760 - tj).toNat / 160))
  else some (24 * halfWatt)

/-- Junction temperature shown (R112). -/
def State.tj (s : State) : Int := sgn 16 (s.get F.PWR_TEMP_MAX_TJ)

/-- P_cap and its limiting term (R107): of equal terms the lowest code. -/
def State.pCap (s : State) : Nat × Nat :=
  let u := s.userCap
  let f := s.feedCap
  let t := s.thermalCap s.tj
  let tv := t.getD (Nat.max u f)
  if u ≤ f ∧ u ≤ tv then (u, 0) else if f ≤ tv then (f, 1) else (tv, 2)

/-- The credit of a budget run from the base power measured (R107): a slot of E pJ in 125 µs is 8 × E nW. -/
def State.creditFrom (s : State) (base : Nat) : Nat :=
  (s.pCap.1 - base) / (8 * s.cfg F.PWR_SLOT_ENERGY)

/-- Hoists whose demand a budget run counts (R108, R109). -/
def State.demandHoists (s : State) : List Hoist :=
  if s.bit F.PWR_STATUS_PENNANT then s.hoists.filter s.runsInPennant else s.hoists
/-- Sum of the S, V and T-minimum demands (R109). -/
def State.shortLine (s : State) : Nat :=
  sumL (s.demandHoists.map fun h => if h.cls ≤ 1 then h.wc else if h.cls = 2 then h.tmin else 0)

/-- Shares of `credit` among demands `d` (R108): each its whole demand while the credit carries them all, else in
proportion, rounded down. -/
def shareOf (credit total d : Nat) : Nat := if total ≤ credit then d else credit * d / total

/-- The allowance of every hoist for a tick with `credit` (R108), keyed by hoist number. -/
def State.allowances (s : State) (credit : Nat) : List (Nat × Nat) :=
  let pm := s.bit F.PWR_STATUS_PENNANT
  let hs := s.demandHoists
  let sum (c : Nat) (f : Hoist → Nat) : Nat := sumL ((hs.filter (·.cls = c)).map f)
  let left0 := credit - sum 0 (·.wc)
  let vTot := sum 1 (·.wc)
  let vUsed := sumL ((hs.filter (·.cls = 1)).map fun h => shareOf left0 vTot h.wc)
  let left1 := if vTot ≤ left0 then left0 - vTot else 0
  let mTot := sum 2 (·.tmin)
  let left2 := if mTot ≤ left1 then left1 - mTot else 0
  let rTot := sum 2 (fun h => h.wc - h.tmin)
  let left3 := if rTot ≤ left2 then left2 - rTot else 0
  let bTot := sum 3 (·.wc)
  hs.map fun h => (h.num,
    if h.cls = 0 then h.wc
    else if h.cls = 1 then shareOf left0 vTot h.wc
    else if pm ∨ vUsed > left0 then 0
    else if h.cls = 2 then shareOf left1 mTot h.tmin + shareOf left2 rTot (h.wc - h.tmin)
    else if bTot = 0 then 0 else left3 * h.wc / bTot)

/-- The allowances of the tick that begins (R107, R108): the credit computed in the tick before governs it. -/
def State.assignCredit (s : State) : State :=
  let credit := s.pwr.creditNext
  let al := s.allowances credit
  let s := s.set F.PWR_CREDIT (Nat.min credit (2 ^ 32 - 1))
  let hs := s.hoists.map fun h => { h with allow := ((al.find? (·.1 = h.num)).map (·.2)).getD 0, used := 0 }
  { s with hoists := hs, pwr := { s.pwr with tbStop := false } }

/-- The allowance of a hoist that takes effect in the present tick (R108, R196, log 80): its share, among the hoists admitted
now, of the credit that governs the tick; the others keep theirs. -/
def State.grantNew (s : State) (k : Nat) : State :=
  let a := (((s.allowances (s.get F.PWR_CREDIT)).find? (·.1 = k)).map (·.2)).getD 0
  { s with
    hoists := s.hoists.map fun h => if h.num = k then { h with allow := a, used := 0 } else h
    pwr := { s.pwr with admitted := s.pwr.admitted + a } }

/-- A count carried in parts: how many whole units, and the part left. -/
def carry (part n unit : Nat) : Nat × Nat := ((part + n) / unit, (part + n) % unit)

/-- The twelve sensors of a tick (R111, R112): the corrected readings, the failed ones replaced by the highest working
reading plus 5 °C; the highest working reading and its sensor. -/
def State.readSensors (s : State) (m : Meas) : List (Int × Bool) × Option (Int × Nat) :=
  let corrected := (List.range 12).map fun i => (m.temps.getD i 0).toInt + s.pwr.sensorOffs.getD i 0
  let ok (v : Int) : Bool := decide (-880 ≤ v ∧ v ≤ 2400)
  let best := (corrected.zipIdx).foldl (fun (b : Option (Int × Nat)) p =>
    if !ok p.1 then b else match b with
      | none => some p
      | some q => if q.1 < p.1 then some p else b) none
  (corrected.map fun v => if ok v then (v, false) else ((best.map (·.1 + 80)).getD v, true), best)

/-- THERMAL_THROTTLE and TSENSE_FAIL (R111, R112): the sensors' registers and events, Tj, the throttle flag, and cause
THERMAL. With no working sensor the spec states no Tj: a free value (log 22). -/
def State.thermal (s : State) (m : Meas) : State :=
  let (vals, best) := s.readSensors m
  let s := s.each vals.zipIdx fun s p =>
    let was := s.bit (F.PWR_TEMP_FAILED p.2)
    let s := (s.set (F.PWR_TEMP_VALUE p.2) (unsgn 16 p.1.1)).put (F.PWR_TEMP_FAILED p.2) p.1.2
    if p.1.2 ∧ !was then (s.put F.PWR_STICKY_TSENSE_FAIL true).raise { src := 2, code := 1, subject := p.2 } else s
  let (tj, sensor, s) : Int × Nat × State := match best with
    | some p => (p.1, p.2, s)
    | none => let (w, s) := s.draw; (sgn 16 w.toNat, w.toNat / 2 ^ 16 % 12, s)
  let s := (s.set F.PWR_TEMP_MAX_TJ (unsgn 16 tj)).set F.PWR_TEMP_MAX_SENSOR sensor
  let s := if best.isNone then { s with pwr := { s.pwr with allFailed := true } }.pennantCause Cause.thermal else s
  let was := s.bit F.PWR_STATUS_THROTTLE
  let s :=
    if 1600 ≤ tj then
      let s := (s.put F.PWR_STATUS_THROTTLE true).put F.PWR_STICKY_THROTTLE_SEEN true
      if was then s else s.raise { src := 2, code := 0, subject := sensor }
    else if tj < 1568 then s.put F.PWR_STATUS_THROTTLE false else s
  let s := s.tal 2 1 (b2n (s.bit F.PWR_STATUS_THROTTLE))
  let s := if 1760 ≤ tj ∧ best.isSome then s.pennantCause Cause.thermal else s
  if tj < 1600 ∧ best.isSome ∧ !s.pwr.allFailed then s.causeClears Cause.thermal else s

/-- Show P_cap (R107): in whole half watts. -/
def State.showCap (s : State) : State :=
  (s.set F.PWR_CAP_STATUS_PCAP (s.pCap.1 / halfWatt)).set F.PWR_CAP_STATUS_LIMIT s.pCap.2

/-- BUDGET_LOOP (R107): one run, with the measurements of the tick that ended. `admitted` is the sum of the allowances of
that tick. -/
def State.budgetRun (s : State) (m : Meas) : State :=
  let s := (s.set F.PWR_FEED_A_MEAS_MV m.feedAmV.toNat).set F.PWR_FEED_A_MEAS_CA m.feedAcA.toNat
  let s := (s.set F.PWR_FEED_B_MEAS_MV m.feedBmV.toNat).set F.PWR_FEED_B_MEAS_CA m.feedBcA.toNat
  let s := s.thermal m
  let restored := match s.pwr.restoredAt with | some t => decide (t < s.tick) | none => false
  let s := if restored then { s with pwr := { s.pwr with restoredAt := none } }.put F.PWR_STATUS_SINGLE_FEED false else s
  let p := (m.feedAmV.toNat * m.feedAcA.toNat + m.feedBmV.toNat * m.feedBcA.toNat) * 10000
  let base := p - s.pwr.admitted * s.cfg F.PWR_SLOT_ENERGY * 8
  let credit := s.creditFrom base
  let short := decide (credit < s.shortLine)
  let (mj, ePart) := carry s.pwr.energyPart p 8000000000
  let (ks, sPart) := carry s.pwr.slotPart s.pwr.admitted 1024
  let s := { s with pwr := { s.pwr with
    base := base, creditNext := credit, energyPart := ePart, slotPart := sPart,
    shortRuns := if short then s.pwr.shortRuns + 1 else 0, notShort := if short then 0 else s.pwr.notShort + 1 } }
  let s := ((s.tal 2 3 mj).tal 2 2 ks).tal 2 0 (b2n short)
  (if short then s.put F.PWR_STICKY_CREDIT_SHORT true else s).showCap

/-- The budget's part of a tick boundary: the run over the tick that ended, then the allowances of the tick that begins,
from the credit of the run before (R107, R108). -/
def State.budget (s : State) (m : Meas) : State :=
  let governing := s.pwr.creditNext
  let s := s.budgetRun m
  let next := s.pwr.creditNext
  let s := { s with pwr := { s.pwr with creditNext := governing } }.assignCredit
  { s with pwr := { s.pwr with creditNext := next, admitted := sumL (s.hoists.map (·.allow)) } }

/-- CREDIT_SHORT_EXPIRY (R109): four consecutive short runs. -/
def execCreditShortExpiry (s : State) : Host.Outcome State Fault Refusal :=
  settle s (if 4 ≤ s.pwr.shortRuns then s.pennantCause Cause.credit else s)

/-- CREDIT_CAUSE_CLEAR (R113): 64 consecutive ticks without short credit. -/
def execCreditCauseClear (s : State) : Host.Outcome State Fault Refusal :=
  settle s (if 64 ≤ s.pwr.notShort then s.causeClears Cause.credit else s)

/-! ## Feeds and supervisors (R94 to R102) -/

/-- FEED_RESTORED (R96, R99, R101, R500): a feed that waits for no retry is connected; once the supervisors run, the cap's
return is due, and the feed's supervisor waits for its reload. -/
def execFeedRestored (f : Feed) (s : State) : Host.Outcome State Fault Refusal :=
  settle s (
    let ok := match f with | .a => F.PWR_STATUS_FEED_A_OK | .b => F.PWR_STATUS_FEED_B_OK
    let opened : Bool := match f with | .a => s.pwr.ocA | .b => s.pwr.ocB
    if s.bit ok ∨ opened then s else
    let s := s.put ok true
    if !s.boot.supDone then s else
    let s := s.raise { src := 0, code := 1, subject := match f with | .a => 0 | .b => 1 }
    let mine : Nat := match f with | .a => 1 | .b => 0
    let reload := decide (s.get F.PWR_STATUS_SUP_ACTIVE = mine) && !s.pwr.supHeld && !s.bit F.PWR_STATUS_SUP_DUAL
    { s with pwr := { s.pwr with restoredAt := some s.tick, supReload := s.pwr.supReload || reload } })

/-- `RETRY_x` (R96). -/
def State.feedRetryWrite (s : State) (act : Nat) : State :=
  { s with pwr := { s.pwr with ocA := s.pwr.ocA && !bitOf act 0, ocB := s.pwr.ocB && !bitOf act 1 } }

/-- The standby becomes active (R101). -/
def State.supSwitch (s : State) : State :=
  let s := s.set F.PWR_STATUS_SUP_ACTIVE (1 - s.get F.PWR_STATUS_SUP_ACTIVE)
  ((s.put F.PWR_STATUS_SUP_DUAL false).put F.PWR_STICKY_SUP_SWITCHED true).raise { src := 1, code := 0 }

/-- Whether the present moment is a super-tick boundary's tick (R10). -/
def State.superTick (s : State) : Bool := s.ftcState ≠ Ftc.disabled && s.tick % 16 = 0

/-- SUPERVISOR_RELOAD (R101): at the reload boundary the standby is in step again. -/
def execSupervisorReload (s : State) : Host.Outcome State Fault Refusal :=
  settle s (
    if s.pwr.supReload ∧ !s.pwr.supHeld ∧ (s.superTick ∨ s.ftcState = Ftc.disabled) then
      { s with pwr := { s.pwr with supReload := false } }.put F.PWR_STATUS_SUP_DUAL true
    else s)

/-- SUPERVISOR_MISMATCH (R102): the supervisors' outputs differ while both feeds are good; the table of R102 decides. -/
def execSupervisorMismatch (activeOk standbyOk : Bool) (s : State) : Host.Outcome State Fault Refusal :=
  settle s (
    if !s.bit F.PWR_STATUS_FEED_A_OK ∨ !s.bit F.PWR_STATUS_FEED_B_OK ∨ !s.bit F.PWR_STATUS_SUP_DUAL then s else
    let s := ((s.put F.PWR_STICKY_SUP_MISMATCH true).tal 0 2 1).raise { src := 1, code := 1 }
    match activeOk, standbyOk with
    | true, true => { s with pwr := { s.pwr with supReload := true } }.put F.PWR_STATUS_SUP_DUAL false
    | true, false => { s with pwr := { s.pwr with supHeld := true } }.put F.PWR_STATUS_SUP_DUAL false
    | false, true => { s with pwr := { s.pwr with supHeld := true } }.supSwitch
    | false, false => (s.put F.PWR_PENNANT_STATUS_SUP_PARITY true).pennantCause Cause.parity)

/-! ## Keeper set, aging, calibration page (R106, R118, R121 to R123) -/

/-- Whether a write to `PWR_KEEPER_SET` is rejected (R106): a tile that leaves holds an S hoist or is a Pennant placement. -/
def State.keeperReject (s : State) (v : Nat) : Bool :=
  (List.range 8).any fun t => bitOf s.pwr.keepers t && !bitOf v t &&
    s.hoists.any fun h => (h.cls = 0 && h.num / 192 = t) || h.pennantAt.any (fun p => p / 192 = t)

/-- AGING_MEASURE (R118): the slowdown of each tile's slowest oscillator, and the warning past the threshold. -/
def execAgingMeasure (slow : List (BitVec 20)) (s : State) : Host.Outcome State Fault Refusal :=
  settle s (s.each (List.range 8) fun s t =>
    let v := (slow.getD t 0).toNat
    let s := s.set (F.PWR_AGE t) v
    if s.cfg F.PWR_AGE_WARN < v then
      (s.put F.PWR_STICKY_AGING_WARN true).raise { src := 4, code := 0, subject := t }
    else s)

/-- The bytes of the staging window (R127). -/
def State.calStaged (s : State) : List Byte := (List.range 1024).flatMap fun i => leBytes 4 (s.get (F.CAL_STAGE i))
/-- Whether a page's check value is right (R121). -/
def pageCrcGood (bs : List Byte) : Bool := crc32 (bs.take 0xFFC) = leNat (bs.drop 0xFFC)

/-- A write to `CAL_CTRL` (R123): `KEY` alone arms; `PROGRAM` starts programming or is refused. -/
def State.calCtrlWrite (s : State) (act : Nat) : State :=
  let armed := s.pwr.keyArmed
  let arm (b : Bool) (s : State) : State := { s with pwr := { s.pwr with keyArmed := b } }
  if !bitOf act 16 then arm (bitsOf act 0 16 = 0x5AFE) s else
  let s := (arm false s).tal 6 2 1
  if !armed ∨ 1000 ≤ s.get F.CAL_WRITES ∨ s.bit F.CAL_STATUS_BUSY ∨ !pageCrcGood s.calStaged then
    (s.set F.CAL_STATUS_RESULT 2).tal 6 3 1
  else s.put F.CAL_STATUS_BUSY true

/-- CAL_PROGRAM_DONE (R123): the page is the staged one; or programming failed and what the page holds is not stated: free
words (log 23). -/
def execCalProgramDone (ok : Bool) (s : State) : Host.Outcome State Fault Refusal :=
  settle s (
    if !s.bit F.CAL_STATUS_BUSY then s else
    let s := (s.put F.CAL_STATUS_BUSY false).inc F.CAL_WRITES 1
    if ok then (s.wr Sp.mtp 0 s.calStaged).set F.CAL_STATUS_RESULT 1
    else (s.each (List.range 512) fun s i => let (w, s) := s.draw; s.wrLE Sp.mtp (8 * i) 8 w.toNat).set F.CAL_STATUS_RESULT 3)

/-! ## Pennant Mode commands (R113, R117) -/

/-- A write to `PWR_PENNANT_CTRL` (R113, R117): `ENTER` gives cause COMMAND; `EXIT` is accepted with no active cause. -/
def State.pennantCtrlWrite (s : State) (act : Nat) : State :=
  let s := if bitOf act 0 then s.pennantCause Cause.command else s
  if !bitOf act 1 then s
  else if !s.bit F.PWR_STATUS_PENNANT ∧ !s.bit F.PWR_STATUS_PENNANT_PENDING then s
  else if s.pwr.exitAccepted then s
  else if s.get F.PWR_PENNANT_STATUS_ACTIVE_CAUSES ≠ 0 then s.put F.PWR_PENNANT_STATUS_EXIT_REJECTED true
  else
    let s := { s with pwr := { s.pwr with exitAccepted := true } }
    let gated := (List.range 162).filter fun n => s.bit (F.PWR_DOM_STATUS_PENNANT_GATED n)
    s.each gated fun s n => s.setDom n Dom.powering

/-- Domains that Pennant Mode gates (R115). -/
def State.pennantGates (s : State) : List Nat :=
  let keeper (n : Nat) : Bool := n % 12 = 0 && bitOf s.pwr.keepers (n / 12)
  ((List.range 96).filter (fun n => !keeper n) ++ ((List.range 16).map (96 + ·)).filter (fun n =>
      !bitOf s.pwr.keepers ((n - 96) % 8)) ++ [160, 151]).filter fun n =>
    !s.keepEff n && s.domWorks n

end Sys2Proof.Machine
end

