-- ==== Sys2Proof/Machine/Check.lean ====
section
/-! DEFINITION. The check units (chapter 12): the computation of R363, the bodies of R364, the modes of R365, the digest ring,
and the unit's registers. -/

namespace Sys2Proof.Machine

/-- Modes of a unit (R365). -/
def Mode.program : Nat := 0
def Mode.snoopPkt : Nat := 1
def Mode.snoopTick : Nat := 2
def Mode.digest : Nat := 3
def Mode.recorder : Nat := 4

/-- One bit enters a unit of width `w` (R363). -/
def crcBit (w poly r : Nat) (b : Bool) : Nat :=
  let top := (bitOf r (w - 1)) != b
  let r := (r * 2) % 2 ^ w
  if top then r ^^^ poly else r
/-- Bits enter in list order. -/
def crcBits (w poly r : Nat) (bs : List Bool) : Nat := bs.foldl (crcBit w poly) r
/-- The bits of an `n`-bit value, most significant first. -/
def bitsMsb (n v : Nat) : List Bool := ((List.range n).map fun i => bitOf v i).reverse
/-- The bits of a byte in the order of `REFIN` (R363). -/
def byteBits (refin : Bool) (b : Nat) : List Bool := if refin then (List.range 8).map (bitOf b) else bitsMsb 8 b

/-- The parameters of a unit as its configuration gives them (R363). -/
def State.ckWidth (s : State) (n : Nat) : Nat := s.cfg (F.CK_CFG_WIDTH n) + 1
def State.ckRun (s : State) (n : Nat) : Nat := s.get (F.CK_RUN n)
def State.ckSetRun (s : State) (n v : Nat) : State := s.set (F.CK_RUN n) (v % 2 ^ s.ckWidth n)
/-- A byte enters unit `n` (R363). -/
def State.ckByte (s : State) (n b : Nat) : State :=
  s.ckSetRun n (crcBits (s.ckWidth n) (s.cfg (F.CK_POLY n)) (s.ckRun n) (byteBits (s.on (F.CK_CFG_REFIN n)) b))
/-- Bytes enter in order. -/
def State.ckBytes (s : State) (n : Nat) (bs : List Nat) : State := s.each bs fun s b => s.ckByte n b
/-- The final value formed from r, without changing it (R363). -/
def State.ckFinal (s : State) (n : Nat) : Nat :=
  let w := s.ckWidth n
  let r := s.ckRun n
  ((if s.on (F.CK_CFG_REFOUT n) then revBits w r else r) ^^^ s.cfg (F.CK_XOR n)) % 2 ^ w

/-- The record of unit `n`. -/
def State.cku (s : State) (n : Nat) : Cku := (s.ckus.find? (·.num = n)).getD { num := n }
/-- Change the record of unit `n`. -/
def State.modCku (s : State) (n : Nat) (f : Cku → Cku) : State :=
  { s with ckus := f (s.cku n) :: s.ckus.filter (·.num ≠ n) }

/-- Reset of a body (R364, R375). -/
def State.ckReset (s : State) (n : Nat) : State :=
  let start := if s.cfg (F.CK_CFG_MODE n) = Mode.recorder ∧ s.on (F.CK_CFG_CHAIN n)
    then (s.cku n).chain.getD (s.cfg (F.CK_INIT n)) else s.cfg (F.CK_INIT n)
  let s := (s.ckSetRun n start).set (F.CK_STATUS_PHASE n) 0
  s.modCku n fun c => { c with held := [], bytes := 0, failed := false }
/-- The bytes of a fold word, most significant first (R364). -/
def foldBytes (foldw v : Nat) : List Nat :=
  if foldw = 0 then [] else ((List.range (foldw + 1)).map fun i => bitsOf v (8 * i) 8).reverse
/-- A fold word enters (R364). -/
def State.ckFold (s : State) (n v : Nat) : State := s.ckBytes n (foldBytes (s.cfg (F.CK_CFG_FOLDW n)) v)
/-- Whether a unit's mode takes its fold words from the registers (R364, `PRE_MODE` of `CKn_CFG`): the snooping modes. -/
def State.ckFolds (s : State) (n : Nat) : Bool := let m := s.cfg (F.CK_CFG_MODE n); m = 1 || m = 2
/-- The prefix fold of a mode that takes it from the registers (R364). -/
def State.ckPre (s : State) (n : Nat) : State :=
  if s.ckFolds n && s.on (F.CK_CFG_PRE_MODE n) then s.ckFold n (s.cfg (F.CK_FOLD_PRE n)) else s
/-- The suffix fold of a mode that takes it from the registers (R364). -/
def State.ckSuf (s : State) (n : Nat) : State :=
  if s.ckFolds n && s.on (F.CK_CFG_SUF_MODE n) then s.ckFold n (s.cfg (F.CK_FOLD_SUF n)) else s

/-- The bytes of a word, bits [63:56] first. -/
def wordBytes (d : Word) : List Nat := ((List.range 8).map fun i => bitsOf d.toNat (8 * i) 8).reverse
/-- Valid bytes of a word (R337). -/
def validCount (tag : BitVec 5) : Nat := if tag.toNat % 8 = 0 then 8 else tag.toNat % 8
/-- `START` and `END` of a word's tags (R337). -/
def tagStart (t : BitVec 5) : Bool := bitOf t.toNat 4
def tagEnd (t : BitVec 5) : Bool := bitOf t.toNat 3
/-- Whether a word is an end-of-tick marker (R338). -/
def isMarker (t : BitVec 5) : Bool := t.toNat = 0x18

/-- A bad packet (R370). -/
def State.ckBad (s : State) (n : Nat) (short : Bool) : State :=
  let s := ((s.inc (F.CK_BAD n) 1).put (F.CK_STICKY_BAD_SEEN n) true).tal 19 1 1
  let s := if short then s.put (F.CK_STICKY_SHORT_PKT n) true else s
  if s.on (F.CK_CFG_EVT_EN n) then s.gather { src := 640 + n / 4, code := 0, subject := n } else s

/-- A byte of an open packet, of which the last w / 8 are held back (R370). -/
def State.ckPktByte (s : State) (n b : Nat) : State :=
  let c := s.cku n
  let held := c.held ++ [BitVec.ofNat 8 b]
  if held.length ≤ s.ckWidth n / 8 then s.modCku n fun c => { c with held := held, bytes := c.bytes + 1 }
  else
    let s := s.modCku n fun c => { c with held := held.drop 1, bytes := c.bytes + 1 }
    s.ckByte n (held.headD 0).toNat

/-- The close of a snooped packet (R370, SNOOP_PACKET_CLOSE). -/
def State.ckPktClose (s : State) (n : Nat) : State :=
  let s := s.ckSuf n
  let v := s.ckFinal n
  let c := s.cku n
  let k := s.ckWidth n / 8
  let field := if s.on (F.CK_CFG_REFOUT n) then leNat c.held else leNat c.held.reverse
  let s := ((s.set (F.CK_RESULT n) v).put (F.CK_STATUS_OPEN n) false).tal 19 0 1
  if c.bytes < k + 1 then s.ckBad n true
  else if field = v ∧ !c.failed then s.inc (F.CK_GOOD n) 1
  else s.ckBad n false

/-- A word of the stream of a SNOOP_PKT unit (R367, R370). -/
def State.ckSnoopPkt (s : State) (n : Nat) (w : TWord) : State :=
  let s :=
    if !tagStart w.tag then s else
    let s := if s.bit (F.CK_STATUS_OPEN n) then s.ckBad n true else s
    ((s.ckReset n).ckPre n).put (F.CK_STATUS_OPEN n) true
  if !s.bit (F.CK_STATUS_OPEN n) then s else
  let s := s.each ((wordBytes w.data).take (validCount w.tag)) fun s b => s.ckPktByte n b
  if tagEnd w.tag then s.ckPktClose n else s

/-- The tag byte of R367. -/
def tagByte (t : BitVec 5) : Nat := t.toNat
/-- All 64 bits of an included word, and its tags where `TAG_IN` is 1 (R367). -/
def State.ckWord (s : State) (n : Nat) (w : TWord) : State :=
  let s := s.ckBytes n (wordBytes w.data)
  if s.on (F.CK_CFG_TAG_IN n) then s.ckByte n (tagByte w.tag) else s

/-- An entry of the digest ring (R373), and its offer to pair agreement. -/
def State.ckEntry (s : State) (n tick : Nat) (incomplete : Bool) : State :=
  let e := tick % 16
  let s := s.ckSuf n
  let v := s.ckFinal n
  let failed := (s.cku n).failed
  let s := ((s.set (F.CK_DIG n e) v).set (F.CK_DIG_TICK n e) (tick % 2 ^ 32)).put (F.CK_DIG_FLAGS_VALID n e) true
  let s := ((s.put (F.CK_DIG_FLAGS_INCOMPLETE n e) incomplete).put (F.CK_DIG_FLAGS_PARITY n e) failed).tal 19 0 1
  let s :=
    if !incomplete then s else
    let seen := s.bit (F.CK_STICKY_INC_SEEN n)
    let s := (s.put (F.CK_STICKY_INC_SEEN n) true).tal 19 2 1
    if seen ∨ !s.on (F.CK_CFG_EVT_EN n) then s else s.raise { src := 640 + n / 4, code := 1, subject := n }
  let s := if s.on (F.CK_CFG_PAIR n) ∧ n < 256
    then { s with offered := ⟨Fin.ofNat 256 n, tick, BitVec.ofNat 64 v, incomplete || failed⟩ :: s.offered } else s
  (s.ckReset n).ckPre n

/-- The ticks before `stamp` that are still open in a SNOOP_TICK unit close without their markers (R371): the words since the
last close are the body of the first of them, the others have none. -/
def State.ckCloseEarlier (s : State) (n stamp : Nat) : State :=
  if (s.cku n).tick < stamp then
    let t0 := (s.cku n).tick
    let s := s.each (List.range (stamp - t0)) fun s i => s.ckEntry n (t0 + i) true
    (s.put (F.CK_STATUS_OPEN n) false).modCku n fun c => { c with tick := stamp }
  else s

/-- A word of the stream of a SNOOP_TICK unit, stamped `stamp` (R371). -/
def State.ckSnoopTick (s : State) (n stamp : Nat) (w : TWord) (included : Bool) : State :=
  let s := s.ckCloseEarlier n stamp
  if included then (s.ckWord n w).put (F.CK_STATUS_OPEN n) true else s

/-- The units that are enabled in a mode and name a target, in number order. -/
def State.ckBound (s : State) (mode target : Nat) : List Nat :=
  (s.ckus.map (·.num)).filter fun n =>
    s.on (F.CK_CFG_ENABLE n) && s.cfg (F.CK_CFG_MODE n) = mode && s.cfg (F.CK_BIND_TARGET n) = target

/-- A beat's word passes the units that snoop its stream (R366, R367). -/
def State.ckSnoop (s : State) (sid stamp : Nat) (w : TWord) : State :=
  let inc (s : State) (n : Nat) : Bool :=
    ((w.tag.toNat ^^^ s.cfg (F.CK_FILT_TMATCH n)) &&& s.cfg (F.CK_FILT_TMASK n)) = 0 && !isMarker w.tag
  let s := s.each (s.ckBound Mode.snoopPkt sid) fun s n => if inc s n then s.ckSnoopPkt n w else s
  s.each (s.ckBound Mode.snoopTick sid) fun s n => s.ckSnoopTick n stamp w (inc s n)

/-- A tick-close marker for tick `t` passes the SNOOP_TICK units of its stream (R371); it is a word later than the ticks before
`t` (log 81). -/
def State.ckCloseTick (s : State) (sid t : Nat) : State :=
  s.each (s.ckBound Mode.snoopTick sid) fun s n =>
    let s := s.ckCloseEarlier n t
    if (s.cku n).tick = t then ((s.ckEntry n t false).put (F.CK_STATUS_OPEN n) false).modCku n fun c => { c with tick := t + 1 }
    else s

/-- A word accepted by a queue enters its DIGEST unit, and a marker closes the body (R366, R372, DIGEST_CLOSE). -/
def State.ckDigest (s : State) (q : Nat) (w : TWord) : State :=
  s.each (s.ckBound Mode.digest q) fun s n =>
    let s := (s.ckWord n w).put (F.CK_STATUS_OPEN n) true
    if isMarker w.tag then (s.ckEntry n (bitsOf w.data.toNat 0 51) false).put (F.CK_STATUS_OPEN n) false else s

/-- A flush of a queue resets its DIGEST unit (R372). -/
def State.ckFlush (s : State) (q : Nat) : State := s.each (s.ckBound Mode.digest q) fun s n => (s.ckReset n).ckPre n

/-- Whether an enable of unit `n` is refused (R362), its configuration as stored. -/
def State.ckEnableRefused (s : State) (n : Nat) : Bool :=
  let mode := s.listed (F.CK_CFG_MODE n)
  let w := s.get (F.CK_CFG_WIDTH n) + 1
  let tooWide (f : Fld) : Bool := s.get f / 2 ^ w ≠ 0
  s.get (F.PWR_DOM_STATUS_STATE (156 + n / 64)) ≠ Dom.on || decide (4 < mode)
    || tooWide (F.CK_POLY n) || tooWide (F.CK_INIT n) || tooWide (F.CK_XOR n)
    || (mode = Mode.snoopPkt && w % 8 ≠ 0)
    || (mode = Mode.digest && (s.ckBound Mode.digest (s.get (F.CK_BIND_TARGET n))).any (· ≠ n))

/-- The number of enabled units (R381). -/
def State.ckCount (s : State) : State :=
  s.set F.CKU_EN_COUNT ((s.ckus.map (·.num)).filter fun n => s.on (F.CK_CFG_ENABLE n)).length

/-- A unit has been enabled: its record, an empty body, and the first reset loads `INIT` (R364, R375). -/
def State.ckEnabled (s : State) (n : Nat) : State :=
  let s := s.modCku n fun c => { c with chain := none, held := [], bytes := 0, failed := false, tick := s.tick }
  let s := (s.ckReset n).put (F.CK_STATUS_OPEN n) false
  let m := s.cfg (F.CK_CFG_MODE n)
  (if m = Mode.snoopTick ∨ m = Mode.digest then s.ckPre n else s).ckCount

/-- Whether a disable of unit `n` is refused (R374): it is the unit of a twin channel in a loaded hoist. -/
def State.ckDisableRefused (s : State) (n : Nat) : Bool :=
  s.hoists.any fun h => h.members.any fun c => s.chCku c = some n && (s.chTwin c).isSome

/-- A unit has been disabled (R378): its open body is discarded, the ring is kept. -/
def State.ckDisabled (s : State) (n : Nat) : State :=
  ((s.put (F.CK_STATUS_OPEN n) false).modCku n fun c => { c with held := [], bytes := 0, failed := false }).ckCount

/-- Whether a write to `RUN` is refused (R376): enabled, and not in PROGRAM mode. -/
def State.ckRunRefused (s : State) (n : Nat) : Bool :=
  s.on (F.CK_CFG_ENABLE n) && s.cfg (F.CK_CFG_MODE n) ≠ Mode.program
/-- A write to `RUN_LO` is held (R376). -/
def State.ckRunLo (s : State) (n v : Nat) : State := s.modCku n fun c => { c with runLo := some v }
/-- A write to `RUN_HI` loads r (R376). -/
def State.ckRunHi (s : State) (n v : Nat) : State :=
  let lo := (s.cku n).runLo.getD (s.ckRun n % 2 ^ 32)
  let s := (s.ckSetRun n (v * 2 ^ 32 + lo)).modCku n fun c => { c with runLo := none }
  if s.cfg (F.CK_CFG_MODE n) = Mode.program then s.set (F.CK_STATUS_PHASE n) 2 else s
/-- `SWAP_CTRL.GO` (R377): the exchange, in the next cycle of the unit. -/
def State.ckSwap (s : State) (n : Nat) : State :=
  let old := s.ckRun n
  (((s.ckSetRun n (s.get (F.CK_SWAP n))).set (F.CK_SWAP n) old).put (F.CK_STICKY_SWAP_DONE n) true).put
    (F.CK_STATUS_SWAP_PENDING n) false

end Sys2Proof.Machine
end

