-- ==== Sys2Proof/Machine/Queues.lean ====
section
/-! DEFINITION. The queues (chapter 11): words, capacity, pushes and pops, gates, notices, watermarks, flushes, the loss of a
middle, and the queue window's registers. -/

namespace Sys2Proof.Machine

/-- Values of `QUE_W_CFG.READER` (R345). -/
def Reader.program : Nat := 0
def Reader.release : Nat := 1
def Reader.recorder : Nat := 2

/-- The record of an enabled queue. -/
def State.queue (s : State) (q : Nat) : Option Queue := s.queues.find? (·.num = q)
/-- Change the record of an enabled queue. -/
def State.modQueue (s : State) (q : Nat) (f : Queue → Queue) : State :=
  { s with queues := s.queues.map fun e => if e.num = q then f e else e }
/-- Depth of a queue: a disabled queue holds nothing. -/
def State.depth (s : State) (q : Nat) : Nat := match s.queue q with | some e => e.words.length | none => 0
/-- Words per line of a middle (R341). -/
def State.perLine (s : State) (q : Nat) : Nat := if s.on (F.QUE_W_CFG_SPILL q) then 7 else 8
/-- Capacity of a queue in words (R341), 16 while its middle is lost (R359). -/
def State.capacity (s : State) (q : Nat) : Nat :=
  if s.bit (F.QUE_W_STATUS_MID_LOST q) then 16 else 16 + s.perLine q * s.cfg (F.QUE_W_MIDSIZE q)
/-- Class of a queue. -/
def State.queClass (s : State) (q : Nat) : Nat := s.cfg (F.QUE_W_CFG_CLASS q)
/-- The substitute word in force (R350). -/
def State.substWord (s : State) (q : Nat) : Word := BitVec.ofNat 64 (s.cfg (F.QUE_W_SUBST q))

/-- Raise an event of a queue (R353). -/
def State.queEvent (s : State) (q code : Nat) : State :=
  s.raise { src := 512 + q / 256, code := code, cls := some (s.queClass q), subject := q }

/-- The `OVERRUN` bit of a queue, one stored bit seen in both registers (R361). -/
def State.setOverrun (s : State) (q : Nat) (b : Bool) : State :=
  let f := F.QUE_OVERRUN (q / 32)
  (s.put (F.QUE_W_STICKY_OVERRUN q) b).set f (putBits (s.get f) (q % 32) 1 (b2n b))
/-- The queue's bit of `QUE_WMk`: the OR of its two watermark bits (R357). -/
def State.showWm (s : State) (q : Nat) : State :=
  let f := F.QUE_WM (q / 32)
  let b := s.bit (F.QUE_W_STICKY_HI_SEEN q) || s.bit (F.QUE_W_STICKY_LO_SEEN q)
  s.set f (putBits (s.get f) (q % 32) 1 (b2n b))

/-- The watermark crossings of a change of depth (R356). -/
def State.crossings (s : State) (q d0 d1 : Nat) : State :=
  let hi := s.cfg (F.QUE_W_WM_HI q)
  let lo := s.cfg (F.QUE_W_WM_LO q)
  let up := decide (d0 ≤ hi ∧ hi < d1)
  let down := decide (lo ≤ d0 ∧ d1 < lo)
  let newUp := up && !s.bit (F.QUE_W_STICKY_HI_SEEN q)
  let newDown := down && !s.bit (F.QUE_W_STICKY_LO_SEEN q)
  let s := if up then (s.put (F.QUE_W_STICKY_HI_SEEN q) true).incSat (F.QUE_W_STICKY_HI_COUNT q) else s
  let s := if down then (s.put (F.QUE_W_STICKY_LO_SEEN q) true).incSat (F.QUE_W_STICKY_LO_COUNT q) else s
  let s := if up || down then s.showWm q else s
  if newUp || newDown then s.queEvent q 1 else s

/-- The live registers of a queue after a change of its words (R361). -/
def State.showQueue (s : State) (q : Nat) : State :=
  let d := s.depth q
  let s := (s.set (F.QUE_W_DEPTH q) d).put (F.QUE_W_STATUS_EMPTY q) (d = 0)
  let s := s.put (F.QUE_W_STATUS_FULL q) (d = s.capacity q)
  (s.put (F.QUE_W_STATUS_ABOVE_HI q) (decide (s.cfg (F.QUE_W_WM_HI q) < d))).put
    (F.QUE_W_STATUS_BELOW_LO q) (decide (d < s.cfg (F.QUE_W_WM_LO q)))

/-- Replace the words of a queue, with the crossings and registers that follow. -/
def State.setWords (s : State) (q : Nat) (ws : List QWord) : State :=
  let d0 := s.depth q
  ((s.modQueue q fun e => { e with words := ws }).crossings q d0 ws.length).showQueue q

/-- Whether channel `c` of hoist `h` reads queue `q` in some slot (R40): in `in`, or in an aux slot whose queue it does not
write. -/
def State.readsQueue (s : State) (h : Hoist) (c q : Nat) : Bool :=
  let mine := s.on (F.QUE_W_CFG_WRITER q) && s.cfg (F.QUE_W_HOIST_W_HOIST q) = h.num
  s.chQueue c 0 = some q || (!mine && (s.chQueue c 2 = some q || s.chQueue c 3 = some q))

/-- The channels that read a queue. -/
def State.readersOf (s : State) (q : Nat) : List Nat :=
  s.hoists.flatMap fun h => h.members.filter fun c => s.readsQueue h c q

/-- A refused push (R348) of a word that would have carried arrival tick `arr`, and its readers' INGRESS breaches (R40). -/
def State.refusePush (s : State) (q arr : Nat) : State :=
  let was := s.bit (F.QUE_W_STICKY_OVERRUN q)
  let s := ((s.setOverrun q true).inc (F.QUE_W_OVR_COUNT q) 1).tal 18 2 1
  let s := if was then s else s.queEvent q 2
  s.each (s.readersOf q) fun s c => s.breach c arr 0

/-- Whether a push of a word is refused as full (R348, R349). -/
def State.pushRefused (s : State) (q : Nat) (marker : Bool) : Bool :=
  let d := s.depth q
  let cap := s.capacity q
  decide (cap ≤ d) || (!marker && s.cfg (F.QUE_W_CFG_READER q) = Reader.release && decide (cap - 1 ≤ d))

/-- The flush point of a queue is reached: the words now held are those before it (R354). -/
def State.markFlush (s : State) (q : Nat) : State :=
  s.modQueue q fun e => { e with flush := none, flushWords := some e.words.length }

/-- Whether a word accepted by a queue is the flush point's word, which stays (R354): the first word, or packet start, stamped
after the tick of the request. -/
def flushBefore (e : Queue) (pkt stream : Bool) (arr : Nat) : Bool :=
  match e.flush with
  | none => false
  | some t => stream && decide (t < arr) && (!pkt || !e.open_)

/-- QUEUE_PUSH (R348, R352, R356): one word is pushed with its arrival tick; the answer says whether it was accepted. -/
def State.push (s : State) (q : Nat) (w : TWord) (arr : Nat) : Bool × State :=
  match s.queue q with
  | none => (false, s)
  | some e =>
    let marker := isMarker w.tag
    let pkt := s.on (F.QUE_W_CFG_PKT q)
    let stream := !s.on (F.QUE_W_CFG_WRITER q)
    if s.pushRefused q marker then (false, s.refusePush q arr) else
    let s := if flushBefore e pkt stream arr then s.markFlush q else s
    let e := (s.queue q).getD e
    let s := s.setWords q (e.words ++ [{ data := w.data, tag := w.tag, arr := arr }])
    let s := (s.ckDigest q w).tal 18 0 1
    let isEnd := tagEnd w.tag && !marker
    let s := s.modQueue q fun e => { e with
      open_ := if marker then e.open_ else if isEnd then false else if tagStart w.tag then true else e.open_ }
    let s := if isEnd && s.on (F.QUE_W_CFG_NOTICE_EN q) then (s.inc (F.QUE_W_NOTICES q) 1).queEvent q 0 else s
    -- the end word of the open packet is the flush point of a packetised queue, once a stream has reached the next tick
    let due := match e.flush with | none => false | some t => !stream || decide (t < arr)
    (true, if isEnd && pkt && due then s.markFlush q else s)

/-- Take the head word off a queue; the words before a reached flush point are one fewer. -/
def State.dropHead (s : State) (q : Nat) : State :=
  match s.queue q with
  | none => s
  | some e =>
    let s := (s.setWords q e.words.tail).tal 18 1 1
    s.modQueue q fun e => { e with bit := 0, flushWords := e.flushWords.map (· - 1) }

/-- QUEUE_ECC_ERROR (R358): the code check of the head word finds a corrected or an uncorrectable error. -/
def State.queueError (s : State) (q : Nat) (uncorrectable : Bool) : State :=
  if !uncorrectable then s.incSat (F.QUE_ECC_CORR (q / 256)) else
  let first := !s.bit F.QUE_STICKY_UE_PENDING
  let s := (s.put (F.QUE_W_STICKY_POISON q) true).inc F.QUE_UE_COUNT 1
  let s := if first then s.set F.QUE_UE_FIRST q else s
  let s := s.put F.QUE_STICKY_UE_PENDING true
  (s.modQueue q fun e => { e with words := match e.words with
    | [] => []
    | w :: r => { w with poison := true } :: r }).queEvent q 3

/-! ## Gates -/

/-- Advance the gate of a queue to `g`, on a marker or without one (R28, R30). -/
def State.setGate (s : State) (q g : Nat) (incomplete : Bool) : State :=
  let s := s.modQueue q fun e => { e with
    gate := some g, incomplete := if incomplete then ((g - 1) :: e.incomplete).take 64 else e.incomplete }
  let s := (s.set (F.QUE_W_GATE q) (g % 2 ^ 32)).put (F.QUE_W_STATUS_INGRESS_INC q) incomplete
  if incomplete then s.put (F.QUE_W_STICKY_INC_SEEN q) true else s

/-- The close of work tick `w` on a program-written queue (R205): its gate advances past `w`, and it is the flush point of an
unpacketised queue (R354). -/
def State.closeQueue (s : State) (q w : Nat) : State :=
  match s.queue q with
  | none => s
  | some e =>
    let s := if e.gate = some w then s.setGate q (w + 1) false else s
    if e.flush.isSome ∧ !s.on (F.QUE_W_CFG_PKT q) then s.markFlush q else s

/-- A program-written queue's writer begins work tick `w`: the gate of a queue not yet started starts there (R347). -/
def State.startGates (s : State) (h w : Nat) : State :=
  let mine := s.queues.filter fun e => e.gate.isNone && s.on (F.QUE_W_CFG_WRITER e.num)
    && s.cfg (F.QUE_W_HOIST_W_HOIST e.num) = h
  s.each mine fun s e => (s.modQueue e.num fun e => { e with gate := some w }).set (F.QUE_W_GATE e.num) (w % 2 ^ 32)

/-- A tick-close marker for tick `t` reaches the queues of a stream (R28): each queue whose gate stands at `t` or lower, with
the marker of its gate tick sent, advances by one. -/
def State.markerArrives (s : State) (sid t : Nat) : State :=
  let mine := s.queues.filter fun e => !s.on (F.QUE_W_CFG_WRITER e.num) && s.cfg (F.QUE_W_CFG_SID e.num) = sid
  s.each mine fun s e => match e.gate with
    | some g => if g ≤ t then s.setGate e.num (g + 1) false else s
    | none => s

/-- The first work tick that a queue's writer has begun, and its release latency, for a ticked writer (R30). -/
def State.ticked (s : State) (q : Nat) : Option Nat :=
  match s.hoist (s.cfg (F.QUE_W_HOIST_W_HOIST q)) with
  | some h => if h.cls < 3 then some h.lat else none
  | none => none

/-! ## Enabling, flushing, the loss of a middle -/

/-- Sinks of a stream (R17): the enabled queues that it writes, and the classifier where it reads it (R325). -/
def State.sinks (s : State) (sid : Nat) : Nat :=
  (s.queues.filter fun e => !s.on (F.QUE_W_CFG_WRITER e.num) && s.cfg (F.QUE_W_CFG_SID e.num) = sid).length
    + b2n (s.on F.MAP_CTRL_ENABLE && s.cfg F.MAP_PW_CLASS_SID = sid && sid ≠ 0)

/-- The lines of a queue's region (R342). -/
def State.regionLines (s : State) (q : Nat) : Nat :=
  if s.get (F.QUE_W_CFG_SPILL q) = 0 then s.listed F.QUE_MID_LINES
  else if s.get (F.QUE_W_CFG_DDR q) = 0 then s.listed F.QUE_SPILL0_LINES else s.listed F.QUE_SPILL1_LINES
/-- The region of a queue's middle: 0 mid pool, 1 and 2 the spill regions. -/
def State.regionOf (s : State) (q : Nat) : Nat :=
  if s.get (F.QUE_W_CFG_SPILL q) = 0 then 0 else 1 + s.get (F.QUE_W_CFG_DDR q)
/-- Whether the middles of two queues overlap (R346). -/
def State.middlesMeet (s : State) (p q : Nat) : Bool :=
  let a := s.get (F.QUE_W_MIDBASE p)
  let b := s.get (F.QUE_W_MIDBASE q)
  s.regionOf p = s.regionOf q && decide (a < b + s.get (F.QUE_W_MIDSIZE q) ∧ b < a + s.get (F.QUE_W_MIDSIZE p))
/-- Whether DDR controller `x` is in service (R346, R501): trained, its domain works, it is not lost, its PLL does not coast. -/
def State.ddrInService (s : State) (x : Nat) : Bool :=
  s.domWorks (148 + x) && !s.bit (if x = 0 then F.SUP_FAULT_STATUS_DDR0_LOST else F.SUP_FAULT_STATUS_DDR1_LOST)
    && !s.bit F.CLK_STATUS_DDR_COAST && s.boot.trained.contains x

/-- Whether an enable of queue `q` is refused (R346), on its stored attributes. -/
def State.queEnableRefused (s : State) (q : Nat) : Bool :=
  let spill := s.get (F.QUE_W_CFG_SPILL q) = 1
  let size := s.get (F.QUE_W_MIDSIZE q)
  (s.get (F.QUE_W_CFG_CLASS q) ≤ 1 && spill)
    || (size ≠ 0 && decide (s.regionLines q < s.get (F.QUE_W_MIDBASE q) + size))
    || (size ≠ 0 && s.queues.any fun e => e.num ≠ q && s.middlesMeet q e.num)
    || (s.get (F.QUE_W_CFG_WRITER q) = 0 && decide (4 ≤ s.sinks (s.get (F.QUE_W_CFG_SID q))))
    || (spill && !s.ddrInService (s.get (F.QUE_W_CFG_DDR q)))

/-- The number of enabled queues (R360). -/
def State.queCount (s : State) : State := s.set F.QUE_ENABLED s.queues.length

/-- A queue has been enabled (R347): empty, its gate at the next tick where a stream feeds it (at the count of R57 while the
tick generator is off), not yet started where a program writes it. -/
def State.queEnabled (s : State) (q : Nat) : State :=
  let stream := !s.on (F.QUE_W_CFG_WRITER q)
  let g := if s.ftcState = 0 then s.get F.CLK_FTC_SET else s.tick + 1
  let rec0 : Queue := { num := q, gate := if stream then some g else none, accept := if stream then g else 0 }
  let s := { s with queues := s.queues ++ [rec0] }
  let s := (s.put (F.QUE_W_STATUS_MID_LOST q) false).set (F.QUE_W_GATE q) (if stream then g % 2 ^ 32 else 0)
  (s.showQueue q).queCount

/-- At FTC enable, the gates of stream-fed queues enabled before it start at the count (R347). -/
def State.startStreamGates (s : State) : State :=
  let mine := s.queues.filter fun e => !s.on (F.QUE_W_CFG_WRITER e.num)
  s.each mine fun s e =>
    (s.modQueue e.num fun e => { e with gate := some s.tick, accept := s.tick }).set (F.QUE_W_GATE e.num) (s.tick % 2 ^ 32)

/-- Whether a disable of queue `q` is refused (R347): a loaded hoist's member header enables it in some slot. -/
def State.queDisableRefused (s : State) (q : Nat) : Bool :=
  s.hoists.any fun h => h.members.any fun c => (List.range 4).any fun i => s.chQueue c i = some q

/-- A queue has been disabled: its content is discarded and its middle freed (R347). -/
def State.queDisabled (s : State) (q : Nat) : State :=
  let s := { s with queues := s.queues.filter (·.num ≠ q) }
  ((s.put (F.QUE_W_STATUS_FLUSH_PENDING q) false).showQueue q).queCount

/-- A flush request (R354, R355): it waits for its flush point; a packetised program-written queue with no packet open has it
at the request. -/
def State.flushRequest (s : State) (q : Nat) : State :=
  match s.queue q with
  | none => s
  | some e =>
    if e.flush.isSome ∨ e.flushWords.isSome then s else
    let s := (s.put (F.QUE_W_STATUS_FLUSH_PENDING q) true).modQueue q fun e => { e with flush := some s.tick }
    if s.on (F.QUE_W_CFG_WRITER q) ∧ s.on (F.QUE_W_CFG_PKT q) ∧ !e.open_ then s.markFlush q else s

/-- FLUSH_APPLY (R354): the flush point is reached; the words before it and the partial word of the cursor are discarded. -/
def execFlushApply (q : Fin 32768) (s : State) : Host.Outcome State Fault Refusal :=
  settle s (match s.queue q.val with
    | none => s
    | some e => match e.flushWords with
      | none => s
      | some n =>
        let s := s.setWords q.val (e.words.drop n)
        let s := s.modQueue q.val fun e => { e with bit := 0, flushWords := none }
        ((s.put (F.QUE_W_STATUS_FLUSH_PENDING q.val) false).ckFlush q.val))

/-- The clear of a queue's watermark bits (R357). -/
def State.wmClear (s : State) (q : Nat) (hi lo : Bool) : State :=
  let s := if hi then (s.put (F.QUE_W_STICKY_HI_SEEN q) false).set (F.QUE_W_STICKY_HI_COUNT q) 0 else s
  let s := if lo then (s.put (F.QUE_W_STICKY_LO_SEEN q) false).set (F.QUE_W_STICKY_LO_COUNT q) 0 else s
  s.showWm q

/-- A spill region is lost (R359): the words in the middles are discarded, each affected queue raises its event once. -/
def State.spillLost (s : State) (x : Nat) : State :=
  let s := s.put (if x = 0 then F.QUE_STICKY_SPILL_LOST0 else F.QUE_STICKY_SPILL_LOST1) true
  let mine := s.queues.filter fun e => s.on (F.QUE_W_CFG_SPILL e.num) && s.cfg (F.QUE_W_CFG_DDR e.num) = x
    && !s.bit (F.QUE_W_STATUS_MID_LOST e.num)
  s.each mine fun s e =>
    let ws := if e.words.length ≤ 16 then e.words else e.words.take 8 ++ e.words.drop (e.words.length - 8)
    ((s.put (F.QUE_W_STATUS_MID_LOST e.num) true).setWords e.num ws).queEvent e.num 4

end Sys2Proof.Machine
end

