-- ==== Sys2Proof/Machine/Operands.lean ====
section
/-! DEFINITION. The operand forms of AFI instructions (R209 to R211): the fields of an instruction word, registers and
predicates of a thread, immediates and counts. -/

namespace Sys2Proof.Machine

/-- The instruction word as a natural. -/
def AfiBits (a : AfiWord) : Nat := a.w.toNat
/-- Fields common to all formats (R209). -/
def fOp (w : Nat) : Nat := bitsOf w 26 6
def fPred (w : Nat) : Nat := bitsOf w 23 3
def fNeg (w : Nat) : Bool := bitOf w 22
/-- Fields of formats R, I, S, C and Q (R210). -/
def fRd (w : Nat) : Nat := bitsOf w 18 4
def fRa (w : Nat) : Nat := bitsOf w 14 4
def fRb (w : Nat) : Nat := bitsOf w 10 4
def fFn (w : Nat) : Nat := bitsOf w 4 6
def fLow (w : Nat) : Nat := bitsOf w 0 4
def fImm (w : Nat) : Nat := bitsOf w 0 14
/-- Fields of format S. -/
def fCurOut (w : Nat) : Bool := bitOf w 17
def fRegCount (w : Nat) : Bool := bitOf w 16
def fPdS (w : Nat) : Nat := bitsOf w 3 3
/-- Fields of format P: `pd`, and the reserved bit 18. -/
def fPdP (w : Nat) : Nat := bitsOf w 19 3
def pReserved (w : Nat) : Bool := bitOf w 18
/-- Fields of formats C and Q: space or slot, base, offset, `pd`, function field. -/
def fSpace (w : Nat) : Nat := bitsOf w 16 2
def fBase (w : Nat) : Nat := bitsOf w 12 4
def fOff (w : Nat) : Nat := bitsOf w 0 12
def fPdQ (w : Nat) : Nat := bitsOf w 13 3
def fQ (w : Nat) : Nat := bitsOf w 0 13
/-- Branch offset of format B. -/
def fBr (w : Nat) : Int := sgn 22 w

/-- Major opcodes in format I (R225). -/
def isFormatI (op : Nat) : Bool := (1 ≤ op && op ≤ 10) || op = 0x34 || op = 0x36 || op = 0x37

/-- A thread's register (R192): `t0` reads 0. -/
def Hoist.reg (h : Hoist) (i : Nat) : Nat := if i = 0 then 0 else (h.t.getD i 0).toNat
/-- Write a thread's register, modulo 2^64; writes to `t0` are discarded. -/
def Hoist.setReg (h : Hoist) (i v : Nat) : Hoist := if i = 0 then h else { h with t := h.t.set i (BitVec.ofNat 64 v) }
/-- A thread's predicate: `p0` reads 1. -/
def Hoist.pr (h : Hoist) (i : Nat) : Bool := i = 0 || h.p.getD i false
/-- Write a thread's predicate; writes to `p0` are discarded. -/
def Hoist.setPr (h : Hoist) (i : Nat) (b : Bool) : Hoist := if i = 0 then h else { h with p := h.p.set i b }

/-- Write a register of thread `k`. -/
def State.wReg (s : State) (k i v : Nat) : State := s.modHoist k fun h => h.setReg i v
/-- Write a predicate of thread `k`. -/
def State.wPr (s : State) (k i : Nat) (b : Bool) : State := s.modHoist k fun h => h.setPr i b

/-- The immediate of an I-format instruction (R211, R225): the 14 bits, or the 32 bits of a long form, extended to 64. -/
def immOf (a : AfiWord) (signed : Bool) : Nat :=
  let lo := fImm (AfiBits a)
  match a.pfx with
  | none => if signed then unsgn 64 (sgn 14 lo) else lo
  | some p =>
    let v := bitsOf p.toNat 0 18 * 2 ^ 14 + lo
    if signed then unsgn 64 (sgn 32 v) else v
/-- Whether the immediate fits the bits that a selector field uses: every higher bit must be 0 (R226). -/
def immFits (a : AfiWord) (w : Nat) : Bool := immOf a false < 2 ^ w

/-- Whether a prefix has a non-zero reserved bit, or its opcode is not the prefix's (R211). -/
def pfxBad (p : BitVec 32) : Bool := bitsOf p.toNat 18 14 ≠ 0x3F * 2 ^ 8
/-- Whether the reserved bits of a format S word are not 0 (R210). -/
def sReserved (w : Nat) : Bool := bitsOf w 6 4 ≠ 0 || bitsOf w 0 3 ≠ 0 || (fRegCount w && bitsOf w 14 2 ≠ 0)
/-- The count of a format S instruction (R233). -/
def countOf (h : Hoist) (w : Nat) : Nat := if fRegCount w then h.reg (fRb w) else bitsOf w 10 6 + 1
/-- Powers of two from 1 to 64 (R234). -/
def isPow2 (n : Nat) : Bool := [1, 2, 4, 8, 16, 32, 64].contains n

end Sys2Proof.Machine
end

