-- ==== Sys2Proof/Machine/Flags.lean ====
section
/-! DEFINITION. What instructions compute into predicates: compare and test conditions, their combination, and availability
(R208, R237), and bit counts of the helpers (R245, R246). -/

namespace Sys2Proof.Machine

/-- Signed value of a 64-bit register. -/
def s64 (v : Nat) : Int := sgn 64 v

/-- The test of `CMP` under a condition code (R237). -/
def cmpTest (cond a b : Nat) : Bool :=
  match cond with
  | 0 => a = b
  | 1 => a ≠ b
  | 2 => a < b
  | 3 => b ≤ a
  | 4 => s64 a < s64 b
  | 5 => s64 b ≤ s64 a
  | 6 => a ≤ b
  | _ => b < a
/-- The test of `TST` (R237): any or none. -/
def tstTest (cond a b : Nat) : Bool := if cond = 0 then (a &&& b) ≠ 0 else (a &&& b) = 0
/-- The new value of `pd` from its old value and a test (R237): written, AND, OR. -/
def combine (code : Nat) (old r : Bool) : Bool := if code = 0 then r else if code = 1 then old && r else old || r

/-- Parity of the bits of a byte under a mask. -/
def parityOf (mask v : Nat) : Bool := popCount 8 (v &&& mask) % 2 = 1

end Sys2Proof.Machine
end

