-- ==== Sys2Proof/Machine/Afi.lean ====
section
/-! DEFINITION. How a thread issues an AFI instruction (R195, R211, R214, R216): fetch, predicate, form, worst-case count, the
effect, the fault action (R217) and the tag record (R491); and the ends and starts of work ticks (R193 to R201). -/

namespace Sys2Proof.Machine

/-- What an instruction's own effect comes to: a state, a fault's code, or a wait for a gate (R29). -/
inductive Res where
  | ok (s : State)
  | fault (code : Nat)
  | wait

/-- Fault codes (R216). -/
def Flt.ecc : Nat := 1
def Flt.bounds : Nat := 2
def Flt.illegal : Nat := 3
def Flt.wc : Nat := 4
def Flt.determinism : Nat := 5
def Flt.ctxWrite : Nat := 6
def Flt.mem : Nat := 7
def Flt.queue : Nat := 8
def Flt.cku : Nat := 9
def Flt.operand : Nat := 10
def Flt.depth : Nat := 11
def Flt.halted : Nat := 12

/-- A fault where a check fails, else the rest; checks stand in rising order of their codes (R216). -/
def chk (bad : Bool) (code : Nat) (r : Res) : Res := if bad then .fault code else r

/-- Tile of the thread that a hoist runs on. -/
def Hoist.tile (h : Hoist) : Nat := h.at_ / 192
/-- Engine of the thread that a hoist runs on. -/
def Hoist.engine (h : Hoist) : Nat := h.at_ / 16

/-- The image of a thread's work tick in its tile (R220, R222). -/
def State.imgOf (s : State) (h : Hoist) : Option Image := s.images.find? fun i => i.tile = h.tile ∧ i.id = h.img
/-- Whether a word address lies in the thread's code segment (R216). -/
def State.inCode (s : State) (h : Hoist) (pc : Nat) : Bool :=
  match s.imgOf h with | some i => i.base ≤ pc && pc < i.base + i.codeWords | none => false
/-- The code word at an address of a tile's program memory. -/
def State.codeWord (s : State) (t pc : Nat) : Nat := s.rdLE (Sp.prog t) (4 * pc) 4
/-- Whether an address holds the second word of a pair (R211): the word before it, at an even address, is a prefix. -/
def State.pairSecond (s : State) (h : Hoist) (pc : Nat) : Bool :=
  pc % 2 = 1 && s.inCode h (pc - 1) && fOp (s.codeWord h.tile (pc - 1)) = 0x3F

/-- Whether a thread's engine and tile run (R103, R165). -/
def State.engineRuns (s : State) (h : Hoist) : Bool :=
  s.on (F.TILE_CTRL_ENABLE h.tile) && s.domWorks h.engine && s.domWorks (96 + h.tile) && s.domWorks (104 + h.tile)
    && !s.clk.forced.contains h.tile && bitsOf (s.get F.CLK_DOMSW_STATUS_SRC) (2 * h.tile) 2 ≠ 2

/-- Thread `k` where it may issue (R97, R108, R163, R165, R196, R200, R201): it has a work tick, its engine runs, the member's
entry is resident, allowance is left and nothing stalls it. -/
def State.issuing (s : State) (k : Nat) : Option Hoist :=
  match s.hoist k with
  | none => none
  | some h =>
    if h.ready ∧ !h.halted ∧ !h.suspended ∧ h.stall.isNone ∧ h.notBefore ≤ s.tick ∧ h.used < h.allow
      ∧ !(s.pwr.tbStop ∧ 2 ≤ h.cls) ∧ s.engineRuns h ∧ s.resident h.cur then some h else none

/-! ## Tag records (R490, R491) -/

/-- One step of a tagging LFSR with polynomial x^24 + x^23 + x^22 + x^17 + 1 (R490; DESIGN CHOICE of its form, log 24). -/
def lfsrStep (v : Nat) : Nat :=
  let fb := (bitsOf v 23 1 + bitsOf v 22 1 + bitsOf v 21 1 + bitsOf v 16 1) % 2
  (v * 2 + fb) % 2 ^ 24

/-- Free slots of a ring of 2^n slots (R470): one slot stays empty. -/
def ringFull (n head tail : Nat) : Bool := (tail + 1) % 2 ^ n = head % 2 ^ n

/-- A tag record (R491); the cycle counts are free values, since the model has no cycles (log 25). -/
def State.tagRecord (s : State) (h : Hoist) (w outcome : Nat) : State :=
  let n := s.cfg F.TAL_TAG_CFG_TAG_SIZE
  let head := s.get F.TAL_TAG_HEAD
  let tail := s.get F.TAL_TAG_TAIL
  if ringFull n head tail then
    ((s.put F.TAL_STICKY_TAG_LOST true).tal 5 3 1).raise { src := 965, code := 1 }
  else
    let (c1, s) := s.draw
    let (c2, s) := s.draw
    let (c3, s) := s.draw
    let w0 := h.pc * 2 ^ 47 + h.num * 2 ^ 36 + (h.at_ % 16) * 2 ^ 32 + h.engine * 2 ^ 25 + outcome * 2 ^ 23
    let w3 := bitsOf c3.toNat 0 16 * 2 ^ 48 + fOp w * 2 ^ 40 + bitsOf c3.toNat 16 3 % 5 * 2 ^ 36 + h.w % 2 ^ 36
    let sp := if s.cfg F.TAL_TAG_CFG_TAG_WHERE = 1 then Sp.host else Sp.sram
    let s := s.wr sp (s.cfg F.TAL_TAG_BASE * 2 ^ 12 + 32 * tail) ([w0, c1.toNat, c2.toNat, w3].flatMap (leBytes 8))
    (s.set F.TAL_TAG_TAIL ((tail + 1) % 2 ^ n)).tal 5 2 1

/-- An issue slot of an engine: its kind's counter (R489), and the tag where one falls due (R490). -/
def State.slot (s : State) (h : Hoist) (w outcome : Nat) : State :=
  let e := h.engine
  let s := s.when (bitOf (s.get (F.TAL_SLOT_ENG (e / 32))) (e % 32)) fun s => s.tal (7 + h.tile) (if outcome = 0 then 0 else 1) 1
  match s.tally.lfsr.find? (·.1 = e) with
  | none => s
  | some p =>
    let v := lfsrStep p.2
    let s := { s with tally := { s.tally with lfsr := s.tally.lfsr.map fun q => if q.1 = e then (e, v) else q } }
    if v % 2 ^ s.cfg F.TAL_TAG_CFG_K = 0 then s.tagRecord h w outcome else s

/-! ## Work ticks -/

/-- The queues that a hoist writes, enabled. -/
def State.writtenQueues (s : State) (k : Nat) : List Nat :=
  (s.queues.map (·.num)).filter fun q => s.on (F.QUE_W_CFG_WRITER q) && s.cfg (F.QUE_W_HOIST_W_HOIST q) = k

/-- Close a queue that a thread writes for its work tick, once (R205). -/
def State.closeFor (s : State) (k q : Nat) : State :=
  match s.hoist k with
  | none => s
  | some h => if h.closed.contains q then s else
    (s.closeQueue q h.w).modHoist k fun h => { h with closed := q :: h.closed }

/-- The work tick of a thread ends (R199, R205). -/
def State.endTick (s : State) (k : Nat) : State :=
  let s := s.each (s.writtenQueues k) fun s q => s.closeFor k q
  s.modHoist k fun h => { h with ready := false, stall := none, outAcc := 0, outBits := 0 }

/-- The live bit of an ingress-incomplete tick, as a thread begins a member's work (R173, R174). -/
def State.showIncomplete (s : State) (h : Hoist) : State :=
  let c := h.cur
  if !s.resident c then s else
  let inc := match s.chQueue c 0 with
    | some q => match s.queue q with | some e => e.incomplete.contains h.w | none => false
    | none => false
  s.penSet c (2 ^ 37) inc

/-- Map the member at `hx` (R197, R181): its entry is used; with a frozen table a member whose entry is not resident is passed
over with no work and no marker (R511). The number of members bounds the search. False where no member is left. -/
def State.mapMember : Nat → State → Nat → Bool × State
  | 0, s, _ => (false, s)
  | n + 1, s, k =>
    match s.hoist k with
    | none => (false, s)
    | some h =>
      if s.resident h.cur then (true, (s.ctxTouch h.cur).showIncomplete h)
      else if !s.frozen then (true, s)
      else if h.members.length ≤ h.hx + 1 then (false, s)
      else State.mapMember n (s.modHoist k fun h => { h with hx := h.hx + 1 }) k

/-- CONTEXT_REFILL (R179, R180): a miss of a tile on a channel completes; a thread at that member begins its work. -/
def execContextRefill (tile : Fin 8) (c : Fin 16384) (s : State) : Host.Outcome State Fault Refusal :=
  let s' := s.ctxFill (some tile.val) c.val
  settle s (s'.each (s'.hoists.filter fun h => h.ready && h.cur = c.val) fun s h => s.showIncomplete h)

/-- Whether the gate deadline of gate tick `g` of queue `q` can have passed (R30). -/
def State.deadlineDue (s : State) (q g : Nat) : Bool :=
  if s.on (F.QUE_W_CFG_WRITER q) then match s.ticked q with | some l => decide (g + l ≤ s.tick) | none => false
  else decide (g < s.tick)

/-- GATE_DEADLINE (R30): the deadline of the gate tick has passed without a marker; the gate advances, the tick is
ingress-incomplete, and every channel that reads the queue takes an INGRESS breach for it. The sender reports the passing of
phase 2,048 (log 4); the tick it falls in is checked. -/
def execGateDeadline (q : Fin 32768) (s : State) : Host.Outcome State Fault Refusal :=
  settle s (match s.queue q.val with
    | none => s
    | some e => match e.gate with
      | none => s
      | some g =>
        if !s.deadlineDue q.val g then s else
        let s := s.setGate q.val (g + 1) true
        let s := s.each (s.readersOf q.val) fun s c => s.breach c g 0
        s.each (s.hoists.filter fun h => h.ready && h.w = g) fun s h => s.showIncomplete h)

/-- Reset of a thread's registers, predicates and stack (R193). -/
def Hoist.clear (h : Hoist) : Hoist := { h with t := List.replicate 16 0, p := List.replicate 8 false, stack := [] }

/-- THREAD_READY (R193, R196, R222, R347): a thread whose work tick has ended begins the next one, once the tile observes two
ticks more; the first begins at the boundary of the load. Every member has the same `ENTRY` and `IMAGE` (R170): while the
table is frozen they are read from the first resident member (R511). -/
def State.threadStart (s : State) (k : Nat) : State :=
  match s.hoist k with
  | none => s
  | some h =>
    if h.ready ∨ h.halted ∨ h.suspended ∨ s.joinHold ∨ s.tick < h.w + 2 then s else
    let c := if s.frozen then (h.members.find? s.resident).getD 0 else h.members.headD 0
    let w := h.w + 1
    let s := s.startGates k w
    let s := s.modHoist k fun h => { h.clear with
      w := w, ready := true, hx := 0, pc := s.chEntry c, img := s.chImage c, lastDone := false, outAcc := 0, outBits := 0
      lastBits := 0, issued := 0, scratch := [], closed := [], stall := none, notBefore := 0 }
    let (ok, s) := State.mapMember h.members.length s k
    if ok then s else s.endTick k

/-- THREAD_READY. -/
def execThreadReady (k : Fin 1536) (s : State) : Host.Outcome State Fault Refusal := settle s (s.threadStart k.val)

/-! ## Faults (R216 to R218) -/

/-- The record of a fault in the thread's fault registers (R218). -/
def State.faultRecord (s : State) (h : Hoist) (code : Nat) : State :=
  let t := h.tile
  let k := h.at_ % 192
  if s.bit (F.TILE_FAULT_PENDING t k) then s.incSat (F.TILE_FAULT_COUNT t k) else
  let s := ((s.set (F.TILE_FAULT_CODE t k) code).set (F.TILE_FAULT_HX t k) h.hx).put (F.TILE_FAULT_PENDING t k) true
  let s := (s.set (F.TILE_FAULT_COUNT t k) 1).set (F.TILE_FAULT_PC_PC t k) h.pc
  s.set (F.TILE_FAULT_TICK_TICK t k) (h.w % 2 ^ 32)

/-- The fault action (R201, R217) of thread `h` at the faulting instruction. -/
def State.afiFault (s : State) (h : Hoist) (code : Nat) : State :=
  let k := h.num
  let s := s.modHoist k fun h => { h with outAcc := 0, outBits := 0 }
  let s := (s.faultRecord h code).gather { src := tileSrc h.tile, code := 2, cls := some h.cls, subject := k }
  if code = Flt.halted then s.modHoist k fun h => { h with ready := false, halted := true } else
  let entry := match s.imgOf h with
    | some i => if i.faultEntry = 0xFFFFFFFF then none else some (i.base + i.faultEntry)
    | none => none
  match entry with
  | none => s.endTick k
  | some e =>
    if code = Flt.wc ∨ h.members.length ≤ h.hx + 1 then s.endTick k else
    let s := s.modHoist k fun g => ({ g.clear with hx := h.hx + 1, pc := e }).setReg 1 code
    let (ok, s) := State.mapMember h.members.length s k
    if ok then s else s.endTick k

/-! ## Issue -/

/-- The thread after one issue: its count, its slot of this tick, its `pc`. -/
def Hoist.issued1 (h : Hoist) (size : Nat) : Hoist :=
  { h with issued := h.issued + 1, used := h.used + 1, pc := h.pc + size }

/-- An instruction that faults. -/
def State.faultAt (s : State) (h : Hoist) (w code : Nat) : State :=
  let s := s.modHoist h.num fun h => h.issued1 0
  (s.slot h w 2).afiFault h code

/-- Issue of one instruction by thread `h` (R195, R211, R216): its fetch, its predicate, its form, its effect. An uncorrectable
error of program memory raises its event (R467). The instruction that would exceed `WC` is not issued: it uses no slot (R214;
DEDUCED, log 77). -/
def State.issue (s : State) (h : Hoist) (a : AfiWord) (body : State → Hoist → AfiWord → Res) : State :=
  let w := AfiBits a
  let size := if a.pfx.isSome then 2 else 1
  if a.ecc then (s.raise { src := 904, code := 1, subject := 2 }).faultAt h w Flt.ecc
  else if !s.inCode h h.pc ∨ !s.inCode h (h.pc + size - 1) then s.faultAt h w Flt.bounds
  else
    let next := s.modHoist h.num fun h => h.issued1 size
    if h.pr (fPred w) = fNeg w then next.slot h w 1
    else
      let badPair := match a.pfx with
        | some p => pfxBad p || h.pc % 2 = 1 || !isFormatI (fOp w)
        | none => s.pairSecond h h.pc
      let r := chk badPair Flt.illegal (body next h a)
      let early : Bool := match r with | .fault c => decide (c < Flt.wc) | _ => false
      if h.wc ≤ h.issued ∧ !early then s.afiFault h Flt.wc
      else match r with
      | .wait => s.modHoist h.num fun h => { h with stall := some ⟨a.pfx, a.w⟩ }
      | .fault c => s.faultAt h w c
      | .ok t => t.slot h w 0

/-- An AFI instruction of thread `k`: no effect where the thread does not issue (log 26). -/
def State.afi (s : State) (k : Nat) (a : AfiWord) (body : State → Hoist → AfiWord → Res) : State :=
  match s.issuing k with
  | none => s
  | some h => s.issue h a body

end Sys2Proof.Machine
end

