-- ==== Sys2Proof/Machine/AfiAlu.lean ====
section
/-! DEFINITION. The ALU and bit-field instructions (R230 to R232). -/

namespace Sys2Proof.Machine

/-- An ALU instruction (R230, R231, R225): opcode 0x00 with minor function `fn`, or the immediate form under `opI` where it has
one, its immediate sign- or zero-extended. -/
def aluBody (fn : Nat) (opI : Option Nat) (signed : Bool) (f : Nat → Nat → Nat) (s : State) (h : Hoist) (a : AfiWord) : Res :=
  let w := AfiBits a
  if fOp w = 0 then
    chk (fFn w ≠ fn || fLow w ≠ 0) Flt.illegal (.ok (s.wReg h.num (fRd w) (f (h.reg (fRa w)) (h.reg (fRb w)))))
  else
    chk (some (fOp w) ≠ opI) Flt.illegal (.ok (s.wReg h.num (fRd w) (f (h.reg (fRa w)) (immOf a signed))))

/-- ADD (R230): rd := ra + b, modulo 2^64. -/
def execAdd (k : Fin 1536) (w : AfiWord) (s : State) : Host.Outcome State Fault Refusal :=
  settle s (s.afi k.val w (aluBody 0 (some 1) true fun a b => a + b))

/-- SUB (R230): rd := ra − b, modulo 2^64. -/
def execSub (k : Fin 1536) (w : AfiWord) (s : State) : Host.Outcome State Fault Refusal :=
  settle s (s.afi k.val w (aluBody 1 (some 2) true fun a b => a + (2 ^ 64 - b)))

/-- AND (R230): rd := ra AND b. -/
def execAnd (k : Fin 1536) (w : AfiWord) (s : State) : Host.Outcome State Fault Refusal :=
  settle s (s.afi k.val w (aluBody 2 (some 3) false fun a b => a &&& b))

/-- OR (R230): rd := ra OR b. -/
def execOr (k : Fin 1536) (w : AfiWord) (s : State) : Host.Outcome State Fault Refusal :=
  settle s (s.afi k.val w (aluBody 3 (some 4) false fun a b => a ||| b))

/-- XOR (R230): rd := ra XOR b. -/
def execXor (k : Fin 1536) (w : AfiWord) (s : State) : Host.Outcome State Fault Refusal :=
  settle s (s.afi k.val w (aluBody 4 (some 5) false fun a b => a ^^^ b))

/-- MIN (R230): rd := the unsigned minimum. -/
def execMin (k : Fin 1536) (w : AfiWord) (s : State) : Host.Outcome State Fault Refusal :=
  settle s (s.afi k.val w (aluBody 5 (some 6) false fun a b => Nat.min a b))

/-- MAX (R230): rd := the unsigned maximum. -/
def execMax (k : Fin 1536) (w : AfiWord) (s : State) : Host.Outcome State Fault Refusal :=
  settle s (s.afi k.val w (aluBody 6 (some 7) false fun a b => Nat.max a b))

/-- ADDS (R230): rd := min(ra + b, 2^64 − 1), unsigned. -/
def execAdds (k : Fin 1536) (w : AfiWord) (s : State) : Host.Outcome State Fault Refusal :=
  settle s (s.afi k.val w (aluBody 7 none false fun a b => Nat.min (a + b) (2 ^ 64 - 1)))

/-- MIN_S (R230): rd := the signed minimum. -/
def execMinS (k : Fin 1536) (w : AfiWord) (s : State) : Host.Outcome State Fault Refusal :=
  settle s (s.afi k.val w (aluBody 8 none false fun a b => if s64 a ≤ s64 b then a else b))

/-- MAX_S (R230): rd := the signed maximum. -/
def execMaxS (k : Fin 1536) (w : AfiWord) (s : State) : Host.Outcome State Fault Refusal :=
  settle s (s.afi k.val w (aluBody 9 none false fun a b => if s64 a ≤ s64 b then b else a))

/-- ADDS_S (R230): rd := ra + b, saturated to −2^63 … 2^63 − 1. -/
def execAddsS (k : Fin 1536) (w : AfiWord) (s : State) : Host.Outcome State Fault Refusal :=
  settle s (s.afi k.val w (aluBody 10 none false fun a b => unsgn 64 (max (-(2 ^ 63)) (min (2 ^ 63 - 1) (s64 a + s64 b)))))

/-- `EXT` of a field (R232). -/
def bfExt (_d a pos wd : Nat) : Nat := bitsOf a pos wd
/-- `INS` into a field (R232). -/
def bfIns (d a pos wd : Nat) : Nat := putBits d pos wd a
/-- `ROT` to the left (R232). -/
def rotl (a n : Nat) : Nat := if n = 0 then a else (a * 2 ^ n) % 2 ^ 64 + a / 2 ^ (64 - n)

/-- `EXT` and `INS` (R232): the immediate form under `opI`, or minor function `fn` of opcode 0x0B; position and width from the
immediate or from rb. -/
def fieldBody (opI fn : Nat) (f : Nat → Nat → Nat → Nat → Nat) (s : State) (h : Hoist) (a : AfiWord) : Res :=
  let w := AfiBits a
  let put (pos wd : Nat) : Res := .ok (s.wReg h.num (fRd w) (f (h.reg (fRd w)) (h.reg (fRa w)) pos wd))
  if fOp w = opI then
    let pos := bitsOf (fImm w) 0 6
    let wd := bitsOf (fImm w) 6 6 + 1
    chk (!immFits a 12 || decide (64 < pos + wd)) Flt.illegal (put pos wd)
  else
    let b := h.reg (fRb w)
    let pos := bitsOf b 0 6
    let wd := bitsOf b 8 6 + 1
    chk (fOp w ≠ 0x0B || fFn w ≠ fn || fLow w ≠ 0) Flt.illegal
      (chk (bitsOf b 6 2 ≠ 0 || bitsOf b 14 50 ≠ 0 || decide (64 < pos + wd)) Flt.operand (put pos wd))

/-- EXT (R232): rd := (ra >> pos) AND m(w). -/
def execExt (k : Fin 1536) (w : AfiWord) (s : State) : Host.Outcome State Fault Refusal :=
  settle s (s.afi k.val w (fieldBody 8 0 bfExt))

/-- INS (R232): the low w bits of ra replace w bits of rd from pos. -/
def execIns (k : Fin 1536) (w : AfiWord) (s : State) : Host.Outcome State Fault Refusal :=
  settle s (s.afi k.val w (fieldBody 9 1 bfIns))

/-- The rotation's operands and effect (R232). -/
def rotBody (s : State) (h : Hoist) (a : AfiWord) : Res :=
  let w := AfiBits a
  let put (n : Nat) : Res := .ok (s.wReg h.num (fRd w) (rotl (h.reg (fRa w)) n))
  if fOp w = 0x0A then chk (!immFits a 6) Flt.illegal (put (fImm w))
  else
    let b := h.reg (fRb w)
    chk (fOp w ≠ 0x0B || fFn w ≠ 2 || fLow w ≠ 0) Flt.illegal (chk (decide (64 ≤ b)) Flt.operand (put b))

/-- ROT (R232): rd := ra rotated left by n. -/
def execRot (k : Fin 1536) (w : AfiWord) (s : State) : Host.Outcome State Fault Refusal :=
  settle s (s.afi k.val w rotBody)

/-- `POPC` and `CLZ` (R232): minor function `fn` of opcode 0x0B, without rb. -/
def countBody (fn : Nat) (f : Nat → Nat) (s : State) (h : Hoist) (a : AfiWord) : Res :=
  let w := AfiBits a
  chk (fOp w ≠ 0x0B || fFn w ≠ fn || fLow w ≠ 0 || fRb w ≠ 0) Flt.illegal
    (.ok (s.wReg h.num (fRd w) (f (h.reg (fRa w)))))

/-- Number of 0 bits above the highest 1 bit of the low `n` bits. -/
def leadZeros : Nat → Nat → Nat
  | 0, _ => 0
  | n + 1, v => if bitOf v n then 0 else 1 + leadZeros n v

/-- POPC (R232): rd := number of 1 bits in ra. -/
def execPopc (k : Fin 1536) (w : AfiWord) (s : State) : Host.Outcome State Fault Refusal :=
  settle s (s.afi k.val w (countBody 3 (popCount 64)))

/-- CLZ (R232): rd := number of 0 bits above the highest 1 bit of ra; 64 for 0. -/
def execClz (k : Fin 1536) (w : AfiWord) (s : State) : Host.Outcome State Fault Refusal :=
  settle s (s.afi k.val w (countBody 4 (leadZeros 64)))

end Sys2Proof.Machine
end

