-- ==== Sys2Proof/Machine/AfiStream.lean ====
section
/-! DEFINITION. The stream, pattern and compare instructions (R205 to R208, R233 to R237), and the resumption of an access that
waited for a gate (R29). -/

namespace Sys2Proof.Machine

/-- The queue of slot `i` of a thread's current member, where the slot and the queue are enabled (R204). -/
def State.slotQueue (s : State) (h : Hoist) (i : Nat) : Option Queue :=
  match s.chQueue h.cur i with | some q => s.queue q | none => none

/-- Whether the gate of a queue has passed work tick `w` (R28, R205). -/
def gatePassed (e : Queue) (w : Nat) : Bool := match e.gate with | some g => w < g | none => false
/-- The words of the view of work tick `w` that the gate lets be seen (R28, R205). -/
def viewWords (e : Queue) (w : Nat) : List QWord :=
  e.words.takeWhile fun x => decide (x.arr ≤ w) && (match e.gate with | some g => decide (x.arr < g) | none => false)
/-- The bits that the `in` cursor reads of a word (R206, R339): its valid bytes; a poisoned word's are the substitute's (R358). -/
def State.cursorBits (s : State) (q : Nat) (x : QWord) : List Bool :=
  if x.poison then bitsMsb 64 (s.substWord q).toNat else (bitsMsb 64 x.data.toNat).take (8 * validCount x.tag)
/-- The bits from the cursor to the end of what can be seen of the view. -/
def State.viewBits (s : State) (e : Queue) (w : Nat) : List Bool :=
  ((viewWords e w).flatMap (s.cursorBits e.num)).drop e.bit
/-- The value of a list of bits, most significant first. -/
def bitsVal (l : List Bool) : Nat := l.foldl (fun v b => 2 * v + b2n b) 0
/-- `n` bits from the front of a list, missing ones 0 (R208). -/
def takeBits (l : List Bool) (n : Nat) : Nat := bitsVal (l.take n ++ List.replicate (n - l.length) false)

/-- Words to drop, and the bit position in the next, as a cursor at `bit` moves `n` bits over words of the given lengths. -/
def moveCursor : List Nat → Nat → Nat → Nat × Nat
  | [], _, _ => (0, 0)
  | v :: r, bit, n =>
    if bit + n < v then (0, bit + n) else
    let p := moveCursor r 0 (n - (v - bit))
    (p.1 + 1, p.2)

/-- The `in` cursor of a queue moves `n` bits (R206). -/
def State.advanceIn (s : State) (e : Queue) (w n : Nat) : State :=
  let p := moveCursor ((viewWords e w).map fun x => (s.cursorBits e.num x).length) e.bit n
  let s := (List.range p.1).foldl (fun s _ => s.dropHead e.num) s
  s.modQueue e.num fun e => { e with bit := p.2 }

/-- The code check of the head word that an access reads (R358). -/
def State.checkHead (s : State) (e : Queue) (err : Option Bool) : State :=
  match err with
  | none => s
  | some u => if e.words.isEmpty then s else s.queueError e.num u

/-- `GET`, `PEEK` and `SKIP` (R208, R233): n bits of the view, a wait where they lie beyond the gate. -/
def inBody (op : Nat) (reads moves : Bool) (s : State) (h : Hoist) (a : AfiWord) : Res :=
  let w := AfiBits a
  let n := countOf h w
  chk (fOp w ≠ op || fCurOut w || sReserved w || (!reads && fRd w ≠ 0)) Flt.illegal (
    match s.slotQueue h 0 with
    | none => .fault Flt.queue
    | some e0 =>
      chk (decide (64 < n)) Flt.operand (
        let s := if n = 0 then s else s.checkHead e0 a.rdErr
        let e := (s.queue e0.num).getD e0
        let bs := s.viewBits e h.w
        if !gatePassed e h.w && decide (bs.length < n) then .wait else
        let s := if reads then s.wReg h.num (fRd w) (takeBits bs n) else s
        let s := s.wPr h.num (fPdS w) (decide (n ≤ bs.length))
        .ok (if moves then s.advanceIn e h.w (Nat.min n bs.length) else s)))

/-- GET (R233). -/
def execGet (k : Fin 1536) (w : AfiWord) (s : State) : Host.Outcome State Fault Refusal :=
  settle s (s.afi k.val w (inBody 0x10 true true))

/-- PEEK (R233): as GET; the cursor does not move. -/
def execPeek (k : Fin 1536) (w : AfiWord) (s : State) : Host.Outcome State Fault Refusal :=
  settle s (s.afi k.val w (inBody 0x11 true false))

/-- SKIP (R233): the cursor advances n bits. -/
def execSkip (k : Fin 1536) (w : AfiWord) (s : State) : Host.Outcome State Fault Refusal :=
  settle s (s.afi k.val w (inBody 0x13 false true))

/-- One word is pushed by thread `h` on a queue; a refused word is lost and is the OVERRUN breach of R40 (R207, R241). -/
def State.threadPush (s : State) (h : Hoist) (q : Nat) (x : TWord) : Bool × State :=
  let r := s.push q x h.w
  if r.1 then r else (false, r.2.breach h.cur h.w 1)

/-- A data word is written to a member's release queue; the valid bits it ends with are kept for the marker (R198). -/
def State.writeRel (s : State) (h : Hoist) (q : Nat) (x : TWord) (valid : Nat) : State :=
  let r := s.threadPush h q x
  if r.1 then r.2.modHoist h.num fun h => { h with lastBits := valid % 64 } else r.2

/-- Bits appended through the `out` cursor (R207): complete words are written. -/
def State.appendOut (s : State) (h : Hoist) (q v n : Nat) : State :=
  let acc := h.outAcc * 2 ^ n + v % 2 ^ n
  let tot := h.outBits + n
  if tot < 64 then s.modHoist h.num fun h => { h with outAcc := acc, outBits := tot } else
  let rest := tot - 64
  let s := s.modHoist h.num fun h => { h with outAcc := acc % 2 ^ rest, outBits := rest }
  s.writeRel h q ⟨BitVec.ofNat 64 (acc / 2 ^ rest), 0⟩ 64

/-- The partial word of the `out` cursor is written, its unused low bits 0 (R207). -/
def State.flushOut (s : State) (h : Hoist) (q : Nat) : State :=
  if h.outBits = 0 then s else
  let s := s.modHoist h.num fun h => { h with outAcc := 0, outBits := 0 }
  s.writeRel h q ⟨BitVec.ofNat 64 (h.outAcc * 2 ^ (64 - h.outBits)), 0⟩ h.outBits

/-- `PUT` (R207, R233). -/
def putBody (s : State) (h : Hoist) (a : AfiWord) : Res :=
  let w := AfiBits a
  let n := countOf h w
  chk (fOp w ≠ 0x12 || !fCurOut w || sReserved w || fPdS w ≠ 0) Flt.illegal (
    match s.slotQueue h 1 with
    | none => .fault Flt.queue
    | some e => chk (decide (64 < n)) Flt.operand (.ok (s.appendOut h e.num (h.reg (fRd w)) n)))

/-- PUT (R233): the low n bits of the source register, most significant first. -/
def execPut (k : Fin 1536) (w : AfiWord) (s : State) : Host.Outcome State Fault Refusal :=
  settle s (s.afi k.val w putBody)

/-- `ALIGN` (R234) on either cursor. -/
def alignBody (s : State) (h : Hoist) (a : AfiWord) : Res :=
  let w := AfiBits a
  let n := countOf h w
  let out := fCurOut w
  chk (fOp w ≠ 0x14 || sReserved w || (out && fPdS w ≠ 0) || (!fRegCount w && !isPow2 n)) Flt.illegal (
    match s.slotQueue h (if out then 1 else 0) with
    | none => .fault Flt.queue
    | some e0 =>
      chk (!isPow2 n) Flt.operand (
        if out then
          let d := (n - h.outBits % n) % n
          .ok ((s.wReg h.num (fRd w) d).appendOut h e0.num 0 d)
        else
          let d := (n - e0.bit % n) % n
          let s := if d = 0 then s else s.checkHead e0 a.rdErr
          let e := (s.queue e0.num).getD e0
          let bs := s.viewBits e h.w
          if !gatePassed e h.w && decide (bs.length < d) then .wait else
          let got := Nat.min d bs.length
          .ok (((s.wReg h.num (fRd w) got).wPr h.num (fPdS w) (got = d)).advanceIn e h.w got)))

/-- ALIGN (R234). -/
def execAlign (k : Fin 1536) (w : AfiWord) (s : State) : Host.Outcome State Fault Refusal :=
  settle s (s.afi k.val w alignBody)

/-- Whether every masked bit of position `p` lies in the view (R235): bit j with mask bit 63 − j set needs p + j < avail. -/
def maskInside (mask p avail : Nat) : Bool :=
  (List.range 64).all fun j => !bitOf mask (63 - j) || decide (p + j < avail)
/-- The masked bits of position `p` that lie outside the view (R236). -/
def maskOutside (mask p avail : Nat) : Nat :=
  sumL ((List.range 64).map fun j => if bitOf mask (63 - j) && decide (avail ≤ p + j) then 2 ^ (63 - j) else 0)

/-- The shared part of `HUNT` and `MATCH`: the queue, its view, the wait for the gate and the mask check (R235, R236). -/
def patternBody (op : Nat) (f : List Bool → Nat → Nat → Nat → Nat × Bool) (s : State) (h : Hoist) (a : AfiWord) : Res :=
  let w := AfiBits a
  chk (fOp w ≠ op || pReserved w) Flt.illegal (
    match s.slotQueue h 0 with
    | none => .fault Flt.queue
    | some e0 =>
      let pat := h.reg (fRa w)
      let mask := h.reg (fRb w)
      chk (mask = 0) Flt.operand (
        let s := s.checkHead e0 a.rdErr
        let e := (s.queue e0.num).getD e0
        let bs := (s.viewBits e h.w).take 128
        if !gatePassed e h.w && decide (bs.length < fFn w + 64) then .wait else
        let r := f bs pat mask (fFn w)
        .ok ((s.wReg h.num (fLow w) r.1).wPr h.num (fPdP w) r.2)))

/-- seg(p): 64 bits of the view from position p, the first in bit 63 (R224). -/
def segOf (bs : List Bool) (p : Nat) : Nat := takeBits (bs.drop p) 64

/-- The bitmap of `HUNT` (R235). -/
def huntBits (bs : List Bool) (pat mask fn : Nat) : Nat × Bool :=
  let v := sumL ((List.range (fn + 1)).map fun p =>
    if maskInside mask p bs.length && ((segOf bs p ^^^ pat) &&& mask) = 0 then 2 ^ (63 - p) else 0)
  (v, v ≠ 0)

/-- HUNT (R235). -/
def execHunt (k : Fin 1536) (w : AfiWord) (s : State) : Host.Outcome State Fault Refusal :=
  settle s (s.afi k.val w (patternBody 0x19 huntBits))

/-- The count of `MATCH` (R236). -/
def matchCount (bs : List Bool) (pat mask off : Nat) : Nat × Bool :=
  let d := ((segOf bs off ^^^ pat) &&& mask) ||| maskOutside mask off bs.length
  (popCount 64 d, d = 0)

/-- MATCH (R236). -/
def execMatchBits (k : Fin 1536) (w : AfiWord) (s : State) : Host.Outcome State Fault Refusal :=
  settle s (s.afi k.val w (patternBody 0x18 matchCount))

/-- `CMP` and `TST` (R237): a condition of ra and b, combined into `pd`. -/
def compareBody (op : Nat) (conds : Nat) (test : Nat → Nat → Nat → Bool) (s : State) (h : Hoist) (a : AfiWord) : Res :=
  let w := AfiBits a
  let cond := bitsOf w 7 3
  let imm := bitOf w 6
  let code := bitsOf w 4 2
  let b := if imm then fRb w * 16 + fLow w else h.reg (fRb w)
  chk (fOp w ≠ op || pReserved w || code = 3 || decide (conds ≤ cond) || (!imm && fLow w ≠ 0)) Flt.illegal
    (.ok (s.wPr h.num (fPdP w) (combine code (h.pr (fPdP w)) (test cond (h.reg (fRa w)) b))))

/-- CMP (R237). -/
def execCmp (k : Fin 1536) (w : AfiWord) (s : State) : Host.Outcome State Fault Refusal :=
  settle s (s.afi k.val w (compareBody 0x1C 8 cmpTest))

/-- TST (R237). -/
def execTst (k : Fin 1536) (w : AfiWord) (s : State) : Host.Outcome State Fault Refusal :=
  settle s (s.afi k.val w (compareBody 0x1D 2 tstTest))

end Sys2Proof.Machine
end

