-- ==== Sys2Proof/Machine/AfiFlow.lean ====
section
/-! DEFINITION. The flow, context and queue instructions (R197 to R201, R238 to R243). -/

namespace Sys2Proof.Machine

/-- A taken branch to `pc + offset` (R238): faults where the target lies outside the code segment, or is the second word of a
pair. -/
def branchTo (s : State) (h : Hoist) (w : Nat) (go : State → Nat → State) : Res :=
  let t : Int := (h.pc : Int) + fBr w
  if t < 0 ∨ !s.inCode h t.toNat then .fault Flt.bounds
  else chk (s.pairSecond h t.toNat) Flt.illegal (.ok (go s t.toNat))

/-- BR (R238): pc := target. -/
def execBr (k : Fin 1536) (w : AfiWord) (s : State) : Host.Outcome State Fault Refusal :=
  settle s (s.afi k.val w fun s h a =>
    chk (fOp (AfiBits a) ≠ 0x20) Flt.illegal
      (branchTo s h (AfiBits a) fun s t => s.modHoist h.num fun h => { h with pc := t }))

/-- CALL (R238): push pc + 1; pc := target; CALL_DEPTH with 8 addresses held. -/
def execCall (k : Fin 1536) (w : AfiWord) (s : State) : Host.Outcome State Fault Refusal :=
  settle s (s.afi k.val w fun s h a =>
    chk (fOp (AfiBits a) ≠ 0x21) Flt.illegal (
      match branchTo s h (AfiBits a) fun s t => s.modHoist h.num fun g => { g with pc := t, stack := (h.pc + 1) :: h.stack } with
      | .ok t => chk (8 ≤ h.stack.length) Flt.depth (.ok t)
      | r => r))

/-- A flow instruction without an offset (R238). -/
def plainFlow (op : Nat) (f : State → Hoist → Res) (s : State) (h : Hoist) (a : AfiWord) : Res :=
  chk (fOp (AfiBits a) ≠ op || bitsOf (AfiBits a) 0 22 ≠ 0) Flt.illegal (f s h)

/-- RET (R238): pc := pop; CALL_DEPTH with none held. -/
def execRet (k : Fin 1536) (w : AfiWord) (s : State) : Host.Outcome State Fault Refusal :=
  settle s (s.afi k.val w (plainFlow 0x22 fun s h => match h.stack with
    | [] => .fault Flt.depth
    | t :: r => .ok (s.modHoist h.num fun h => { h with pc := t, stack := r })))

/-- YIELD (R200): not ready until the tile observes the next tick boundary. -/
def execYield (k : Fin 1536) (w : AfiWord) (s : State) : Host.Outcome State Fault Refusal :=
  settle s (s.afi k.val w (plainFlow 0x23 fun s h =>
    .ok (s.modHoist h.num fun h => { h with notBefore := s.tick + 1 })))

/-- WAITT (R199): the work tick ends. -/
def execWaitt (k : Fin 1536) (w : AfiWord) (s : State) : Host.Outcome State Fault Refusal :=
  settle s (s.afi k.val w (plainFlow 0x24 fun s h => .ok (s.endTick h.num)))

/-- HALT (R201): the thread stops, recorded as the fault HALTED. -/
def execHalt (k : Fin 1536) (w : AfiWord) (s : State) : Host.Outcome State Fault Refusal :=
  settle s (s.afi k.val w (plainFlow 0x25 fun _ _ => .fault Flt.halted))

/-! ## Context and memory (R202, R203, R239) -/

/-- Address of a format C operand: the base register plus the offset, modulo 2^64. -/
def cAddr (h : Hoist) (w : Nat) : Nat := (h.reg (fBase w) + fOff w) % 2 ^ 64
/-- Words of the constants space of a thread's image. -/
def State.constWords (s : State) (h : Hoist) : Nat := match s.imgOf h with | some i => i.constWords | none => 0
/-- Byte offset of a thread's scratch window in its tile's SRAM (R203). -/
def scratchBase (h : Hoist) : Nat := h.at_ % 192 * 0x2000
/-- A scratch word: a free value where the work tick has not written it (R203). -/
def State.scratchWord (s : State) (h : Hoist) (i : Nat) : Nat × State :=
  if h.scratch.contains i then (s.rdLE (Sp.tile h.tile) (scratchBase h + 8 * i) 8, s)
  else let (v, s) := s.draw; (v.toNat, s)
/-- Write a scratch word. -/
def State.setScratch (s : State) (h : Hoist) (i v : Nat) : State :=
  (s.wrLE (Sp.tile h.tile) (scratchBase h + 8 * i) 8 v).modHoist h.num fun h =>
    { h with scratch := if h.scratch.contains i then h.scratch else i :: h.scratch }
/-- Address of a word of a hoist's local data window. -/
def localAddr (k i : Nat) : Nat := k * 0x800 + 8 * i

/-- The event of a memory error found by a read (R467); kinds 1 tile SRAM, 3 engine local data. -/
def State.memError (s : State) (kind : Nat) (err : Option Bool) : State :=
  match err with | none => s | some u => s.raise { src := 904, code := b2n u, subject := kind }

/-- `LDC` (R202, R239). An uncorrectable error of tile SRAM delivers a free value (log 27). -/
def ldcBody (s : State) (h : Hoist) (a : AfiWord) : Res :=
  let w := AfiBits a
  let i := cAddr h w
  let put (s : State) (v : Nat) : Res := .ok (s.wReg h.num (fRd w) v)
  let lost (s : State) (v : Nat) : Res :=
    if a.rdErr = some true then let (f, s) := s.draw; put s f.toNat else put s v
  chk (fOp w ≠ 0x28) Flt.illegal (match fSpace w with
    | 0 => chk (decide (32 ≤ i)) Flt.mem (chk (fBase w ≠ 0) Flt.operand (put s (s.chan h.cur i)))
    | 1 =>
      let s := s.memError 3 a.rdErr
      if i < 256 ∧ a.rdErr = some true then .fault Flt.ecc
      else chk (decide (256 ≤ i)) Flt.mem (put s (s.rdLE Sp.locals (localAddr h.num i) 8))
    | 2 => chk (decide (1024 ≤ i)) Flt.mem (
        let s := s.memError 1 a.rdErr
        let (v, s) := s.scratchWord h i
        lost s v)
    | _ => chk (decide (s.constWords h ≤ i)) Flt.mem (
        let s := s.memError 1 a.rdErr
        let off := match s.imgOf h with | some m => m.constOff | none => 0
        lost s (s.rdLE (Sp.tile h.tile) (off + 8 * i) 8)))

/-- LDC (R239). -/
def execLdc (k : Fin 1536) (w : AfiWord) (s : State) : Host.Outcome State Fault Refusal :=
  settle s (s.afi k.val w ldcBody)

/-- `STC` (R175, R202, R239). -/
def stcBody (s : State) (h : Hoist) (a : AfiWord) : Res :=
  let w := AfiBits a
  let i := cAddr h w
  let v := h.reg (fRd w)
  chk (fOp w ≠ 0x29) Flt.illegal (match fSpace w with
    | 0 => chk (decide (i < 8)) Flt.ctxWrite (chk (decide (32 ≤ i)) Flt.mem (chk (fBase w ≠ 0) Flt.operand
        (.ok (s.setChan h.cur i v))))
    | 1 => chk (decide (256 ≤ i)) Flt.mem (.ok (s.wrLE Sp.locals (localAddr h.num i) 8 v))
    | 2 => chk (decide (1024 ≤ i)) Flt.mem (.ok (s.setScratch h i v))
    | _ => .fault Flt.mem)

/-- STC (R239). -/
def execStc (k : Fin 1536) (w : AfiWord) (s : State) : Host.Outcome State Fault Refusal :=
  settle s (s.afi k.val w stcBody)

/-! ## NEXTC (R197, R198, R205, R240) -/

/-- The end-of-tick marker (R198). -/
def markerWord (tick lastBits : Nat) : TWord := ⟨BitVec.ofNat 64 (tick % 2 ^ 51 + (lastBits % 64) * 2 ^ 51), 0x18⟩

/-- Whether a channel's header names a queue in an enabled aux slot. -/
def State.namesAux (s : State) (c q : Nat) : Bool := s.chQueue c 2 = some q || s.chQueue c 3 = some q

/-- The queues closed by the `NEXTC` of the member at `hx` (R205): its release queue, and the aux queues it names that no later
member names. -/
def State.closedBy (s : State) (h : Hoist) (rel : Nat) : List Nat :=
  let later := h.members.drop (h.hx + 1)
  (s.writtenQueues h.num).filter fun q =>
    q = rel || (s.namesAux h.cur q && !(later.any fun c => s.namesAux c q))

/-- The member's output for W ends (R197): the cursor is flushed, the marker written, `LAST_DONE` set, the pennant of the marker
kept for the release stage (R298), the queues closed. -/
def State.finishMember (s : State) (h : Hoist) (rel : Nat) : State :=
  let s := s.flushOut h rel
  let lb := match s.hoist h.num with | some g => g.lastBits | none => 0
  let r := s.threadPush h rel (markerWord h.w lb)
  let s := r.2.setChan h.cur 6 h.w
  let s := { s with marks := ⟨h.cur, h.w, s.pennant h.cur, s.tick⟩ :: s.marks }
  let s := s.each (s.closedBy h rel) fun s q => s.closeFor h.num q
  s.modHoist h.num fun h => { h with lastBits := 0 }

/-- NEXTC (R197, R240, R511). -/
def execNextc (k : Fin 1536) (w : AfiWord) (s : State) : Host.Outcome State Fault Refusal :=
  settle s (s.afi k.val w fun s h a =>
    let w := AfiBits a
    let last (s : State) : Res := .ok ((s.modHoist h.num fun h => { h with lastDone := true }).wPr h.num (fPdP w) false)
    chk (fOp w ≠ 0x2A || bitsOf w 0 19 ≠ 0) Flt.illegal (
      if h.lastDone then .ok (s.wPr h.num (fPdP w) false) else
      match s.slotQueue h 1 with
      | none => .fault Flt.queue
      | some e =>
        let s := s.finishMember h e.num
        if h.members.length ≤ h.hx + 1 then last s else
        let (ok, t) := State.mapMember h.members.length (s.modHoist h.num fun h => { h with hx := h.hx + 1 }) h.num
        if ok then .ok (t.wPr h.num (fPdP w) true) else last s))

/-! ## Queue instructions (R241 to R243) -/

/-- Whether a queue's attributes name a hoist as its writer (R345). -/
def State.writes (s : State) (k q : Nat) : Bool :=
  s.on (F.QUE_W_CFG_WRITER q) && s.cfg (F.QUE_W_HOIST_W_HOIST q) = k

/-- ENQ (R241). -/
def execEnq (k : Fin 1536) (w : AfiWord) (s : State) : Host.Outcome State Fault Refusal :=
  settle s (s.afi k.val w fun s h a =>
    let w := AfiBits a
    let slot := fSpace w
    let byReg := bitOf w 12
    let tags := (if byReg then h.reg (fLow w) else fQ w) % 32
    let spare := if byReg then bitsOf w 4 8 else bitsOf w 5 7
    chk (fOp w ≠ 0x2C || slot = 0 || fPdQ w ≠ 0 || spare ≠ 0) Flt.illegal (
      match s.slotQueue h slot with
      | none => .fault Flt.queue
      | some e =>
        chk (tags = 0x18 || (decide (2 ≤ slot) && !s.writes h.num e.num)) Flt.operand (
          let x : TWord := ⟨BitVec.ofNat 64 (h.reg (fRd w)), BitVec.ofNat 5 tags⟩
          if slot = 1 then .ok ((s.flushOut h e.num).writeRel h e.num x (8 * validCount x.tag))
          else .ok (s.threadPush h e.num x).2)))

/-- DEQ (R206, R242, R350, R358). -/
def deqBody (s : State) (h : Hoist) (a : AfiWord) : Res :=
  let w := AfiBits a
  let slot := fSpace w
  let put (s : State) (d t : Nat) (p : Bool) : Res :=
    .ok (((s.wReg h.num (fRd w) d).wReg h.num (fLow w) t).wPr h.num (fPdQ w) p)
  chk (fOp w ≠ 0x2D || slot = 1 || bitsOf w 4 9 ≠ 0) Flt.illegal (
    match s.slotQueue h slot with
    | none => .fault Flt.queue
    | some e0 =>
      chk (decide (2 ≤ slot) && s.writes h.num e0.num) Flt.operand (
        let q := e0.num
        let skip := decide (slot = 0) && e0.bit ≠ 0
        let need := if skip then 2 else 1
        let n := (viewWords e0 h.w).length
        if !gatePassed e0 h.w && decide (n < need) then .wait else
        let s := if skip then s.dropHead q else s
        if n < need then put (s.tal 18 3 1) (s.substWord q).toNat 32 false else
        let s := s.checkHead ((s.queue q).getD e0) a.rdErr
        match s.queue q with
        | none => .fault Flt.queue
        | some e => match e.words with
          | [] => .fault Flt.queue
          | x :: _ =>
            let s := s.dropHead q
            if x.poison then put s (s.substWord q).toNat 32 true else put s x.data.toNat x.tag.toNat true))

/-- DEQ (R242). -/
def execDeq (k : Fin 1536) (w : AfiWord) (s : State) : Host.Outcome State Fault Refusal :=
  settle s (s.afi k.val w deqBody)

/-- QSTAT (R243). -/
def qstatBody (s : State) (h : Hoist) (a : AfiWord) : Res :=
  let w := AfiBits a
  let slot := fSpace w
  let sel := bitsOf w 0 3
  chk (fOp w ≠ 0x2E || slot = 1 || decide (4 ≤ sel) || bitsOf w 3 10 ≠ 0) Flt.illegal (
    match s.slotQueue h slot with
    | none => .fault Flt.queue
    | some e =>
      if !gatePassed e h.w then .wait else
      let ws := viewWords e h.w
      let part := b2n (decide (slot = 0) && e.bit ≠ 0)
      let v := match sel with
        | 0 => if slot = 0 then (s.viewBits e h.w).length else 64 * ws.length
        | 1 => ws.length - part
        | 2 => (ws.filter fun x => tagEnd x.tag && !isMarker x.tag).length
        | _ => b2n (e.incomplete.contains h.w)
      .ok ((s.wReg h.num (fRd w) v).wPr h.num (fPdQ w) (v ≠ 0)))

/-- QSTAT (R243). -/
def execQstat (k : Fin 1536) (w : AfiWord) (s : State) : Host.Outcome State Fault Refusal :=
  settle s (s.afi k.val w qstatBody)

end Sys2Proof.Machine
end

