-- ==== Sys2Proof/Machine/AfiHelper.lean ====
section
/-! DEFINITION. The helpers, check-unit, event and time instructions (R244 to R254), and the end of a wait for a gate (R29). -/

namespace Sys2Proof.Machine

/-- Range maximum and expected SS bits of a pointer kind (R244). -/
def ptrKind : Nat → Nat × Nat
  | 0 => (782, 2)
  | 1 => (764, 2)
  | 2 => (427, 0)
  | 3 => (139, 2)
  | _ => (103, 3)

/-- Bits of a 4-bit value equal to a pattern's. -/
def sameBits (n pat : Nat) : Nat := 4 - popCount 4 (n ^^^ pat)

/-- `PTRI`'s classification (R245) of pointer word `p` against the accepted pointer `acc`. -/
def pointerClass (p acc kind : Nat) (ssOpt : Bool) : Nat :=
  let (top, expected) := ptrKind kind
  let n := bitsOf p 12 4
  let ss := bitsOf p 10 2
  let v := bitsOf p 0 10
  let valid := bitOf acc 15
  let ndfOn := 3 ≤ sameBits n 9
  let ndfOff := 3 ≤ sameBits n 6
  let diff := v ^^^ bitsOf acc 0 10
  let ni := popCount 10 (diff &&& 0x2AA)
  let nd := popCount 10 (diff &&& 0x155)
  let ssm := ss ≠ expected
  let cls : Nat :=
    if p = 0xFFFF then 5
    else if kind = 0 ∧ ndfOn ∧ v = 0x3FF then 7
    else if ssm ∧ !ssOpt then 6
    else if ndfOn then (if v ≤ top then 2 else 6)
    else if ndfOff then
      (if valid ∧ 3 ≤ ni ∧ nd ≤ 2 then 3
       else if valid ∧ 3 ≤ nd ∧ ni ≤ 2 then 4
       else if top < v then 6
       else if valid ∧ v = bitsOf acc 0 10 then 0
       else 1)
    else 6
  v + cls * 2 ^ 16 + (if ssm then 1 else 0) * 2 ^ 20 + ni * 2 ^ 24 + nd * 2 ^ 28

/-- PTRI (R244, R245). -/
def execPtri (k : Fin 1536) (w : AfiWord) (s : State) : Host.Outcome State Fault Refusal :=
  settle s (s.afi k.val w fun s h a =>
    let w := AfiBits a
    let x := h.reg (fRa w)
    let y := h.reg (fRb w)
    chk (fOp w ≠ 0x30 || bitsOf w 8 2 ≠ 0 || decide (4 < bitsOf w 5 3) || fLow w ≠ 0) Flt.illegal
      (chk (decide (2 ^ 16 ≤ x) || bitsOf y 10 5 ≠ 0 || decide (2 ^ 16 ≤ y)) Flt.operand
        (.ok (s.wReg h.num (fRd w) (pointerClass x y (bitsOf w 5 3) (bitOf w 4))))))

/-- `BIPA`'s fold of the first `c` bytes of `x` into `acc` (R246). -/
def bipFold (x acc c : Nat) (wide : Bool) : Nat :=
  let bytes := (List.range c).map fun i => bitsOf x (56 - 8 * i) 8
  let v := bytes.foldl (· ^^^ ·) 0
  if wide then acc ^^^ v else acc ^^^ (b2n (parityOf 0xAA v) * 2 + b2n (parityOf 0x55 v))

/-- BIPA (R246). -/
def execBipa (k : Fin 1536) (w : AfiWord) (s : State) : Host.Outcome State Fault Refusal :=
  settle s (s.afi k.val w fun s h a =>
    let w := AfiBits a
    chk (fOp w ≠ 0x30 || bitsOf w 8 2 ≠ 1 || fLow w ≠ 0) Flt.illegal
      (.ok (s.wReg h.num (fRd w) (bipFold (h.reg (fRa w)) (h.reg (fRb w)) (bitsOf w 4 3 + 1) (bitOf w 7)))))

/-- The 16-bit sample of a G.711 code (R247), the decoded value times 8 for A-law and 4 for µ-law (log 28). -/
def g711Expand (mu : Bool) (code : Nat) : Int :=
  if mu then
    let u := 255 - code
    let t : Int := (((u % 16) * 8 + 0x84) * 2 ^ bitsOf u 4 3 : Nat)
    if 128 ≤ u then 0x84 - t else t - 0x84
  else
    let a := code ^^^ 0x55
    let seg := bitsOf a 4 3
    let t : Int := (if seg = 0 then (a % 16) * 16 + 8 else ((a % 16) * 16 + 0x108) * 2 ^ (seg - 1) : Nat)
    if 128 ≤ a then t else -t
/-- The segment of a magnitude: the first whose end is not below it. -/
def g711Seg (ends : List Nat) (v : Nat) : Nat := (ends.takeWhile (· < v)).length
/-- The G.711 code of a 16-bit sample (R247): shifted right arithmetically, then encoded (log 28). -/
def g711Compress (mu : Bool) (sample : Int) : Nat :=
  if mu then
    let v := sample / 4
    let m := Nat.min v.natAbs 8159 + 33
    let seg := g711Seg [0x3F, 0x7F, 0xFF, 0x1FF, 0x3FF, 0x7FF, 0xFFF, 0x1FFF] m
    let mask := if v < 0 then 0x7F else 0xFF
    (if 8 ≤ seg then 0x7F else seg * 16 + m / 2 ^ (seg + 1) % 16) ^^^ mask
  else
    let v := sample / 8
    let m := (if v < 0 then -v - 1 else v).toNat
    let seg := g711Seg [0x1F, 0x3F, 0x7F, 0xFF, 0x1FF, 0x3FF, 0x7FF, 0xFFF] m
    let mask := if v < 0 then 0x55 else 0xD5
    (if 8 ≤ seg then 0x7F else seg * 16 + m / 2 ^ (if seg < 2 then 1 else seg) % 16) ^^^ mask

/-- The four samples or codes of `CMPD` (R247). -/
def compand (mu toCode : Bool) (x : Nat) : Nat :=
  sumL ((List.range 4).map fun i =>
    if toCode then g711Compress mu (sgn 16 (bitsOf x (48 - 16 * i) 16)) * 2 ^ (24 - 8 * i)
    else unsgn 16 (g711Expand mu (bitsOf x (24 - 8 * i) 8)) * 2 ^ (48 - 16 * i))

/-- CMPD (R247). -/
def execCmpd (k : Fin 1536) (w : AfiWord) (s : State) : Host.Outcome State Fault Refusal :=
  settle s (s.afi k.val w fun s h a =>
    let w := AfiBits a
    let x := h.reg (fRa w)
    chk (fOp w ≠ 0x30 || bitsOf w 8 2 ≠ 2 || bitsOf w 4 2 ≠ 0 || fRb w ≠ 0 || fLow w ≠ 0) Flt.illegal
      (chk (!bitOf w 6 && decide (2 ^ 32 ≤ x)) Flt.operand
        (.ok (s.wReg h.num (fRd w) (compand (bitOf w 7) (bitOf w 6) x)))))

/-! ## Interleavers (R248) -/

/-- Byte `j` of a run of scratch words; unwritten words are free values (R203). -/
def byteOf (ws : List Nat) (j : Nat) : Nat := bitsOf (ws.getD (j / 8) 0) (56 - 8 * (j % 8)) 8
/-- The words of a byte string, the first byte in bits [63:56], the last word padded with 0. -/
def packWords (bs : List Nat) : List Nat :=
  (List.range ((bs.length + 7) / 8)).map fun i => leNat (((List.range 8).map fun j => BitVec.ofNat 8 (bs.getD (8 * i + j) 0)).reverse)
/-- Scratch words from index `i`. -/
def State.scratchRun (s : State) (h : Hoist) (i n : Nat) : List Nat × State :=
  (List.range n).foldl (fun p j => let (v, s) := p.2.scratchWord h (i + j); (p.1 ++ [v], s)) ([], s)
/-- Write scratch words from index `i`. -/
def State.setScratchRun (s : State) (h : Hoist) (i : Nat) (ws : List Nat) : State :=
  s.each ws.zipIdx fun s p => s.setScratch h (i + p.2) p.1

/-- `ILV` and `DILV` (R248): N blocks of K bytes and one interleaved string; `out` says that the string is written. -/
def interleave (op : Nat) (out : Bool) (s : State) (h : Hoist) (a : AfiWord) : Res :=
  let w := AfiBits a
  let n := fFn w + 1
  let x := h.reg (fRa w)
  let y := h.reg (fRb w)
  let b0 := bitsOf x 0 10
  let bl := bitsOf x 16 10
  let i0 := bitsOf y 0 10
  let kb := bitsOf y 16 10
  let bw := (kb + 7) / 8
  let iw := (n * kb + 7) / 8
  let starts := (List.range n).map fun i => b0 + i * bl
  let outside := kb ≠ 0 && (starts.any (fun b => decide (1024 < b + bw)) || decide (1024 < i0 + iw))
  let stray := bitsOf x 10 6 ≠ 0 || bitsOf x 26 38 ≠ 0 || bitsOf y 10 6 ≠ 0 || bitsOf y 26 38 ≠ 0
  let meet := starts.any fun b => decide (b < i0 + iw ∧ i0 < b + bw)
  chk (fOp w ≠ op || fLow w ≠ 0) Flt.illegal (chk outside Flt.mem (
    chk (stray || kb = 0 || bl = 0 || decide (8 * bl < kb) || meet) Flt.operand (
      let s := s.wReg h.num (fRd w) (n * kb)
      if out then
        let (blocks, s) := starts.foldl (fun (p : List (List Nat) × State) b =>
          let (ws, s) := p.2.scratchRun h b bw; (p.1 ++ [ws], s)) ([], s)
        let bytes := (List.range (n * kb)).map fun m => byteOf (blocks.getD (m % n) []) (m / n)
        .ok (s.setScratchRun h i0 (packWords bytes))
      else
        let (ws, s) := s.scratchRun h i0 iw
        .ok (s.each starts.zipIdx fun s p =>
          s.setScratchRun h p.1 (packWords ((List.range kb).map fun j => byteOf ws (j * n + p.2)))))))

/-- ILV (R248): byte j of block i goes to byte j × N + i of the string. -/
def execIlv (k : Fin 1536) (w : AfiWord) (s : State) : Host.Outcome State Fault Refusal :=
  settle s (s.afi k.val w (interleave 0x31 true))

/-- DILV (R248): byte j × N + i of the string goes to byte j of block i. -/
def execDilv (k : Fin 1536) (w : AfiWord) (s : State) : Host.Outcome State Fault Refusal :=
  settle s (s.afi k.val w (interleave 0x32 false))

/-! ## Check units (R249, R250, R363, R368, R369, R379) -/

/-- The unit that a `CKF` of hoist `k` for channel `c` acts on, or the fault (R212, R250, R362, R368, R369). -/
def State.ckfUnit (s : State) (k c : Nat) : Nat ⊕ Nat :=
  match s.chCku c with
  | none => .inr Flt.cku
  | some n =>
    if !s.on (F.CK_CFG_ENABLE n) then .inr Flt.cku else
    let mine (m : Nat) : Bool := s.cfg (F.CK_BIND_TARGET m) % 2048 = k
    let mode := s.cfg (F.CK_CFG_MODE n)
    if mode = Mode.program then (if mine n then .inl n else .inr Flt.cku)
    else if mode = Mode.digest ∧ s.on (F.CK_CFG_CKF_REDIR n) then
      let m := s.cfg (F.CK_FILT_CKF_UNIT n)
      if s.on (F.CK_CFG_ENABLE m) ∧ s.cfg (F.CK_CFG_MODE m) = Mode.program ∧ mine m then .inl m else .inr Flt.cku
    else .inr Flt.operand

/-- A `CKF` operation (R249): the form, the unit, the operation's own effect `f` on unit n. -/
def ckfBody (opc : Nat) (feed usesRd check : Bool) (f : State → Hoist → Nat → Nat → Res) (s : State) (h : Hoist) (a : AfiWord) : Res :=
  let w := AfiBits a
  let bad := fOp w ≠ 0x33 || fSpace w ≠ 0 || bitsOf w 10 3 ≠ opc || bitsOf w 6 4 ≠ 0 || (!feed && bitsOf w 0 6 ≠ 0)
    || (!check && fPdQ w ≠ 0) || (!usesRd && fRd w ≠ 0)
  chk bad Flt.illegal (match s.ckfUnit h.num h.cur with
    | .inr c => .fault c
    | .inl n => f (s.tal 19 3 1) h n w)

/-- The phase of a unit (R368). -/
def State.ckPhase (s : State) (n : Nat) : Nat := s.get (F.CK_STATUS_PHASE n)
/-- A posted operation leaves the unit open, in a phase. -/
def State.ckPosted (s : State) (n phase : Nat) : State := (s.set (F.CK_STATUS_PHASE n) phase).put (F.CK_STATUS_OPEN n) true

/-- CKF.reset (R249). -/
def execCkfReset (k : Fin 1536) (w : AfiWord) (s : State) : Host.Outcome State Fault Refusal :=
  settle s (s.afi k.val w (ckfBody 0 false false false fun s _ n _ => .ok ((s.ckReset n).ckPosted n 0)))

/-- CKF.prefix (R249, R250). -/
def execCkfPrefix (k : Fin 1536) (w : AfiWord) (s : State) : Host.Outcome State Fault Refusal :=
  settle s (s.afi k.val w (ckfBody 1 false true false fun s h n w =>
    chk (decide (2 ≤ s.ckPhase n) || s.cfg (F.CK_CFG_FOLDW n) = 0) Flt.operand
      (.ok ((s.ckFold n (h.reg (fRd w))).ckPosted n 1))))

/-- CKF.feed (R249, R250, R363): n bits of rs from bit 63; with `REFIN` whole bytes only. -/
def execCkfFeed (k : Fin 1536) (w : AfiWord) (s : State) : Host.Outcome State Fault Refusal :=
  settle s (s.afi k.val w (ckfBody 2 true true false fun s h n w =>
    let cnt := bitsOf w 0 6 + 1
    let refin := s.on (F.CK_CFG_REFIN n)
    let v := h.reg (fRd w)
    chk (s.ckPhase n = 3 || (refin && cnt % 8 ≠ 0)) Flt.operand (
      let s := if refin then s.ckBytes n ((wordBytes (BitVec.ofNat 64 v)).take (cnt / 8))
        else s.ckSetRun n (crcBits (s.ckWidth n) (s.cfg (F.CK_POLY n)) (s.ckRun n) ((bitsMsb 64 v).take cnt))
      .ok (s.ckPosted n 2))))

/-- CKF.suffix (R249, R250). -/
def execCkfSuffix (k : Fin 1536) (w : AfiWord) (s : State) : Host.Outcome State Fault Refusal :=
  settle s (s.afi k.val w (ckfBody 3 false true false fun s h n w =>
    chk (s.cfg (F.CK_CFG_FOLDW n) = 0) Flt.operand (.ok ((s.ckFold n (h.reg (fRd w))).ckPosted n 3))))

/-- The end of a program's body (R368, R379): `CKn_RESULT` holds the final value; a body that failed its parity counts no
more. -/
def State.ckEnd (s : State) (n : Nat) : State :=
  let s := (s.set (F.CK_RESULT n) (s.ckFinal n)).put (F.CK_STATUS_OPEN n) false
  (s.modCku n fun c => { c with failed := false }).tal 19 0 1

/-- CKF.read (R249, R368, R379): a body that failed its parity reads 0. -/
def execCkfRead (k : Fin 1536) (w : AfiWord) (s : State) : Host.Outcome State Fault Refusal :=
  settle s (s.afi k.val w (ckfBody 4 false true false fun s h n w =>
    .ok ((s.ckEnd n).wReg h.num (fRd w) (if (s.cku n).failed then 0 else s.ckFinal n))))

/-- CKF.check (R249, R368, R379): a body that failed its parity fails its check. -/
def execCkfCheck (k : Fin 1536) (w : AfiWord) (s : State) : Host.Outcome State Fault Refusal :=
  settle s (s.afi k.val w (ckfBody 5 false true true fun s h n w =>
    .ok ((s.ckEnd n).wPr h.num (fPdQ w)
      (!(s.cku n).failed && s.ckFinal n = h.reg (fRd w) % 2 ^ s.ckWidth n))))

/-! ## Events, pennant, time, facts (R251 to R254) -/

/-- RAISE (R251, R467, R469): one event of source 992 + code, stamped with the start of work tick W. -/
def execRaise (k : Fin 1536) (w : AfiWord) (s : State) : Host.Outcome State Fault Refusal :=
  settle s (s.afi k.val w fun s h a =>
    let w := AfiBits a
    chk (fOp w ≠ 0x34 || fRd w ≠ 0 || !immFits a 5) Flt.illegal
      (.ok (s.raise { src := 992 + fImm w, cls := some h.cls, prog := true, data := h.reg (fRa w), subject := h.num,
                      hx := h.hx, stamp := some (h.w * 8192 % 2 ^ 64) })))

/-- PEN (R252, R183): pennant bits [32:0] under a mask; a change of `DEFECTS` or `DEFECT_FLAG` marks the hoist bitmap. -/
def execPen (k : Fin 1536) (w : AfiWord) (s : State) : Host.Outcome State Fault Refusal :=
  settle s (s.afi k.val w fun s h a =>
    let w := AfiBits a
    let rs := h.reg (fRa w)
    let m := h.reg (fRb w)
    chk (fOp w ≠ 0x35 || fRd w ≠ 0 || fFn w ≠ 0 || fLow w ≠ 0) Flt.illegal
      (chk (2 ^ 33 ≤ m) Flt.operand (
        let p := s.pennant h.cur
        let n := p - (p &&& m) + (rs &&& m)
        let s := if n = p then s else s.setChan h.cur 5 n
        let seen (v : Nat) : Nat × Bool := (bitsOf v 0 16, bitOf v 32)
        if seen n = seen p then .ok s else
        .ok ((s.setHbm h.num h.hx).gather { src := tileSrc (h.num / 192), code := 1, cls := some h.cls, subject := h.num }))))

/-- The shared form of `TICK` (R253): the immediate selects `form`; `ra` is used by form 1 only. -/
def tickBody (form : Nat) (f : State → Hoist → Nat → Res) (s : State) (h : Hoist) (a : AfiWord) : Res :=
  let w := AfiBits a
  chk (fOp w ≠ 0x36 || !immFits a 2 || fImm w ≠ form || (form ≠ 1 && fRa w ≠ 0)) Flt.illegal (f s h w)

/-- TICK.work (R253): rd := W × 8,192. -/
def execTickWork (k : Fin 1536) (w : AfiWord) (s : State) : Host.Outcome State Fault Refusal :=
  settle s (s.afi k.val w (tickBody 0 fun s h w => .ok (s.wReg h.num (fRd w) (h.w * 8192))))

/-- `TICK.ref` (R253, R270): rd := W × 8,192, and a frame start reported at a bit of the view. -/
def tickRefBody (s : State) (h : Hoist) (a : AfiWord) : Res :=
  tickBody 1 (fun s h w =>
    let r := h.reg (fRa w)
    let off := bitsOf r 0 16
    match s.slotQueue h 0 with
    | none => .fault Flt.queue
    | some e =>
      chk (bitsOf r 16 47 ≠ 0) Flt.operand (
        let n := (s.viewBits e h.w).length
        if !gatePassed e h.w && decide (n ≤ off) then .wait else
        chk (decide (n ≤ off)) Flt.operand (
          let s := s.wReg h.num (fRd w) (h.w * 8192)
          .ok (s.each [RefSlot.pri, RefSlot.alt] fun s sl => s.lineReport sl h.cur h.w (bitOf r 63))))) s h a

/-- TICK.ref (R253). -/
def execTickRef (k : Fin 1536) (w : AfiWord) (s : State) : Host.Outcome State Fault Refusal :=
  settle s (s.afi k.val w tickRefBody)

/-- TICK.live (R253): rd := the TS64 at issue; B hoists only. -/
def execTickLive (k : Fin 1536) (w : AfiWord) (s : State) : Host.Outcome State Fault Refusal :=
  settle s (s.afi k.val w (tickBody 2 fun s h w =>
    chk (h.cls ≠ 3) Flt.determinism (.ok (s.wReg h.num (fRd w) s.ts64))))

/-- Whether Pennant Mode was in force at tick `n` (R114, R117). -/
def State.pennantAt (s : State) (n : Nat) : Bool :=
  s.pwr.spells.any fun p => decide (p.entry ≤ n) && (match p.exit with | some x => decide (n < x) | none => true)
/-- Whether the Pennant placement was in force at tick `n` (R114, R117). -/
def State.placedAt (s : State) (n : Nat) : Bool :=
  s.pwr.spells.any fun p => (match p.moved with | some m => decide (m ≤ n) | none => false)
    && (match p.exit with | some x => decide (n < x) | none => true)

/-- The facts of `CLASS` (R254). -/
def State.classFact (s : State) (h : Hoist) : Nat → Nat
  | 0 => h.cls + h.lat * 2 ^ 8 + b2n h.emerg * 2 ^ 16
  | 1 => b2n (s.pennantAt (h.w + 1))
      + 2 * b2n (s.placedAt (h.w + 1) && h.pennantAt.isSome && s.runsInPennant h)
  | _ => h.num + h.hx * 2 ^ 16 + h.members.length * 2 ^ 24

/-- CLASS (R254). -/
def execClassify (k : Fin 1536) (w : AfiWord) (s : State) : Host.Outcome State Fault Refusal :=
  settle s (s.afi k.val w fun s h a =>
    let w := AfiBits a
    chk (fOp w ≠ 0x37 || fRa w ≠ 0 || !immFits a 2 || fImm w = 3) Flt.illegal
      (.ok (s.wReg h.num (fRd w) (s.classFact h (fImm w)))))

/-! ## The end of a wait for a gate (R29) -/

/-- The effect of an instruction that can wait for a gate, by its opcode. -/
def gatedBody (op : Nat) : State → Hoist → AfiWord → Res :=
  match op with
  | 0x10 => inBody 0x10 true true
  | 0x11 => inBody 0x11 true false
  | 0x13 => inBody 0x13 false true
  | 0x14 => alignBody
  | 0x18 => patternBody 0x18 matchCount
  | 0x19 => patternBody 0x19 huntBits
  | 0x2D => deqBody
  | 0x36 => tickRefBody
  | _ => qstatBody

/-- GATE_STALL_END (R29): a thread that waits for a gate tries its access again; it waits on while the gate stands. -/
def execGateStallEnd (k : Fin 1536) (s : State) : Host.Outcome State Fault Refusal :=
  settle s (match s.hoist k.val with
    | none => s
    | some h => match h.stall with
      | none => s
      | some st =>
        let a : AfiWord := ⟨st.pfx, st.w, false, none⟩
        (s.modHoist k.val fun h => { h with stall := none }).afi k.val a (gatedBody (fOp (AfiBits a))))

end Sys2Proof.Machine
end

