-- ==== Sys2Proof/Machine/Crypto.lean ====
section
/-! DEFINITION. The standards that R219 and R503 to R505 name for images: SHA-384 (FIPS 180-4) and the verification of an ECDSA
signature over P-384 (FIPS 186-4), taken from the standards (PRESUMED, log 60). -/

namespace Sys2Proof.Machine

/-! ## SHA-384 -/

/-- The round constants: the first 64 bits of the fractional parts of the cube roots of the first 80 primes. -/
def shaK0 : List Word :=
  [0x428a2f98d728ae22, 0x7137449123ef65cd, 0xb5c0fbcfec4d3b2f, 0xe9b5dba58189dbbc,
   0x3956c25bf348b538, 0x59f111f1b605d019, 0x923f82a4af194f9b, 0xab1c5ed5da6d8118,
   0xd807aa98a3030242, 0x12835b0145706fbe, 0x243185be4ee4b28c, 0x550c7dc3d5ffb4e2,
   0x72be5d74f27b896f, 0x80deb1fe3b1696b1, 0x9bdc06a725c71235, 0xc19bf174cf692694,
   0xe49b69c19ef14ad2, 0xefbe4786384f25e3, 0x0fc19dc68b8cd5b5, 0x240ca1cc77ac9c65]
def shaK1 : List Word :=
  [0x2de92c6f592b0275, 0x4a7484aa6ea6e483, 0x5cb0a9dcbd41fbd4, 0x76f988da831153b5,
   0x983e5152ee66dfab, 0xa831c66d2db43210, 0xb00327c898fb213f, 0xbf597fc7beef0ee4,
   0xc6e00bf33da88fc2, 0xd5a79147930aa725, 0x06ca6351e003826f, 0x142929670a0e6e70,
   0x27b70a8546d22ffc, 0x2e1b21385c26c926, 0x4d2c6dfc5ac42aed, 0x53380d139d95b3df,
   0x650a73548baf63de, 0x766a0abb3c77b2a8, 0x81c2c92e47edaee6, 0x92722c851482353b]
def shaK2 : List Word :=
  [0xa2bfe8a14cf10364, 0xa81a664bbc423001, 0xc24b8b70d0f89791, 0xc76c51a30654be30,
   0xd192e819d6ef5218, 0xd69906245565a910, 0xf40e35855771202a, 0x106aa07032bbd1b8,
   0x19a4c116b8d2d0c8, 0x1e376c085141ab53, 0x2748774cdf8eeb99, 0x34b0bcb5e19b48a8,
   0x391c0cb3c5c95a63, 0x4ed8aa4ae3418acb, 0x5b9cca4f7763e373, 0x682e6ff3d6b2b8a3,
   0x748f82ee5defb2fc, 0x78a5636f43172f60, 0x84c87814a1f0ab72, 0x8cc702081a6439ec]
def shaK3 : List Word :=
  [0x90befffa23631e28, 0xa4506cebde82bde9, 0xbef9a3f7b2c67915, 0xc67178f2e372532b,
   0xca273eceea26619c, 0xd186b8c721c0c207, 0xeada7dd6cde0eb1e, 0xf57d4f7fee6ed178,
   0x06f067aa72176fba, 0x0a637dc5a2c898a6, 0x113f9804bef90dae, 0x1b710b35131c471b,
   0x28db77f523047d84, 0x32caab7b40c72493, 0x3c9ebe0a15c9bebc, 0x431d67c49c100d4c,
   0x4cc5d4becb3e42b6, 0x597f299cfc657e2a, 0x5fcb6fab3ad6faec, 0x6c44198c4a475817]
def shaK : List Word := shaK0 ++ shaK1 ++ shaK2 ++ shaK3
/-- The initial value. -/
def shaInit : List Word :=
  [0xcbbb9d5dc1059ed8, 0x629a292a367cd507, 0x9159015a3070dd17, 0x152fecd8f70e5939,
   0x67332667ffc00b31, 0x8eb44a8768581511, 0xdb0c2e0d64f98fa7, 0x47b5481dbefa4fa4]

/-- A string of bytes as a number, the first byte most significant, and the reverse. -/
def octetsNat (bs : List Byte) : Nat := bs.foldl (fun a b => a * 256 + b.toNat) 0
def natOctets (n v : Nat) : List Byte := (leBytes n v).reverse

/-- The message padded to whole blocks of 128 bytes. -/
def shaPad (m : List Byte) : List Byte :=
  m ++ [0x80] ++ List.replicate ((111 + 128 - m.length % 128) % 128) 0 ++ natOctets 16 (8 * m.length)

/-- The words of the message schedule, newest first: `n` more after those in `w`. -/
def shaExtend : Nat → List Word → List Word
  | 0, w => w
  | n + 1, w =>
    let x (i : Nat) : Word := w.getD i 0
    let s0 := (x 14).rotateRight 1 ^^^ (x 14).rotateRight 8 ^^^ (x 14) >>> 7
    let s1 := (x 1).rotateRight 19 ^^^ (x 1).rotateRight 61 ^^^ (x 1) >>> 6
    shaExtend n ((x 15 + s0 + x 6 + s1) :: w)
/-- The message schedule of a block. -/
def shaSchedule (block : List Byte) : List Word :=
  (shaExtend 64 (((List.range 16).map fun i => BitVec.ofNat 64 (octetsNat ((block.drop (8 * i)).take 8))).reverse)).reverse

/-- The working variables of a block. -/
structure Sha where
  a : Word
  b : Word
  c : Word
  d : Word
  e : Word
  f : Word
  g : Word
  h : Word

/-- One round, with its constant and schedule word. -/
def shaRound (v : Sha) (k w : Word) : Sha :=
  let s1 := v.e.rotateRight 14 ^^^ v.e.rotateRight 18 ^^^ v.e.rotateRight 41
  let ch := (v.e &&& v.f) ^^^ (~~~v.e &&& v.g)
  let t1 := v.h + s1 + ch + k + w
  let s0 := v.a.rotateRight 28 ^^^ v.a.rotateRight 34 ^^^ v.a.rotateRight 39
  let maj := (v.a &&& v.b) ^^^ (v.a &&& v.c) ^^^ (v.b &&& v.c)
  ⟨t1 + (s0 + maj), v.a, v.b, v.c, v.d + t1, v.e, v.f, v.g⟩
/-- The hash value after one more block. -/
def shaBlock (hs : List Word) (block : List Byte) : List Word :=
  let x (i : Nat) : Word := hs.getD i 0
  let v := (shaK.zip (shaSchedule block)).foldl (fun v p => shaRound v p.1 p.2) ⟨x 0, x 1, x 2, x 3, x 4, x 5, x 6, x 7⟩
  [x 0 + v.a, x 1 + v.b, x 2 + v.c, x 3 + v.d, x 4 + v.e, x 5 + v.f, x 6 + v.g, x 7 + v.h]
/-- The hash value after `n` blocks of a padded message. -/
def shaBlocks : Nat → List Word → List Byte → List Word
  | 0, hs, _ => hs
  | n + 1, hs, m => shaBlocks n (shaBlock hs (m.take 128)) (m.drop 128)
/-- SHA-384 of a string of bytes: 48 bytes. -/
def sha384 (m : List Byte) : List Byte :=
  let p := shaPad m
  ((shaBlocks (p.length / 128) shaInit p).take 6).flatMap fun w => natOctets 8 w.toNat

/-! ## ECDSA over P-384 -/

/-- The field, the curve y² = x³ − 3x + b, its base point and the order of that point. -/
def ecP : Nat := 0xfffffffffffffffffffffffffffffffffffffffffffffffffffffffffffffffeffffffff0000000000000000ffffffff
def ecB : Nat := 0xb3312fa7e23ee7e4988e056be3f82d19181d9c6efe8141120314088f5013875ac656398d8a2ed19d2a85c8edd3ec2aef
def ecGx : Nat := 0xaa87ca22be8b05378eb1c71ef320ad746e1d3b628ba79b9859f741e082542a385502f25dbf55296c3a545e3872760ab7
def ecGy : Nat := 0x3617de4a96262c6f5d9e98bf9292dc29f8f41dbd289a147ce9da3113b5f0b8c00a60b1ce1d7e819d7a431d7c90ea0e5f
def ecN : Nat := 0xffffffffffffffffffffffffffffffffffffffffffffffffc7634d81f4372ddf581a0db248b0a77aecec196accc52973

/-- `b` to the power whose bits are given, most significant first, modulo `m`. -/
def powBits (m b : Nat) (bits : List Bool) : Nat :=
  bits.foldl (fun r x => if x then r * r % m * b % m else r * r % m) 1
/-- The low 384 bits of a number, most significant first. -/
def bits384 (v : Nat) : List Bool := ((List.range 384).map v.testBit).reverse
/-- The inverse modulo a prime below 2^384. -/
def invMod (m a : Nat) : Nat := powBits m a (bits384 (m - 2))

/-- A point in Jacobian coordinates; z is 0 at infinity. -/
structure EcPoint where
  x : Nat
  y : Nat
  z : Nat
/-- The difference of two elements of the field. -/
def ecSub (a b : Nat) : Nat := (a + ecP - b % ecP) % ecP
/-- Twice a point. -/
def EcPoint.double (p : EcPoint) : EcPoint :=
  let zz := p.z * p.z % ecP
  let yy := p.y * p.y % ecP
  let m := 3 * (ecSub p.x zz * ((p.x + zz) % ecP) % ecP) % ecP
  let s := 4 * (p.x * yy % ecP) % ecP
  let x := ecSub (m * m % ecP) (2 * s)
  ⟨x, ecSub (m * ecSub s x % ecP) (8 * (yy * yy % ecP)), 2 * (p.y * p.z % ecP) % ecP⟩
/-- The sum of two points. -/
def EcPoint.add (p q : EcPoint) : EcPoint :=
  if p.z = 0 then q else if q.z = 0 then p else
  let pp := p.z * p.z % ecP
  let qq := q.z * q.z % ecP
  let u1 := p.x * qq % ecP
  let u2 := q.x * pp % ecP
  let s1 := p.y * (qq * q.z % ecP) % ecP
  let s2 := q.y * (pp * p.z % ecP) % ecP
  let h := ecSub u2 u1
  let r := ecSub s2 s1
  if h = 0 then (if r = 0 then p.double else ⟨1, 1, 0⟩) else
  let hh := h * h % ecP
  let hhh := hh * h % ecP
  let v := u1 * hh % ecP
  let x := ecSub (ecSub (r * r % ecP) hhh) (2 * v)
  ⟨x, ecSub (r * ecSub v x % ecP) (s1 * hhh), h * (p.z * q.z % ecP) % ecP⟩
/-- `u` times the base point plus `v` times `q`, from the two numbers' bits, most significant first. -/
def ecCombine (u v : Nat) (q : EcPoint) : EcPoint :=
  let g : EcPoint := ⟨ecGx, ecGy, 1⟩
  let gq := g.add q
  ((bits384 u).zip (bits384 v)).foldl (fun r b =>
    let r := r.double
    match b with
    | (true, true) => r.add gq
    | (true, false) => r.add g
    | (false, true) => r.add q
    | (false, false) => r) ⟨1, 1, 0⟩

/-- Whether ECDSA P-384 over SHA-384 accepts the signature `sig` (r then s, 48 bytes each, little-endian as the multi-byte fields
of R219 and R503 are) of the bytes `m` by the key `key` (an uncompressed point, 97 bytes). -/
def signatureGood (key m sig : List Byte) : Bool :=
  let x := octetsNat ((key.drop 1).take 48)
  let y := octetsNat ((key.drop 49).take 48)
  let r := leNat (sig.take 48)
  let s := leNat ((sig.drop 48).take 48)
  let onCurve := decide (key.length = 97 ∧ key.head? = some 4 ∧ x < ecP ∧ y < ecP ∧ y * y % ecP = (x * x * x + (ecP - 3) * x + ecB) % ecP)
  if !onCurve ∨ sig.length ≠ 96 ∨ r = 0 ∨ ecN ≤ r ∨ s = 0 ∨ ecN ≤ s then false else
  let w := invMod ecN s
  let p := ecCombine (octetsNat (sha384 m) * w % ecN) (r * w % ecN) ⟨x, y, 1⟩
  let zi := invMod ecP p.z
  p.z ≠ 0 && p.x * (zi * zi % ecP) % ecP % ecN = r

end Sys2Proof.Machine
end

