-- ==== Sys2Proof/Machine/Lines.lean ====
section
/-! DEFINITION. `LIN` without its Ethernet MAC and discovery agent (chapter 8), the stream fabric's delivery (R17 to R20), the
pseudowire classifier and pass-through interpretation of `MAP` (R315 to R319, R325), and the service words of `DEF` and `MAP`
(R301, R332). -/

namespace Sys2Proof.Machine

/-! ## Sources -/

/-- Numbers of the stamping sources. -/
def srcDp (d : Nat) : Nat := 16 + d
def srcMgmt (b : Nat) : Nat := 48 + b
def srcTrib (b t : Nat) : Nat := 64 + 128 * b + t

/-- Condition bits of the status word (R269). -/
def Sw.los : Nat := 63
def Sw.clkFail : Nat := 62
def Sw.glitch : Nat := 61
def Sw.rate : Nat := 60
def Sw.oof : Nat := 59
def Sw.liuLos : Nat := 58
def Sw.descr : Nat := 57

/-- The record of a stamping source. -/
def State.src (s : State) (n : Nat) : Src := (s.lin.srcs.find? (·.num = n)).getD { num := n }
/-- Change the record of a stamping source. -/
def State.modSrc (s : State) (n : Nat) (f : Src → Src) : State :=
  { s with lin := { s.lin with srcs := f (s.src n) :: s.lin.srcs.filter (·.num ≠ n) } }
/-- A condition starts to stand at a source, and is seen in the tick. -/
def State.srcStand (s : State) (n bit : Nat) : State :=
  s.modSrc n fun r => { r with stand := r.stand ||| 2 ^ bit, seen := r.seen ||| 2 ^ bit }
/-- A condition is seen in the tick. -/
def State.srcSeen (s : State) (n bit : Nat) : State := s.modSrc n fun r => { r with seen := r.seen ||| 2 ^ bit }
/-- A condition no longer stands. -/
def State.srcClear (s : State) (n bit : Nat) : State :=
  s.modSrc n fun r => { r with stand := putBits r.stand bit 1 0 }
/-- Whether a condition stands at a source. -/
def State.stands (s : State) (n bit : Nat) : Bool := bitOf (s.src n).stand bit
/-- A source is enabled: its counts start anew (R301). -/
def State.srcStart (s : State) (n : Nat) : State :=
  s.modSrc n fun _ => { num := n, starts := [(s.tick, 0)] }

/-- N of an SDH/SONET lane mode (R277); 0 for the others. -/
def sdhN : Nat → Nat
  | 1 => 1
  | 2 => 4
  | 3 => 16
  | 4 => 64
  | _ => 0
/-- Bits per frame of a lane mode (R301); 0 where the mode has no descrambler. -/
def frameBits (mode : Nat) : Nat := if sdhN mode ≠ 0 then 19440 * sdhN mode else if mode = 5 ∨ mode = 6 then 130560 else 0
/-- Whether a lane mode is Ethernet (R277). -/
def isEth (mode : Nat) : Bool := decide (7 ≤ mode ∧ mode ≤ 10)
/-- Mode of lane `l`. -/
def State.laneMode (s : State) (l : Nat) : Nat := s.cfg (F.LIN_LANE_CFG_MODE l)
/-- Whether lane `l` is enabled. -/
def State.laneOn (s : State) (l : Nat) : Bool := s.on (F.LIN_LANE_CFG_ENABLE l)

/-- Tributaries of bundle `b` that are enabled. -/
def State.tribs (s : State) (b : Nat) : List Nat := (List.range 126).filter fun t => s.on (F.LIN_BTRIB_EN b t)

/-- The enabled sources whose stream is `sid`: of lanes and direct ports. -/
def State.portOf (s : State) (sid : Nat) : Option Nat :=
  match (List.range 16).find? fun l => s.laneOn l && s.cfg (F.LIN_LANE_SID_SID l) = sid with
  | some l => some l
  | none => ((List.range 32).find? fun d => s.on (F.LIN_DP_CFG_ENABLE d) && s.cfg (F.LIN_DP_SID_SID d) = sid).map srcDp

/-! ## The fabric -/

/-- The enabled queues that are sinks of a stream for words stamped `stamp` (R17, R347). -/
def State.sinkQueues (s : State) (sid stamp : Nat) : List Nat :=
  (s.queues.filter fun e => !s.on (F.QUE_W_CFG_WRITER e.num) && s.cfg (F.QUE_W_CFG_SID e.num) = sid
    && decide (e.accept ≤ stamp)).map (·.num)

/-- One word reaches the check units and the queues of its stream, each accepting or refusing it alone (R17, R19, R20); the
answer says whether a queue refused it. -/
def State.toSinks (s : State) (sid stamp : Nat) (w : TWord) : Bool × State :=
  (s.sinkQueues sid stamp).foldl (fun (r : Bool × State) q =>
    let (ok, t) := r.2.push q w stamp
    (r.1 || !ok, t)) (false, s.ckSnoop sid stamp w)

/-- Words reach the sinks of a stream in order. -/
def State.allToSinks (s : State) (sid stamp : Nat) (ws : List TWord) : Bool × State :=
  ws.foldl (fun (r : Bool × State) w =>
    let (bad, t) := r.2.toSinks sid stamp w
    (r.1 || bad, t)) (false, s)

/-- The bytes of packet words: the valid bytes of each. -/
def packetBytes (ws : List TWord) : List Byte :=
  ws.flatMap fun w => ((wordBytes w.data).take (validCount w.tag)).map (BitVec.ofNat 8)
/-- Big-endian value of bytes. -/
def beNat (bs : List Byte) : Nat := bs.foldl (fun a b => a * 256 + b.toNat) 0
/-- The words that hold `n` chunks of eight bytes of a packet, the first with the start tag where `first` (R262, R337). -/
def packetWords : Nat → Bool → List Byte → List TWord
  | 0, _, _ => []
  | n + 1, first, bs =>
    let chunk := bs.take 8
    let rest := bs.drop 8
    let data := BitVec.ofNat 64 (beNat chunk * 2 ^ (8 * (8 - chunk.length)))
    let tag := (if first then 16 else 0) + (if rest.isEmpty then 8 + chunk.length % 8 else 0)
    ⟨data, BitVec.ofNat 5 tag⟩ :: (if rest.isEmpty then [] else packetWords n false rest)
/-- A packet as queue words (R262). -/
def packetOf (bs : List Byte) : List TWord := packetWords bs.length true bs

/-- The valid classifier entries (R325), lowest first. -/
def State.pwEntries (s : State) : List Nat := (List.range 4096).filter fun k => s.on (F.MAP_PWRX_W0_VALID k)
/-- PW_CLASSIFY (R325): a whole frame of the classifier's stream, without FCS. -/
def State.classify (s : State) (stamp : Nat) (frame : List TWord) : State :=
  let bs := packetBytes frame
  let field := beNat ((bs.drop 14).take 4)
  let k := if beNat ((bs.drop 12).take 2) = 0x8100
    then (if beNat ((bs.drop 16).take 2) = 0x88D8 then some (beNat ((bs.drop 18).take 4), bs.drop 22) else none)
    else (if beNat ((bs.drop 12).take 2) = 0x88D8 then some (field, bs.drop 18) else none)
  let hit := match k with
    | none => none
    | some (f, rest) => (s.pwEntries.find? fun k => s.cfg (F.MAP_PWRX_W0_ECID k) = f / 4096).map fun k => (k, rest)
  match hit with
  | some (k, rest) =>
    if s.on F.MAP_CTRL_ENABLE ∧ !rest.isEmpty
    then ((s.allToSinks (s.cfg (F.MAP_PWRX_W1_SID k)) stamp (packetOf rest)).2).tal 17 1 1
    else (s.inc F.MAP_PWRX_DROPS 1).tal 17 2 1
  | none => (s.inc F.MAP_PWRX_DROPS 1).tal 17 2 1

/-- A word of the classifier's stream: a frame is judged at its end word. -/
def State.classifyWord (s : State) (stamp : Nat) (w : TWord) : State :=
  let open_ := if tagStart w.tag then [w] else s.map.rx ++ [w]
  if tagEnd w.tag then { s with map := { s.map with rx := [] } }.classify stamp open_
  else { s with map := { s.map with rx := open_ } }

/-- One word of a stream is delivered to its sinks, the classifier among them (R17, R325); the answer says whether a queue
refused it. -/
def State.deliverWord (s : State) (sid stamp : Nat) (w : TWord) : Bool × State :=
  let (bad, s) := s.toSinks sid stamp w
  (bad, if s.cfg F.MAP_PW_CLASS_SID = sid ∧ !isMarker w.tag then s.classifyWord stamp w else s)
/-- Words of a stream are delivered in order. -/
def State.deliver (s : State) (sid stamp : Nat) (ws : List TWord) : Bool × State :=
  ws.foldl (fun (r : Bool × State) w =>
    let (bad, t) := r.2.deliverWord sid stamp w
    (r.1 || bad, t)) (false, s)

/-- Whether every sink of a stream has room for `n` words (R19). -/
def State.sinksFree (s : State) (sid stamp n : Nat) : Bool :=
  (s.sinkQueues sid stamp).all fun q => decide (s.depth q + n ≤ s.capacity q)

/-- An internal source's words enter the fabric, or wait for their sinks behind those that wait already (R19). -/
def State.drainWaiting (s : State) : State :=
  let (_, s, left) := s.lin.waiting.foldl (fun (r : List Nat × State × List (Nat × Nat × TWord)) e =>
    let (blocked, s, left) := r
    if blocked.contains e.1 ∨ !s.sinksFree e.1 e.2.1 1 then (e.1 :: blocked, s, left ++ [e])
    else (blocked, (s.deliverWord e.1 e.2.1 e.2.2).2, left)) ([], s, [])
  { s with lin := { s.lin with waiting := left } }
/-- Words of an internal source (R19). -/
def State.sendInternal (s : State) (sid stamp : Nat) (ws : List TWord) : State :=
  { s with lin := { s.lin with waiting := s.lin.waiting ++ ws.map fun w => (sid, stamp, w) } }.drainWaiting

/-! ## Descrambling (R260, R301) -/

/-- The descrambler of a lane. -/
def State.descr (s : State) (l : Nat) : Descr := (s.lin.descr.find? (·.lane = l)).getD { lane := l }
/-- Change the descrambler of a lane, and show whether it is on. -/
def State.modDescr (s : State) (l : Nat) (f : Descr → Descr) : State :=
  { s with lin := { s.lin with descr := f (s.descr l) :: s.lin.descr.filter (·.lane ≠ l) } }
/-- The smallest position from `n` on that lies `p` bits past a multiple of `f`. -/
def nextAt (n p f : Nat) : Nat := if f = 0 then n else n + (p % f + (f - n % f)) % f
/-- The request of a lane acts at the tick after its release tick (R301). -/
def State.descrTick (s : State) (l : Nat) : State :=
  match (s.descr l).wait with
  | none => s
  | some (r, req) =>
    if s.tick ≤ r then s else
    match req with
    | none => (s.modDescr l fun d => { d with wait := none, phase := none }).put (F.LIN_LANE_STATUS_DESCR_ON l) false
    | some p => s.modDescr l fun d => { d with
        wait := none, phase := some p, at_ := nextAt (s.src l).total p (frameBits (s.laneMode l)) }

/-! ## Pass-through pointers (R295, R307, R315, R317) -/

/-- Codes of `MAP_PTs_STATUS.STATE` (R336). -/
def Pt.norm : Nat := 0
def Pt.ais : Nat := 1
def Pt.lop : Nat := 2
def Pt.ssf : Nat := 3

/-- The fields of a `MAP_XC` word. -/
def xcPt (w : Nat) : Bool := bitOf w 0
def xcLane (w : Nat) : Nat := bitsOf w 1 4
def xcAu4 (w : Nat) : Nat := bitsOf w 5 6
def xcX (w : Nat) : Nat := 4 ^ bitsOf w 11 2
def xcForce (w : Nat) : Bool := bitOf w 13

/-- A slot's pointer state changes (R317, R336). -/
def State.ptEnter (s : State) (slot st : Nat) : State :=
  if s.get (F.MAP_PT_STATUS_STATE slot) = st then s else
  let s := s.set (F.MAP_PT_STATUS_STATE slot) st
  let s := if st = Pt.ais ∨ st = Pt.ssf then s.put (F.MAP_PT_STATUS_AIS_SEEN slot) true else s
  if st = Pt.lop then s.put (F.MAP_PT_STATUS_LOP_SEEN slot) true else s

/-- Change a pass-through slot's record. -/
def State.modPass (s : State) (slot : Nat) (f : Pass → Pass) : State :=
  { s with map := { s.map with pass := s.map.pass.map fun p => if p.slot = slot then f p else p } }

/-- The pointer word `h` of a slot's source arrives (R295, R307, R308). -/
def State.ptWord (s : State) (p : Pass) (h : Nat) : State :=
  let st := s.get (F.MAP_PT_STATUS_STATE p.slot)
  let ptr := s.get (F.MAP_PT_STATUS_PTR p.slot)
  let raw := pointerClass h ((if st = Pt.norm then 2 ^ 15 else 0) + ptr) 0 false
  let v := bitsOf raw 0 10
  let c0 := bitsOf raw 16 3
  let c := if (c0 = 3 ∨ c0 = 4) ∧ p.norms < 3 then 6 else c0
  let len := if c = p.run ∧ (c ≠ 1 ∨ v = p.runVal) then p.runLen + 1 else 1
  let s := s.modPass p.slot fun p => { p with
    run := c, runLen := len, runVal := v, norms := if c = 0 then p.norms + 1 else 0, h1 := none }
  let take (s : State) (v : Nat) : State := s.set (F.MAP_PT_STATUS_PTR p.slot) v
  if st = Pt.norm then
    if c = 5 ∧ len = 3 then s.ptEnter p.slot Pt.ais
    else if (c = 6 ∨ c = 2) ∧ len = 8 then s.ptEnter p.slot Pt.lop
    else if c = 2 ∨ (c = 1 ∧ len = 3) then take s v
    else if c = 3 then take s (if ptr = 782 then 0 else ptr + 1)
    else if c = 4 then take s (if ptr = 0 then 782 else ptr - 1)
    else s
  else if c = 1 ∧ len = 3 then (take s v).ptEnter p.slot Pt.norm
  else if st = Pt.ais ∧ c = 6 ∧ len = 8 then s.ptEnter p.slot Pt.lop
  else if st = Pt.lop ∧ c = 5 ∧ len = 3 then s.ptEnter p.slot Pt.ais
  else s

/-- The 8 bits at frame bit `o` of a lane, if their last one is among the `n` bits delivered from position `pos` on; `win`
holds the last `64 + n` bits delivered (byte places of ITU-T G.707; PRESUMED, log 31). -/
def framePick (phase f o pos n win : Nat) : Option Nat :=
  let back := (pos + n + f - (phase + o + 8) % f) % f
  if back < n then some (bitsOf win back 8) else none

/-- A lane delivers `n` bits of value `v` from position `pos` on: the pass-through slots that it feeds see their pointer
bytes go by (R317). -/
def State.ptBits (s : State) (l pos n v : Nat) : State :=
  let nn := sdhN (s.laneMode l)
  if nn = 0 then s else
  let win := (s.src l).last * 2 ^ n + v
  let f := frameBits (s.laneMode l)
  let mine := s.map.pass.filter fun p => xcPt p.entry && xcLane p.entry = l
  match (s.descr l).phase with
  | none => s.each mine fun s p => s.ptEnter p.slot Pt.ssf
  | some ph => s.each mine fun s p =>
      let s := if s.get (F.MAP_PT_STATUS_STATE p.slot) = Pt.ssf then s.ptEnter p.slot Pt.ais else s
      let a := xcAu4 p.entry
      let s := match framePick ph f (8 * (810 * nn + a)) pos n win with
        | some b => s.modPass p.slot fun p => { p with h1 := some b }
        | none => s
      match framePick ph f (8 * (813 * nn + a)) pos n win with
      | none => s
      | some b => match (s.map.pass.find? (·.slot = p.slot)).bind (·.h1) with
        | some h1 => s.ptWord ((s.map.pass.find? (·.slot = p.slot)).getD p) (h1 * 256 + b)
        | none => s

/-! ## Counting and gathering bits (R268, R269, R301, R339) -/

/-- A source has delivered `n` bits, of value `v` (R269, R301); a lane whose next frame boundary is reached descrambles
(R260). -/
def State.countBits (s : State) (num n v : Nat) : State :=
  let pos := (s.src num).total
  let s := if num < 16 then s.ptBits num pos n v else s
  let s := s.modSrc num fun r => { r with
    total := r.total + n, bits := r.bits + n, last := (r.last * 2 ^ n + v) % 2 ^ 64 }
  let (mega, part) := carry s.lin.bitPart n (2 ^ 20)
  let s := { s with lin := { s.lin with bitPart := part } }.tal 15 2 mega
  let d := s.descr num
  if num < 16 ∧ d.phase.isSome ∧ !s.bit (F.LIN_LANE_STATUS_DESCR_ON num) ∧ d.at_ < pos + n
  then s.put (F.LIN_LANE_STATUS_DESCR_ON num) true else s

/-- Stamped words of a line source go to the fabric, or to the catch-up log (R432). -/
def State.lineDeliver (s : State) (sid stamp : Nat) (ws : List TWord) : Bool × State :=
  if s.lin.logging then
    (false, { s with lin := { s.lin with log := s.lin.log ++ ws.map fun w => LogItem.word sid stamp w } })
  else s.deliver sid stamp ws

/-- Words that a line source delivers, with the counts of R269 and the discards of R19. -/
def State.lineWords (s : State) (num sid stamp : Nat) (ws : List TWord) : State :=
  let s := s.each ws fun s w =>
    let n := 8 * validCount w.tag
    s.countBits num n (w.data.toNat / 2 ^ (64 - n))
  let (bad, s) := s.lineDeliver sid stamp ws
  if !bad then s
  else if num < 16 then (s.put (F.LIN_LANE_STICKY_RX_OVERRUN num) true).inc (F.LIN_LANE_RXDISC num) 1
  else if num < 48 then s.put (F.LIN_DP_STICKY_RX_OVERRUN (num - 16)) true
  else s

/-- A word of `n` gathered bytes (R339). -/
def gathered (v n : Nat) : TWord := ⟨BitVec.ofNat 64 (v * 2 ^ (64 - 8 * n)), BitVec.ofNat 5 (n % 8)⟩

/-- Bits of a source that `LIN` gathers itself, in line order (R268): whole words go out at once. -/
def State.gatherBit (s : State) (num sid stamp : Nat) (b : Bool) : State :=
  let r := s.src num
  let acc := r.acc * 2 + b2n b
  if r.accBits = 63 then
    let s := s.modSrc num fun r => { r with acc := 0, accBits := 0 }
    s.lineWords num sid stamp [gathered acc 8]
  else s.modSrc num fun r => { r with acc := acc, accBits := r.accBits + 1 }
/-- Bits gathered in line order. -/
def State.gatherBits (s : State) (num sid stamp : Nat) (bs : List Bool) : State := s.each bs fun s b => s.gatherBit num sid stamp b

/-- The whole bytes gathered at the close of a tick go out as one word; bits of an incomplete byte stay (R339). -/
def State.flushBytes (s : State) (num sid stamp : Nat) : State :=
  let r := s.src num
  let n := r.accBits / 8
  if n = 0 then s else
  let left := r.accBits % 8
  let s := s.modSrc num fun r => { r with acc := r.acc % 2 ^ left, accBits := left }
  s.lineWords num sid stamp [gathered (r.acc / 2 ^ left) n]

/-! ## The close of a tick (R27, R269) -/

/-- The stamping sources that are enabled: number, stream, `STAT_EN`, `STAT_SID` (R269). -/
def State.sources (s : State) : List (Nat × Nat × Bool × Nat) :=
  ((List.range 16).filter s.laneOn).map (fun l =>
      (l, s.cfg (F.LIN_LANE_SID_SID l), s.on (F.LIN_LANE_CFG_STAT_EN l), s.cfg (F.LIN_LANE_SID_STAT_SID l)))
    ++ ((List.range 32).filter fun d => s.on (F.LIN_DP_CFG_ENABLE d)).map (fun d =>
      (srcDp d, s.cfg (F.LIN_DP_SID_SID d), s.on (F.LIN_DP_CFG_STAT_EN d), s.cfg (F.LIN_DP_SID_STAT_SID d)))
    ++ ((List.range 8).filter fun b => s.on (F.LIN_BUND_CFG_ENABLE b)).flatMap (fun b =>
      (srcMgmt b, s.cfg (F.LIN_BUND_SID b), false, 0)
        :: (s.tribs b).map fun t => (srcTrib b t, s.cfg (F.LIN_BTRIB_SID b t), s.on (F.LIN_BTRIB_STAT_EN b t),
          s.cfg (F.LIN_BTRIB_STAT_SID b t)))

/-- The status word of a source for the tick that closes (R269). -/
def State.statusWord (s : State) (num : Nat) : Nat :=
  let r := s.src num
  r.seen + (if num < 16 ∧ !r.off then 2 ^ Sw.descr else 0)
    + (r.bits % 2 ^ 24) * 2 ^ 32 + Nat.min r.errs 65535 * 2 ^ 16

/-- Whether the unit stamps its paired sources by the active's ledger (R416, R428): in JOIN_STATE and STANDBY, while the
heartbeat is present. -/
def State.ledgerMode (s : State) : Bool :=
  let st := s.get F.PRT_PAIR_STATUS_STATE
  (st = 5 || st = 6) && !s.pair.lost
/-- The first tick whose stamping is not settled (R416). -/
def State.openTick (s : State) : Nat := if s.ledgerMode then s.lin.settled else s.tick

/-- A source closes tick `n` (R269, R301, R339): its last bytes, its status word, the counts of the next tick. -/
def State.closeSource (s : State) (n : Nat) (e : Nat × Nat × Bool × Nat) : State :=
  let (num, sid, stat, statSid) := e
  let s := if s.ledgerMode then s else s.flushBytes num sid n
  let s := if stat then (s.lineDeliver statSid n [⟨BitVec.ofNat 64 (s.statusWord num), 0x1F⟩]).2 else s
  let s := if num < 16 then s.descrTick num else s
  s.modSrc num fun r => { r with
    starts := ((s.tick, r.total) :: r.starts).take 128, seen := r.stand, bits := 0, errs := 0, frames := []
    off := !(num < 16 && s.bit (F.LIN_LANE_STATUS_DESCR_ON num)) }

/-- `LIN`'s part of a tick boundary, after the count has advanced (R269). -/
def State.closeSources (s : State) : State := s.each s.sources fun s e => s.closeSource (s.tick - 1) e

/-! ## Service words (R301, R332) -/

/-- Whether a service word of channel `c` for a target gives way to one applied at this tick by a higher channel. -/
def State.svcLater (s : State) (target c : Nat) : Bool :=
  s.lin.svc.any fun e => e.1 = target && e.2.1 = s.tick && decide (c < e.2.2)
/-- The word of channel `c` is the latest applied to its target. -/
def State.svcNote (s : State) (target c : Nat) : State :=
  { s with lin := { s.lin with svc := (target, s.tick, c) :: s.lin.svc.filter (·.1 ≠ target) } }

/-- A rejected `DEF` service word (R301). -/
def State.defReject (s : State) : State :=
  ((s.inc F.DEF_SVC_REJECTS 1).put F.DEF_STICKY_SVC_REJECT true).tal 16 1 1
/-- A dropped `DEF` service word (R300, R303). -/
def State.defDrop (s : State) : State := s.put F.DEF_STICKY_SVC_DROPPED true

/-- The lane whose stream a service word names: an enabled one before a disabled one. -/
def State.laneOfSid (s : State) (sid : Nat) : Option Nat :=
  let l := (List.range 16).filter fun l => s.cfg (F.LIN_LANE_SID_SID l) = sid
  match l.filter s.laneOn with
  | a :: _ => some a
  | [] => l.head?

/-- The tick of R − 127 to R that has the low 16 bits `lo` (R301). -/
def tickOf (r lo : Nat) : Option Nat :=
  let d := (r % 65536 + 65536 - lo) % 65536
  if d ≤ 127 ∧ d ≤ r then some (r - d) else none

/-- A `DEF` service word of channel `c` reaches its lane at tick R (R301). -/
def State.defService (s : State) (c : Nat) (w : Nat) : State :=
  if !s.on F.DEF_CTRL_ENABLE then s.defDrop else
  let op := bitsOf w 60 4
  match s.laneOfSid (bitsOf w 16 14), tickOf s.tick (bitsOf w 0 16) with
  | some l, some t =>
    let f := frameBits (s.laneMode l)
    if (op ≠ 1 ∧ op ≠ 2) ∨ bitsOf w 54 6 ≠ 0 ∨ f = 0 then s.defReject else
    let s := (s.inc F.DEF_SVC_COUNT 1).tal 16 0 1
    if s.svcLater l c then s else
    let p := (((s.src l).starts.find? (·.1 = t)).map (·.2)).getD 0 + bitsOf w 30 24
    let req := if op = 1 then some (p % f) else none
    (s.modDescr l fun d => { d with wait := some (s.tick, req) }).svcNote l c
  | _, _ => s.defReject

/-- A rejected `MAP` service word (R332). -/
def State.mapReject (s : State) : State := (s.inc F.MAP_SVC_REJECTS 1).put F.MAP_STICKY_SVC_REJECT true
/-- A dropped `MAP` service word (R305, R336). -/
def State.mapDrop (s : State) : State := s.put F.MAP_STICKY_SVC_DROPPED true

/-- A rate clamped to 1,000 ppm of nominal (R332): the nominal rate is `NOMINAL` × 2^20 / 8,000 bits per tick in 2^-20. -/
def clampRate (nominal r : Nat) : Nat :=
  let n := nominal * 2 ^ 20
  let hi := n * 1001 / 8000000
  let lo := ceilDiv (n * 999) 8000000
  if hi < r then hi else if r < lo then lo else r

/-- A `MAP` service word of channel `c` (R332). -/
def State.mapService (s : State) (c : Nat) (w : Nat) : State :=
  if !s.on F.MAP_CTRL_ENABLE then s.mapDrop else
  let d := bitsOf w 54 5
  if bitsOf w 60 4 ≠ 1 ∨ bitOf w 59 ∨ bitsOf w 29 25 ≠ 0 ∨ s.cfg (F.LIN_DP_CFG_TXCLK d) ≠ 1 then s.mapReject else
  if s.svcLater (srcDp d) c then s else
  let r := bitsOf w 0 29
  let v := clampRate (s.cfg (F.LIN_DP_RATE_NOMINAL d)) r
  let s := if v ≠ r then s.put F.MAP_STICKY_RATE_CLAMPED true else s
  (s.set (F.MAP_DPRATE_RATE d) v).svcNote (srcDp d) c

/-- SET_PHASE (R301): the service word is handed to `DEF` in this tick. -/
def execSetPhase (w : Word) (s : State) : Host.Outcome State Fault Refusal :=
  settle s (if bitsOf w.toNat 60 4 = 2 then s else s.defService 16384 w.toNat)
/-- RESET_PHASE (R301). -/
def execResetPhase (w : Word) (s : State) : Host.Outcome State Fault Refusal :=
  settle s (if bitsOf w.toNat 60 4 = 1 then s else s.defService 16384 w.toNat)
/-- SET_RATE (R332). -/
def execSetRate (w : Word) (s : State) : Host.Outcome State Fault Refusal := settle s (s.mapService 16384 w.toNat)

/-! ## Beats and markers -/

/-- Whether a line source delivers nothing (R271, R272, R347): it has lost its clock, or the tick generator is off. -/
def State.lineSilent (s : State) (sid : Nat) : Bool :=
  s.ftcState = Ftc.disabled || match s.portOf sid with | some n => s.stands n Sw.clkFail | none => false

/-- A tick-close marker for tick `t` reaches the sinks of a stream (R28, R371), or the catch-up log (R432). -/
def State.closeTick (s : State) (sid t : Nat) : State :=
  if s.lin.logging then { s with lin := { s.lin with log := s.lin.log ++ [LogItem.close sid t] } }
  else (s.markerArrives sid t).ckCloseTick sid t
/-- The marker for the tick before (on a standby, for the latest settled tick, R416) reaches a stream's sinks. -/
def State.closeStream (s : State) (sid : Nat) : State :=
  let t := if sid = s.cfg F.HAL_SID_RX_SID then s.tick else s.openTick
  if t = 0 then s else s.closeTick sid (t - 1)

/-- TICK_CLOSE_MARKER (R28, R325): the marker for the tick before reaches its sinks; the classifier sends one on the stream of
every valid entry. -/
def execTickCloseMarker (sid : Fin 16384) (s : State) : Host.Outcome State Fault Refusal :=
  settle s (
    if s.ftcState = Ftc.disabled then s else
    let s := s.closeStream sid.val
    if s.on F.MAP_CTRL_ENABLE ∧ s.cfg F.MAP_PW_CLASS_SID = sid.val then
      s.each ((s.pwEntries.map fun k => s.cfg (F.MAP_PWRX_W1_SID k)).eraseDups.filter (· ≠ sid.val)) State.closeStream
    else s)

/-! ## Lane enables (R256 to R258, R277) -/

/-- Rate of a lane mode in kb/s (R256); a group's rate stands at its lowest lane. -/
def modeRate : Nat → Nat
  | 1 => 155520
  | 2 => 622080
  | 3 => 2488320
  | 4 => 9953280
  | 5 => 10709225
  | 6 => 27952493
  | 7 => 1250000
  | 8 => 10312500
  | 9 => 25781250
  | 10 => 25781250
  | _ => 0
/-- The family that a lane mode belongs to (R256). -/
def modeFamily : Nat → Nat
  | 1 | 2 | 3 | 4 => 1
  | 5 => 2
  | 6 => 3
  | 7 => 6
  | 8 => 4
  | 9 => 5
  | 10 => 5
  | _ => 0

/-- Rate that an enabled lane contributes: a group of four counts at its lowest lane (R256, R277). -/
def laneRate (l m : Nat) : Nat := if m = 6 ∨ m = 10 then (if l % 4 = 0 then 4 * modeRate m else 0) else modeRate m
/-- The enabled lanes and their modes (R257). -/
def State.laneRates (s : State) : List (Nat × Nat) :=
  ((List.range 16).filter fun l => s.get (F.LIN_LANE_CFG_ENABLE l) = 1).map fun l => (l, s.listed (F.LIN_LANE_CFG_MODE l))
/-- `LIN_AGG_RATE`: the configured total in units of 10 Mb/s, rounded down (R257). -/
def State.showAgg (s : State) : State :=
  s.set F.LIN_AGG_RATE (Nat.min 65535 (sumL (s.laneRates.map fun p => laneRate p.1 p.2) / 10000))

/-- Whether a transmit enable of lane `l` breaks R258. -/
def State.laneTxRefused (s : State) (l : Nat) : Bool :=
  let fam := s.listed (F.LIN_QUAD_CFG_FAMILY (l / 4))
  decide (1 ≤ fam ∧ fam ≤ 3) && s.get (F.LIN_QUAD_CFG_SRC (l / 4)) ≠ 1

/-- Whether the configuration of lane `l`, enabled, breaks R256, R257 or R277. -/
def State.laneRefused (s : State) (l : Nat) : Bool :=
  let q := l / 4
  let mode := s.listed (F.LIN_LANE_CFG_MODE l)
  let fam := s.listed (F.LIN_QUAD_CFG_FAMILY q)
  let group (m : Nat) : Bool := m = 6 || m = 10
  let lanes := (l, mode) :: s.laneRates.filter (·.1 ≠ l)
  let rate (ok : Nat → Bool) : Nat := sumL ((lanes.filter fun p => ok p.2).map fun p => laneRate p.1 p.2)
  (mode ≠ 0 && fam ≠ modeFamily mode)
    || (group mode && (List.range 4).any fun i => s.listed (F.LIN_LANE_CFG_MODE (4 * q + i)) ≠ mode)
    || decide (320000000 < rate fun _ => true)
    || decide (39813120 < rate fun m => decide (1 ≤ m ∧ m ≤ 4))
    || decide (2 < ((lanes.filter fun p => p.2 = 6).map fun p => p.1 / 4).eraseDups.length)
    || decide (2 < ((lanes.filter fun p => p.2 = 10).map fun p => p.1 / 4).eraseDups.length)

/-- A lane has been enabled. -/
def State.laneEnabled (s : State) (l : Nat) : State := (s.srcStart l).showAgg
/-- A lane has been disabled: it delivers nothing, and its live state ends. -/
def State.laneDisabled (s : State) (l : Nat) : State :=
  let s := (s.modSrc l fun _ => { num := l }).modDescr l fun _ => { lane := l }
  let s := { s with lin := { s.lin with txs := s.lin.txs.filter (·.lane ≠ l) } }
  let s := (s.put (F.LIN_LANE_STATUS_SIGNAL l) false).put (F.LIN_LANE_STATUS_CDR_LOCK l) false
  ((s.put (F.LIN_LANE_STATUS_PCS_LOCK l) false).put (F.LIN_LANE_STATUS_DESCR_ON l) false).showAgg

/-! ## Losses and returns (R269, R271, R272) -/

/-- LANE_SIGNAL_LOSS (R269, R278): `LOS` for the tick, `LOS_SEEN`, `EV_LIN_LOS` where it begins. -/
def execLaneSignalLoss (l : Fin 16) (s : State) : Host.Outcome State Fault Refusal :=
  settle s (
    if !s.laneOn l.val then s else
    let was := s.stands l.val Sw.los
    let s := ((s.srcStand l.val Sw.los).put (F.LIN_LANE_STATUS_SIGNAL l.val) false).put (F.LIN_LANE_STICKY_LOS_SEEN l.val) true
    if was then s else s.raise { src := 384 + l.val, code := 0, subject := l.val })

/-- LANE_LOCK_LOSS (R271): CDR or PCS lock is lost; the lane delivers no bits. -/
def execLaneLockLoss (l : Fin 16) (s : State) : Host.Outcome State Fault Refusal :=
  settle s (
    if !s.laneOn l.val then s else
    let was := s.stands l.val Sw.clkFail
    let s := (s.srcStand l.val Sw.clkFail).modSrc l.val fun r => { r with acc := 0, accBits := 0 }
    let s := (s.put (F.LIN_LANE_STATUS_CDR_LOCK l.val) false).put (F.LIN_LANE_STATUS_PCS_LOCK l.val) false
    let s := s.put (F.LIN_LANE_STICKY_LOL_SEEN l.val) true
    if was then s else s.raise { src := 384 + l.val, code := 1, subject := l.val })

/-- LANE_LOCK_REGAIN (R271): lock has held for 1 µs; the lane delivers again. -/
def execLaneLockRegain (l : Fin 16) (s : State) : Host.Outcome State Fault Refusal :=
  settle s (
    if !s.laneOn l.val then s else
    let s := (s.srcClear l.val Sw.clkFail).srcClear l.val Sw.los
    ((s.put (F.LIN_LANE_STATUS_SIGNAL l.val) true).put (F.LIN_LANE_STATUS_CDR_LOCK l.val) true).put
      (F.LIN_LANE_STATUS_PCS_LOCK l.val) true)

/-- Whether a direct port's clock is monitored (R272): enabled, in synchronous mode. -/
def State.dpWatched (s : State) (d : Nat) : Bool := s.on (F.LIN_DP_CFG_ENABLE d) && !s.on (F.LIN_DP_CFG_MODE d)

/-- DP_CLOCK_STOP (R272). -/
def execDpClockStop (d : Fin 32) (s : State) : Host.Outcome State Fault Refusal :=
  settle s (
    if !s.dpWatched d.val ∨ s.stands (srcDp d.val) Sw.clkFail then s else
    let s := (s.srcStand (srcDp d.val) Sw.clkFail).put (F.LIN_DP_STICKY_CLK_STOP d.val) true
    (s.put (F.LIN_DP_STATUS_CLK_PRESENT d.val) false).raise { src := 400 + d.val, code := 1, subject := d.val })

/-- DP_CLOCK_RETURN (R272). -/
def execDpClockReturn (d : Fin 32) (s : State) : Host.Outcome State Fault Refusal :=
  settle s (
    if !s.dpWatched d.val then s
    else (s.srcClear (srcDp d.val) Sw.clkFail).put (F.LIN_DP_STATUS_CLK_PRESENT d.val) true)

/-- DP_CLOCK_GLITCH (R272): `EV_LIN_CLK` at most once per tick. -/
def execDpClockGlitch (d : Fin 32) (s : State) : Host.Outcome State Fault Refusal :=
  settle s (
    if !s.dpWatched d.val then s else
    let was := bitOf (s.src (srcDp d.val)).seen Sw.glitch
    let s := (s.srcSeen (srcDp d.val) Sw.glitch).put (F.LIN_DP_STICKY_GLITCH d.val) true
    if was then s else s.raise { src := 400 + d.val, code := 1, subject := d.val })

/-- Whether an edge count differs from nominal by more than the tolerance (R272): over `RATE_WIN` × 2 ms, in units of
25 ppm. -/
def rateBad (nominal win tol edges : Nat) : Bool :=
  decide (nominal * win * tol < (Int.natAbs ((edges * 500 : Nat) - (nominal * win : Nat) : Int)) * 40000)

/-- DP_RATE_WINDOW (R272): a window without a clock stop is judged. -/
def execDpRateWindow (d : Fin 32) (edges : Nat) (s : State) : Host.Outcome State Fault Refusal :=
  settle s (
    if !s.dpWatched d.val ∨ s.stands (srcDp d.val) Sw.clkFail then s else
    let win := s.cfg (F.LIN_DP_CFG_RATE_WIN d.val)
    let s := s.set (F.LIN_DP_STATUS_MEASURED d.val) (Nat.min (edges * 500 / win) (2 ^ 24 - 1))
    if rateBad (s.cfg (F.LIN_DP_RATE_NOMINAL d.val)) win (s.cfg (F.LIN_DP_RATE_RATE_TOL d.val)) edges then
      let s := (s.srcStand (srcDp d.val) Sw.rate).put (F.LIN_DP_STICKY_RATE d.val) true
      (s.put (F.LIN_DP_STATUS_RATE_OK d.val) false).raise { src := 400 + d.val, code := 2, subject := d.val }
    else (s.srcClear (srcDp d.val) Sw.rate).put (F.LIN_DP_STATUS_RATE_OK d.val) true)

/-- A direct port has been enabled, or disabled: its live state starts anew. -/
def State.dpStart (s : State) (d : Nat) : State :=
  ((s.srcStart (srcDp d)).put (F.LIN_DP_STATUS_CLK_PRESENT d) false).put (F.LIN_DP_STATUS_RATE_OK d) false

/-! ## Transmit (R261, R263, R415) -/

/-- Whether pair mode squelches the unit's lines (R415). -/
def State.squelched (s : State) : Bool :=
  let st := s.get F.PRT_PAIR_STATUS_STATE
  st ≠ 0 && st ≠ 3

/-- Whether a transmitter sends what it is handed: a lane by its number, a direct port by its source number (R16, R277,
R279, R415). -/
def State.txOn (s : State) (n : Nat) : Bool :=
  if s.squelched then false
  else if n < 16 then s.laneOn n && s.on (F.LIN_LANE_CFG_TX_EN n) && s.cfg (F.LIN_LANE_CFG_LOOPBACK n) ≠ 2
  else if n < 48 then s.on (F.LIN_DP_CFG_ENABLE (n - 16)) && s.on (F.LIN_DP_CFG_TX_EN (n - 16))
  else if n < 64 then s.on (F.LIN_BUND_CFG_ENABLE (n - 48)) && s.on (F.LIN_BUND_CFG_TX_EN (n - 48))
  else s.on (F.LIN_BUND_CFG_ENABLE ((n - 64) / 128)) && s.on (F.LIN_BUND_CFG_TX_EN ((n - 64) / 128))
    && s.on (F.LIN_BTRIB_EN ((n - 64) / 128) ((n - 64) % 128))

/-- Source number of a transmitter with an elastic store. -/
def txNum : TxPort → Nat
  | .lane l => l.val
  | .dp d => srcDp d.val

/-- TX_UNDERRUN (R263): the store is empty; all-ones or idle fill the gap. -/
def execTxUnderrun (t : TxPort) (s : State) : Host.Outcome State Fault Refusal :=
  settle s (
    if !s.txOn (txNum t) then s else
    let s := match t with
      | .lane l => (s.inc (F.LIN_LANE_TXERR_TX_UNDERRUN l.val) 1).put (F.LIN_LANE_STICKY_TXU_SEEN l.val) true
      | .dp d => s.put (F.LIN_DP_STICKY_TXU_SEEN d.val) true
    (s.tal 15 3 1).emit (.txFill (txNum t)))

/-- TX_OVERRUN (R263): the excess of the tick's release is discarded. -/
def execTxOverrun (t : TxPort) (s : State) : Host.Outcome State Fault Refusal :=
  settle s (
    if !s.txOn (txNum t) then s else
    let s := match t with
      | .lane l => (s.inc (F.LIN_LANE_TXERR_TX_OVERRUN l.val) 1).put (F.LIN_LANE_STICKY_TXO_SEEN l.val) true
      | .dp d => s.put (F.LIN_DP_STICKY_TXO_SEEN d.val) true
    (s.tal 15 3 1).emit (.txExcess (txNum t)))

/-! ## What a framed lane transmits (R261, R316) -/

/-- The scrambler of a lane at reset: 7 stages for SDH/SONET, 16 for OTN (PRESUMED, log 166). -/
def scrInit (n : Nat) : Nat := if n = 0 then 65535 else 127
/-- The next 8 bits of a scrambler's sequence, and its state after them: x^7 + x^6 + 1 for SDH/SONET, x^16 + x^12 + x^3 + x + 1
for OTN, `n` = 0 (PRESUMED, log 166). -/
def scrByte (n st : Nat) : Nat × Nat :=
  (List.range 8).foldl (fun (r : Nat × Nat) _ =>
    let st := r.2
    let o := bitsOf st (if n = 0 then 15 else 6) 1
    let fb := if n = 0 then o + bitsOf st 11 1 + bitsOf st 2 1 + bitsOf st 0 1 else o + bitsOf st 5 1
    (r.1 * 2 + o, (st * 2 + fb % 2) % (if n = 0 then 2 ^ 16 else 2 ^ 7))) (0, st)

/-- The pass-through slots of egress lane `l` by AU-4 index, each with whether it carries AU-AIS (R315, R317). -/
def State.passSlots (s : State) (l : Nat) : List (Nat × Bool) :=
  (s.map.pass.filter fun p => xcPt p.entry && p.slot / 64 = l).flatMap fun p =>
    (List.range (xcX p.entry)).map fun i =>
      (p.slot % 64 + i, decide (s.get (F.MAP_PT_STATUS_STATE p.slot) ≠ Pt.norm) || xcForce p.entry)

/-- Start of a frame at a lane transmitter of AU-4 count `n`: scrambler and parities start anew (R261). -/
def TxLane.begin (x : TxLane) (n : Nat) : TxLane :=
  { x with pos := 0, scr := scrInit n, b1Acc := 0, b2Acc := List.replicate (3 * n) 0 }

/-- One byte of a frame of `f` bits as `MAP` merges it (R316), as the line carries it (R261), and the transmitter after it. In
pass-through slots H1 to H3 and the VC-4 columns are all-ones in AU-AIS and `fr`, a free value, else (log 119); B1 and B2 are
computed over the frame before as merged, or free where there is none. Byte places of ITU-T G.707 (PRESUMED, log 166). -/
def TxLane.byte (x : TxLane) (n f : Nat) (slots : List (Nat × Bool)) (fr b : Nat) : Nat × Nat × TxLane :=
  let o := x.pos / 8
  let r := o / (270 * n)
  let c := o % (270 * n)
  let m := if slots.isEmpty then b
    else if r = 1 ∧ c = 0 then x.b1.getD fr
    else if r = 4 ∧ c < 3 * n then (match x.b2 with | some l => l.getD c 0 | none => fr)
    else if r = 3 ∨ 9 * n ≤ c then (match slots.find? (·.1 = c % n) with | some p => if p.2 then 255 else fr | none => b)
    else b
  let plain : Bool := decide (if n = 0 then o < 6 else o < 9 * n)
  let (k, scr) := if plain then (0, x.scr) else scrByte n x.scr
  let line := m ^^^ k
  let acc := if n = 0 ∨ (r < 3 ∧ c < 9 * n) then x.b2Acc else x.b2Acc.modify (c % (3 * n)) (· ^^^ m)
  let x := { x with pos := x.pos + 8, scr := scr, b1Acc := x.b1Acc ^^^ line, b2Acc := acc }
  (m, line, if x.pos < f then x else { x.begin n with b1 := some x.b1Acc, b2 := some x.b2Acc })

/-- A word handed to lane transmitter `l`, as merged and as the line carries it. A start tag marks a frame start, and one that
does not fall on a frame boundary counts in `TX_REPHASE` (R261); before the first the word passes as it is. -/
def State.txWord (s : State) (l : Nat) (w : TWord) : TWord × TWord × State :=
  let n := sdhN (s.laneMode l)
  let f := frameBits (s.laneMode l)
  let x := s.lin.txs.find? (·.lane = l)
  if f = 0 ∨ (x.isNone ∧ !tagStart w.tag) then (w, w, s) else
  let again : Bool := tagStart w.tag && x.any fun x => x.pos ≠ 0
  let s := if again then s.inc (F.LIN_LANE_REPHASE l) 1 else s
  let x := match x with
    | some x => if again then { x.begin n with b1 := none, b2 := none } else x
    | none => TxLane.begin { lane := l, scr := 0 } n
  let slots := s.passSlots l
  let (fr, s) := if slots.isEmpty then (0, s) else let (v, s) := s.draw; (v.toNat, s)
  let k := validCount w.tag
  let (m, line, x) := (List.range k).foldl (fun (a : Nat × Nat × TxLane) i =>
    let (m, line, x) := a.2.2.byte n f slots (bitsOf fr (8 * i) 8) (bitsOf w.data.toNat (56 - 8 * i) 8)
    (a.1 * 256 + m, a.2.1 * 256 + line, x)) (0, 0, x)
  let word (v : Nat) : TWord := { w with data := BitVec.ofNat 64 (v * 2 ^ (64 - 8 * k)) }
  (word m, word line, { s with lin := { s.lin with txs := x :: s.lin.txs.filter (·.lane ≠ l) } })

/-! ## Bundles (R264 to R266) -/

/-- The bits of the frame-synchronous sequence of x^9 + x^5 + 1 from all ones, one byte at a time (R265). -/
def bundSeqByte (st : Nat) : Nat × Nat :=
  (List.range 8).foldl (fun (r : Nat × Nat) _ =>
    let o := bitsOf r.2 8 1
    (r.1 * 2 + o, (r.2 * 2 + (o + bitsOf r.2 4 1) % 2) % 512)) (0, st)
/-- Bytes scrambled, or descrambled, from a scrambler state. -/
def bundScramble (st : Nat) : List Byte → List Byte
  | [] => []
  | b :: r => let (k, st') := bundSeqByte st; (b ^^^ BitVec.ofNat 8 k) :: bundScramble st' r
/-- A bundle frame with bytes 6 and on scrambled, or descrambled (R265). -/
def bundWire (bs : List Byte) : List Byte := bs.take 6 ++ bundScramble 511 (bs.drop 6)
/-- The framing pattern (R265). -/
def bundPattern : List Byte := [0xB8, 0xB8, 0xB8, 0x47, 0x47, 0x47]

/-- The record of a bundle. -/
def State.bund (s : State) (b : Nat) : Bund := (s.lin.bunds.find? (·.num = b)).getD { num := b }
/-- Change the record of a bundle. -/
def State.modBund (s : State) (b : Nat) (f : Bund → Bund) : State :=
  { s with lin := { s.lin with bunds := f (s.bund b) :: s.lin.bunds.filter (·.num ≠ b) } }

/-- A bundle goes in frame or out of frame (R266). -/
def State.bundFrame (s : State) (b : Nat) (inFrame : Bool) : State :=
  let s := (s.put (F.LIN_BUND_STATUS_IN_FRAME b) inFrame).raise { src := 432 + b, code := 0, subject := b2n inFrame }
  s.each (s.tribs b) fun s t =>
    if inFrame then s.srcClear (srcTrib b t) Sw.oof else s.srcStand (srcTrib b t) Sw.oof

/-- The bits of bytes, most significant first. -/
def byteStream (bs : List Byte) : List Bool := bs.flatMap fun b => bitsMsb 8 b.toNat

/-- A tributary's slot (R265, R266): its flags, its check, its data bits. -/
def State.bundSlot (s : State) (b t stamp : Nat) (slot : List Byte) : State :=
  let n := srcTrib b t
  let ctl := beNat (slot.take 2)
  let count := ctl / 128
  let s := if bitOf ctl 6 then s.srcSeen n Sw.liuLos else s
  let err (s : State) : State := s.modSrc n fun r => { r with errs := r.errs + 1 }
  let bip := (slot.take 36).foldl (· ^^^ ·) 0
  let s := if bip ≠ slot.getD 36 0 then err s else s
  if 272 < count then err s
  else s.gatherBits n (s.cfg (F.LIN_BTRIB_SID b t)) stamp ((byteStream ((slot.drop 2).take 34)).take count)

/-- A bundle frame stamped `stamp` at the position searched (R266): alignment, and in frame its content. -/
def State.bundReceive (s : State) (b stamp : Nat) (bytes : List Byte) : State :=
  let ok := decide (bytes.take 6 = bundPattern)
  let s := s.modBund b fun r => { r with
    good := if ok then r.good + 1 else 0, bad := if ok then 0 else r.bad + 1, units := r.units + 1 }
  let was := s.bit (F.LIN_BUND_STATUS_IN_FRAME b)
  let s :=
    if !was ∧ 2 ≤ (s.bund b).good then s.bundFrame b true
    else if was ∧ 4 ≤ (s.bund b).bad then s.bundFrame b false else s
  if !s.bit (F.LIN_BUND_STATUS_IN_FRAME b) then s else
  let f := bundWire bytes
  let s := s.set (F.LIN_BUND_STATUS_BANK_STATUS b) (f.getD 7 0).toNat
  let mg := packetWords 8 false ((f.drop 8).take 64)
  let s := s.lineWords (srcMgmt b) (s.cfg (F.LIN_BUND_SID b)) stamp (mg.map fun w => { w with tag := 0 })
  s.each (s.tribs b) fun s t => s.bundSlot b t stamp ((f.drop (72 + 38 * t)).take 38)

/-- The bytes of a transmit slot holding some bits (R265). -/
def bundSlotBytes (bits : List Bool) : List Byte :=
  let n := Nat.min 272 bits.length
  let padded := bits.take 272 ++ List.replicate (272 - n) false
  let data := (List.range 34).map fun i =>
    BitVec.ofNat 8 (((padded.drop (8 * i)).take 8).foldl (fun a b => 2 * a + b2n b) 0)
  let body := [BitVec.ofNat 8 (n / 2), BitVec.ofNat 8 (n % 2 * 128)] ++ data
  body ++ [body.foldl (· ^^^ ·) 0, 0]

/-- BUNDLE_FRAME_TRANSMIT (R264 to R266): a transmit frame with its counter, status, management bytes and the bits placed in
each enabled tributary's slot. -/
def execBundleFrameTransmit (b : Fin 8) (status : Byte) (mgmt : List Byte) (slots : List (List Bool)) (s : State) :
    Host.Outcome State Fault Refusal :=
  settle s (
    if !s.txOn (48 + b.val) then s else
    let slot (t : Nat) : List Byte := bundSlotBytes (if s.on (F.LIN_BTRIB_EN b.val t) then slots.getD t [] else [])
    let m := (mgmt ++ List.replicate 64 0).take 64
    let f := bundPattern ++ [BitVec.ofNat 8 (s.bund b.val).count, status] ++ m ++ (List.range 126).flatMap slot
    (s.modBund b.val fun r => { r with count := (r.count + 1) % 256 }).emit (.bundle b.val (bundWire f)))

/-- A bundle has been disabled: it is out of frame. -/
def State.bundStop (s : State) (b : Nat) : State :=
  (s.put (F.LIN_BUND_STATUS_IN_FRAME b) false).modBund b fun r => { r with good := 0, bad := 0 }

end Sys2Proof.Machine
end

