-- ==== Sys2Proof/Machine/Ether.lean ====
section
/-! DEFINITION. The Ethernet MAC of `LIN` (R259, R262, R268) and the pseudowire transmit framer of `MAP` (R326). -/

namespace Sys2Proof.Machine

/-- The lane whose fields apply to lane `l`: the lowest of its group for 100GBASE-R4 (R262, R277). -/
def State.macLane (s : State) (l : Nat) : Nat := if s.laneMode l = 10 then 4 * (l / 4) else l

/-- The VLAN table entry of a lane for a VID: its stream, if it is in use (R276, R278). -/
def State.vlanSid (s : State) (l vid : Nat) : Option Nat :=
  if vid % 2 = 0 then
    if s.on (F.LIN_VLAN_VALID0 l (vid / 2)) then some (s.cfg (F.LIN_VLAN_SID0 l (vid / 2))) else none
  else if s.on (F.LIN_VLAN_VALID1 l (vid / 2)) then some (s.cfg (F.LIN_VLAN_SID1 l (vid / 2))) else none

/-- A frame that the MAC discards (R262). -/
def State.macDiscard (s : State) (l : Nat) : State := (s.inc (F.LIN_LANE_RXDISC l) 1).tal 15 1 1

/-- A frame as the MAC receives it, from destination address to FCS (R262): its checks and its delivery. A frame for the
discovery agent is handed over; what the agent does with it are its own commands (R274; log 32). -/
def State.macReceive (s : State) (l stamp : Nat) (f : List Byte) : State :=
  let s := (s.tal 15 0 1).modSrc l fun r => { r with frames := BitVec.ofNat 16 (leNat (f.drop (f.length - 4))) :: r.frames }
  let n := f.length
  let body := f.take (n - 4)
  let fcs := leNat (f.drop (n - 4))
  let bad := n < 18 ∨ s.cfg (F.LIN_LANE_CFG_MAX_LEN l) < n ∨ crc32 body ≠ fcs
  if bad then s.macDiscard l else
  let tagged := beNat ((body.drop 12).take 2) = 0x8100
  let ety := if tagged then beNat ((body.drop 16).take 2) else beNat ((body.drop 12).take 2)
  if ety = s.cfg F.LIN_DISC_CFG_ETYPE then s
  else if ety = 0x8808 then s.macDiscard l
  else
    let sid := if tagged then s.vlanSid l (beNat ((body.drop 14).take 2) % 4096)
      else if s.on (F.LIN_LANE_CFG_UNTAGGED_EN l) then some (s.cfg (F.LIN_LANE_SID_SID l)) else none
    match sid with
    | none => s.macDiscard l
    | some sid => s.lineWords l sid stamp (packetOf body)

/-- Big-endian bytes of a value. -/
def beBytes (n v : Nat) : List Byte := (leBytes n v).reverse

/-- A frame as the MAC sends it (R262): padded with zeros to 60 bytes, with its FCS. -/
def macFrame (bs : List Byte) : List Byte :=
  let b := bs ++ List.replicate (60 - bs.length) 0
  b ++ leBytes 4 (crc32 b)

/-- The header of a framer template (R326). -/
def State.pwHeader (s : State) (k : Nat) : List Byte :=
  beBytes 6 (s.cfg (F.MAP_PWTX_W1_DA_HI k) * 2 ^ 32 + s.cfg (F.MAP_PWTX_W0_DA_LO k))
    ++ beBytes 6 (s.cfg F.MAP_PW_SA_HI * 2 ^ 32 + s.cfg F.MAP_PW_SA_LO)
    ++ (if s.on (F.MAP_PWTX_W1_TAGGED k)
        then beBytes 2 0x8100 ++ beBytes 2 (s.cfg (F.MAP_PWTX_W1_PCP k) * 2 ^ 13 + s.cfg (F.MAP_PWTX_W1_VID k)) else [])
    ++ beBytes 2 0x88D8 ++ beBytes 4 (s.cfg (F.MAP_PWTX_W2_ECID k) * 4096 + 0x102)

/-- PW_TRANSMIT_FRAME (R326): one released frame passes the framer; none where it is discarded. -/
def State.pwFrame (s : State) (f : List TWord) : Option (List Byte) × State :=
  let first := match f with | w :: _ => w.data.toNat | [] => 0
  if bitsOf first 56 8 ≠ 0xF1 then (some (packetBytes f), s) else
  let k := bitsOf first 0 12
  if bitsOf first 12 44 ≠ 0 ∨ !s.on (F.MAP_PWTX_W2_VALID k) ∨ !s.on F.MAP_CTRL_ENABLE
  then (none, (s.inc F.MAP_PWTX_DROPS 1).tal 17 3 1)
  else (some (s.pwHeader k ++ packetBytes (f.drop 1)), s)

/-- The packets of a list of words, in order; words outside packets are left out. -/
def packets : List TWord → List TWord → List (List TWord)
  | _, [] => []
  | cur, w :: r =>
    let cur := if tagStart w.tag then [w] else if cur.isEmpty then [] else cur ++ [w]
    if tagEnd w.tag ∧ !cur.isEmpty then cur :: packets [] r else packets cur r

/-- Released words reach transmitter `n` (R16, R35, R261, R262, R316, R326): nothing where it is squelched or looped at the far
end; the words of a framed lane leave as merged, before its scrambler. Under near-end loopback the line comes back as the lane's
input, stamped with this tick: as it was before the scrambler where the receiver descrambles. -/
def State.transmit (s : State) (n : Nat) (ws : List TWord) : State :=
  if !s.txOn n then s else
  let data := ws.filter fun w => !isMarker w.tag
  if n < 16 ∧ isEth (s.laneMode n) then
    s.each (packets [] data) fun s f =>
      match s.pwFrame f with
      | (none, s) => s
      | (some bs, s) =>
        let s := s.emit (.frame n bs)
        if s.cfg (F.LIN_LANE_CFG_LOOPBACK n) = 1 then s.macReceive n s.tick (macFrame bs) else s
  else
    let (merged, line, s) := if n < 16 then data.foldl (fun (a : List TWord × List TWord × State) w =>
        let (m, l, s) := a.2.2.txWord n w
        (a.1 ++ [m], a.2.1 ++ [l], s)) ([], [], s)
      else (data, data, s)
    let s := s.emit (.tx n merged)
    if n < 16 ∧ s.cfg (F.LIN_LANE_CFG_LOOPBACK n) = 1
    then s.lineWords n (s.cfg (F.LIN_LANE_SID_SID n)) s.tick
      ((if s.bit (F.LIN_LANE_STATUS_DESCR_ON n) then merged else line).map fun w => { w with tag := w.tag &&& 7 })
    else s

end Sys2Proof.Machine
end

