-- ==== Sys2Proof/Machine/Voice.lean ====
section
/-! DEFINITION. `VOX` (chapter 13): the voice ports, their clocks, blocks, buffers and ramps, and the voice crossconnect. -/

namespace Sys2Proof.Machine

/-! ## A port's configuration (R383 to R385) -/

/-- States of a port (R387). -/
def VpSt.off : Nat := 0
def VpSt.provisional : Nat := 1
def VpSt.inService : Nat := 2
def VpSt.stopping : Nat := 3

/-- State of port `n`. -/
def State.vpState (s : State) (n : Nat) : Nat := s.get (F.VOX_VP_STATUS_STATE n)
/-- Slots per frame, bits per slot, bytes per sample in a block (R389), bits per frame (R384). -/
def State.vpSlots (s : State) (n : Nat) : Nat := s.cfg (F.VOX_VP_CFG_SLOTS n) + 1
def State.vpWidth (s : State) (n : Nat) : Nat := 8 * (s.cfg (F.VOX_VP_CFG_WIDTH n) + 1)
def State.vpBytes (s : State) (n : Nat) : Nat := if s.vpWidth n = 24 then 4 else s.vpWidth n / 8
def State.vpBits (s : State) (n : Nat) : Nat := if s.on (F.VOX_VP_CFG_FORMAT n) then 64 else s.vpSlots n * s.vpWidth n
/-- Frame rate in Hz, law (0 linear, 1 A-law, 2 µ-law), master mode. -/
def State.vpRate (s : State) (n : Nat) : Nat := s.cfg (F.VOX_VP_RATE_FRAME_RATE n)
def State.vpLaw (s : State) (n : Nat) : Nat := s.cfg (F.VOX_VP_CFG_LAW n)
def State.vpMaster (s : State) (n : Nat) : Bool := s.on (F.VOX_VP_CFG_MASTER n)
/-- XIN frequency in Hz (R68). -/
def State.xinHz (s : State) : Nat := s.nominalRatio / 2 ^ 32 * 8000

/-- Whether an enable of port `n` is refused (R385). -/
def State.vpEnableRefused (s : State) (n : Nat) : Bool :=
  let law := s.listed (F.VOX_VP_CFG_LAW n)
  let width := s.cfg (F.VOX_VP_CFG_WIDTH n)
  let slotOk := (width = 0 && law ≠ 0) || (width = 1 && law = 0)
  s.get (F.PWR_DOM_STATUS_STATE (152 + n / 4)) ≠ Dom.on
    || (s.on (F.VOX_VP_CFG_FORMAT n) && s.vpSlots n ≠ 2)
    || (law ≠ 0 && width ≠ 0)
    || decide (49152000 < s.vpRate n * s.vpBits n) || decide (s.vpRate n < 8000 ∨ 48000 < s.vpRate n)
    || (s.on (F.VOX_VP_CFG_PATH n) && (s.vpRate n ≠ 8000 || !slotOk))
    || decide (16384 < s.cfg (F.VOX_VP_TXCFG_TX_DEPTH n) * (s.vpSlots n * s.vpBytes n))
    || decide (s.cfg (F.VOX_VP_TXCFG_TX_DEPTH n) ≤ s.cfg (F.VOX_VP_TXCFG_TX_START n))

/-! ## Records and states (R386, R387) -/

/-- The record of a port that is not OFF. -/
def State.vp (s : State) (n : Nat) : Option Vp := s.vox.ports.find? (·.num = n)
/-- Change the record of a port. -/
def State.modVp (s : State) (n : Nat) (f : Vp → Vp) : State :=
  { s with vox := { s.vox with ports := s.vox.ports.map fun p => if p.num = n then f p else p } }
/-- An event of a port (R400). -/
def State.vpEvent (s : State) (n code : Nat) : State := s.raise { src := 704 + n, code := code, subject := n }
/-- A port changes its state. -/
def State.vpEnter (s : State) (n st : Nat) : State :=
  if s.vpState n = st then s else (s.set (F.VOX_VP_STATUS_STATE n) st).vpEvent n 2

/-! ## Soft mute (R394) -/

/-- K frames of a ramp. -/
def State.rampK (s : State) (n : Nat) : Nat := ((s.cfg (F.VOX_VP_CFG_RAMP_MS n) + 1) * s.vpRate n + 500) / 1000
/-- g of R394, times 32,768, at an attenuation of `a` steps of 90 / K dB: the largest g whose lower rounding bound does not
exceed 32,768 × 10^(−9a / 2K), compared in exact powers. -/
def gainFactor (k a : Nat) : Nat :=
  if a = 0 then 32768 else if k < a then 0 else
  (List.range 16).foldl (fun g i =>
    let c := g + 2 ^ (15 - i)
    if (2 * c - 1) ^ (2 * k) * 10 ^ (9 * a) ≤ 65536 ^ (2 * k) then c else g) 0
/-- The factor of a direction. -/
def Gain.factor (k : Nat) (g : Gain) : Nat :=
  match g.mode with
  | .start | .cond => 0
  | _ => gainFactor k g.att
/-- The gain for the next frame with data: a muted direction starts its ramp up, where its condition has cleared. -/
def Gain.next (k : Nat) (clear : Bool) (g : Gain) : Gain :=
  match g.mode with
  | .steady => g
  | .up => if g.att ≤ 1 then { att := 0, mode := .steady } else { g with att := Nat.min g.att (k + 1) - 1 }
  | .down => { g with att := Nat.min (g.att + 1) (k + 1) }
  | .start => { att := k, mode := .up }
  | .cond => if clear then { att := k, mode := .up } else g
/-- A start trigger: up from the first frame with data; during a ramp, from the attenuation in force. -/
def Gain.startUp (g : Gain) : Gain :=
  match g.mode with
  | .up | .down => { g with mode := .up }
  | _ => { att := 0, mode := .start }
/-- A stop trigger: down from the attenuation in force. -/
def Gain.startDown (k : Nat) (g : Gain) : Gain :=
  match g.mode with
  | .start | .cond => { att := k + 1, mode := .down }
  | _ => { g with mode := .down }
/-- A condition: the gain drops to 0 at once; a stop's ramp is then at its end. -/
def Gain.drop (k : Nat) (g : Gain) : Gain :=
  match g.mode with
  | .down => { att := k + 1, mode := .down }
  | _ => { att := 0, mode := .cond }
/-- Whether a ramp acts. -/
def Gain.ramps (k : Nat) (g : Gain) : Bool :=
  match g.mode with
  | .up => true
  | .down => decide (g.att ≤ k)
  | _ => false
/-- Whether a stop's ramp has ended. -/
def Gain.ended (k : Nat) (g : Gain) : Bool := g.mode = .down && decide (k < g.att)

/-- A signed value scaled and rounded to the nearest integer, ties away from zero. -/
def scaleInt (g : Nat) (v : Int) : Int :=
  let m : Int := ((v.natAbs * g * 2 + 32768) / 65536 : Nat)
  if v < 0 then -m else m
/-- A sample of `width` bits in a law, scaled (R394). -/
def scaleSample (law width g : Nat) (x : BitVec 32) : BitVec 32 :=
  if g = 32768 then x
  else if law = 0 then BitVec.ofNat 32 (unsgn width (scaleInt g (sgn width x.toNat)))
  else BitVec.ofNat 32 (g711Compress (law = 2) (scaleInt g (g711Expand (law = 2) (x.toNat % 256))))
/-- Silence of a law. -/
def silenceOf (law : Nat) : BitVec 32 := if law = 1 then 0xD5 else if law = 2 then 0xFF else 0
/-- A frame of silence of port `n`. -/
def State.vpSilence (s : State) (n : Nat) : List (BitVec 32) := List.replicate (s.vpSlots n) (silenceOf (s.vpLaw n))
/-- A frame scaled by a direction's gain, where its ramps act. -/
def State.vpScale (s : State) (n : Nat) (on : Bool) (g : Gain) (f : List (BitVec 32)) : List (BitVec 32) :=
  if on then f.map (scaleSample (s.vpLaw n) (s.vpWidth n) (g.factor (s.rampK n))) else f
/-- Whether the conditions of R386 are clear (in master mode they are not evaluated). -/
def State.vpClear (s : State) (n : Nat) : Bool :=
  s.vpMaster n || (s.bit (F.VOX_VP_STATUS_CLK_PRESENT n) && s.bit (F.VOX_VP_STATUS_RATE_OK n) && s.bit (F.VOX_VP_STATUS_FS_LOCK n))
/-- The live registers of a port after a change of its record. -/
def State.vpShow (s : State) (n : Nat) : State :=
  match s.vp n with
  | none => (s.put (F.VOX_VP_STATUS_RAMPING n) false).set (F.VOX_VP_STATUS_TX_FILL n) 0
  | some p =>
    let k := s.rampK n
    let r := (s.on (F.VOX_VP_CFG_RAMP_TX n) && p.txGain.ramps k) || (s.on (F.VOX_VP_CFG_RAMP_RX n) && p.rxGain.ramps k)
    let fill := if s.on (F.VOX_VP_CFG_PATH n) then p.txStore.length else p.tx.length / s.vpSlots n
    (s.put (F.VOX_VP_STATUS_RAMPING n) r).set (F.VOX_VP_STATUS_TX_FILL n) (Nat.min fill 255)

/-! ## Receive blocks (R389 to R391) -/

/-- The bytes of a sample in a block: left-justified, the low byte of a 24-bit sample 0. -/
def State.vpSampleBytes (s : State) (n : Nat) (x : BitVec 32) : List Byte :=
  let nb := s.vpBytes n
  beBytes nb (if s.vpWidth n = 24 then x.toNat % 2 ^ 24 * 256 else x.toNat % 2 ^ (8 * nb))
/-- The bytes of a frame in a block (R389). -/
def State.vpFrameBytes (s : State) (n mask : Nat) (f : List (BitVec 32)) : List Byte :=
  (List.range (s.vpSlots n)).flatMap fun i =>
    if bitOf mask i then s.vpSampleBytes n (f.getD i 0)
    else if s.on (F.VOX_VP_CFG_COMPACT n) then [] else s.vpSampleBytes n 0
/-- The words of a block (R389). -/
def State.vpBlock (s : State) (p : Vp) : List TWord :=
  let n := p.num
  let data := p.frames.flatMap (s.vpFrameBytes n p.mask)
  let h := p.mask * 2 ^ 32 + (p.frames.length - 1) * 2 ^ 26 + p.seq % 256 * 2 ^ 18 + b2n p.changed * 2 ^ 17
    + b2n p.prov * 2 ^ 16 + b2n p.ramp * 2 ^ 15 + b2n p.clkEv * 2 ^ 14 + b2n p.rateEv * 2 ^ 13
    + s.cfg (F.VOX_VP_CFG_WIDTH n) * 2 ^ 11 + b2n (s.on (F.VOX_VP_CFG_COMPACT n)) * 2 ^ 10
  [⟨BitVec.ofNat 64 p.start, 0x10⟩, ⟨BitVec.ofNat 64 h, if data.isEmpty then 0x08 else 0⟩]
    ++ packetWords data.length false data
/-- The block in progress closes (R389 to R391), with at least one frame: it goes to `RX_SID`, stamped with the tick of its
last frame's last bit. -/
def State.vpClose (s : State) (n : Nat) : State :=
  match s.vp n with
  | none => s
  | some p =>
    if p.frames.isEmpty then s else
    let ws := s.vpBlock p
    let s := s.modVp n fun p => { p with
      frames := [], seq := (p.seq + 1) % 256, changed := false, prov := false, ramp := false, clkEv := false, rateEv := false }
    let s := s.tal 20 1 1
    if s.ftcState = Ftc.disabled then s else (s.lineDeliver (s.cfg (F.VOX_VP_SID_RX_SID n)) p.lastTick ws).2

/-! ## Enabling and stopping (R385 to R388) -/

/-- A port enters PROVISIONAL from OFF (R386, R387): a slave port takes its meter. -/
def State.vpStart (s : State) (n : Nat) : State :=
  let p : Vp := { num := n, mask := s.cfg (F.VOX_VP_MASK n), rxGain := { mode := .start }, txGain := { mode := .start } }
  let s := { s with vox := { s.vox with ports := p :: s.vox.ports.filter (·.num ≠ n) } }
  let s := (s.put (F.VOX_VP_STATUS_CLK_PRESENT n) false).put (F.VOX_VP_STATUS_RATE_OK n) false
  let s := (s.put (F.VOX_VP_STATUS_FS_LOCK n) false).put (F.VOX_VP_STATUS_GATED n) false
  let s := if s.vpMaster n then s else
    let m := 16 + n
    let s := (s.set (F.CLK_FM_CTRL_CLK_SEL m) (0x40 + n)).set (F.CLK_FM_CTRL_REF_SEL m) 0
    let s := (s.put (F.CLK_FM_CTRL_CONT m) true).put (F.CLK_FM_CTRL_VOX_OWNED m) true
    (s.set (F.CLK_FM_GATE m) (s.cfg (F.VOX_VP_RATE_GATE n))).meterStart m
  (s.vpShow n).vpEnter n VpSt.provisional

/-- A port goes OFF (R387, R390): its block closes at the last whole frame, its meter is given back. -/
def State.vpStop (s : State) (n : Nat) : State :=
  let s := s.vpClose n
  let s := { s with vox := { s.vox with ports := s.vox.ports.filter (·.num ≠ n) } }
  let s := if s.bit (F.CLK_FM_CTRL_VOX_OWNED (16 + n)) then
      { s with clk := { s.clk with metering := s.clk.metering.filter (· ≠ 16 + n) } }.put (F.CLK_FM_CTRL_VOX_OWNED (16 + n)) false
    else s
  (s.vpShow n).vpEnter n VpSt.off

/-- A port's group follows its power domain (R387, R398): a group that does not work holds its ports OFF with `GATED` 1. -/
def State.vpFollow (s : State) : State :=
  s.each ((List.range 16).filter fun n => s.on (F.VOX_VP_CFG_ENABLE n)) fun s n =>
    let works := s.domWorks (152 + n / 4)
    if !works ∧ s.vpState n ≠ VpSt.off then (s.vpStop n).put (F.VOX_VP_STATUS_GATED n) true
    else if works ∧ s.bit (F.VOX_VP_STATUS_GATED n) then s.vpStart n
    else s

/-- A condition of R386: IN_SERVICE falls to PROVISIONAL, an accepted `SERVICE` is refused (R399), the gain drops to 0 in both
directions (R394). -/
def State.vpCondition (s : State) (n : Nat) : State :=
  match s.vp n with
  | none => s
  | some p =>
    let k := s.rampK n
    let s := s.modVp n fun p => { p with svc := false, aligned := false, rxGain := p.rxGain.drop k, txGain := p.txGain.drop k }
    let s := if p.svc then s.put (F.VOX_VP_STICKY_SERVICE_REFUSED n) true else s
    (if s.vpState n = VpSt.inService then s.vpEnter n VpSt.provisional else s).vpShow n

/-- `STOP` (R387, R394). -/
def State.vpStopWrite (s : State) (n : Nat) : State :=
  let st := s.vpState n
  if st ≠ VpSt.provisional ∧ st ≠ VpSt.inService then s else
  let k := s.rampK n
  let s := s.modVp n fun p => { p with
    svc := false, aligned := st = VpSt.inService, rxGain := p.rxGain.startDown k, txGain := p.txGain.startDown k }
  (s.vpShow n).vpEnter n VpSt.stopping

/-- `SERVICE` (R388): accepted, it waits for the next receive frame boundary. -/
def State.vpServiceWrite (s : State) (n : Nat) : State :=
  if s.vpState n = VpSt.provisional ∧ s.vpClear n then s.modVp n fun p => { p with svc := true }
  else s.put (F.VOX_VP_STICKY_SERVICE_REFUSED n) true

/-- A write to `VOX_VPn_CTRL` (R388, R399): `STOP` before `SERVICE`. -/
def State.vpCtrlWrite (s : State) (n act : Nat) : State :=
  let s := if bitOf act 1 then s.vpStopWrite n else s
  if bitOf act 0 then s.vpServiceWrite n else s

/-- An accepted `SERVICE` acts at a receive frame boundary (R388). -/
def State.vpService (s : State) (n : Nat) : State :=
  let s := (s.vpClose n).modVp n fun p => { p with
    svc := false, aligned := true, seq := 0, changed := true, tx := [], started := false, rxStore := [], rxRun := false
    txStore := [], txRun := false, rxGain := p.rxGain.startUp, txGain := p.txGain.startUp }
  (s.vpShow n).vpEnter n VpSt.inService

/-- RAMP_DOWN_END (R387): the stop's ramps have ended; `ENABLE` is cleared and the port goes OFF. -/
def execRampDownEnd (n : Fin 16) (s : State) : Host.Outcome State Fault Refusal :=
  settle s (match s.vp n.val with
    | none => s
    | some p =>
      let k := s.rampK n.val
      let ends (on : Bool) (g : Gain) : Bool := !on || g.ended k
      if s.vpState n.val = VpSt.stopping ∧ ends (s.on (F.VOX_VP_CFG_RAMP_TX n.val)) p.txGain
          ∧ ends (s.on (F.VOX_VP_CFG_RAMP_RX n.val)) p.rxGain
      then (s.put (F.VOX_VP_CFG_ENABLE n.val) false).vpStop n.val else s)

/-! ## Clock monitoring (R386) -/

/-- Whether a port's clock is monitored: a slave that is not OFF. -/
def State.vpWatched (s : State) (n : Nat) : Bool := (s.vp n).isSome && !s.vpMaster n

/-- VP_CLOCK_STOP. -/
def execVpClockStop (n : Fin 16) (s : State) : Host.Outcome State Fault Refusal :=
  settle s (
    if !s.vpWatched n.val then s else
    let s := (s.put (F.VOX_VP_STATUS_CLK_PRESENT n.val) false).put (F.VOX_VP_STICKY_CLK_STOP n.val) true
    let s := (s.vpClose n.val).modVp n.val fun p => { p with stopped := true, clkEv := true }
    (s.vpCondition n.val).vpEvent n.val 0)

/-- VP_CLOCK_RETURN: 64 edges have been seen. -/
def execVpClockReturn (n : Fin 16) (s : State) : Host.Outcome State Fault Refusal :=
  settle s (if s.vpWatched n.val then s.put (F.VOX_VP_STATUS_CLK_PRESENT n.val) true else s)

/-- VP_CLOCK_GLITCH: `EV_VP_CLK` at most once per tick. -/
def execVpClockGlitch (n : Fin 16) (s : State) : Host.Outcome State Fault Refusal :=
  settle s (match s.vp n.val with
    | none => s
    | some p =>
      if s.vpMaster n.val then s else
      let s := s.put (F.VOX_VP_STICKY_GLITCH n.val) true
      let s := (s.modVp n.val fun p => { p with clkEv := true, glitched := some s.tick }).vpCondition n.val
      if p.glitched = some s.tick then s else s.vpEvent n.val 0)

/-- Whether a count departs from nominal by more than `RATE_TOL` × 100 ppm. -/
def State.vpRateBad (s : State) (n count : Nat) : Bool :=
  let nom := s.vpRate n * s.vpBits n * s.cfg (F.VOX_VP_RATE_GATE n)
  decide (s.cfg (F.VOX_VP_RATE_RATE_TOL n) * nom < Int.natAbs ((count * s.xinHz : Nat) - (nom : Nat) : Int) * 10000)

/-- VP_RATE_RESULT: a meter result is judged, unless its gate contained a clock stop. -/
def execVpRateResult (n : Fin 16) (count : Nat) (s : State) : Host.Outcome State Fault Refusal :=
  settle s (match s.vp n.val with
    | none => s
    | some p =>
      if s.vpMaster n.val then s else
      let s := s.modVp n.val fun p => { p with stopped := !s.bit (F.VOX_VP_STATUS_CLK_PRESENT n.val) }
      if p.stopped then s else
      let gate := s.cfg (F.VOX_VP_RATE_GATE n.val)
      let s := s.set (F.VOX_VP_RATE_MEAS n.val) (16 * count * s.xinHz / (gate * s.vpBits n.val) % 2 ^ 20)
      if s.vpRateBad n.val count then
        let s := (s.put (F.VOX_VP_STATUS_RATE_OK n.val) false).put (F.VOX_VP_STICKY_RATE n.val) true
        ((s.modVp n.val fun p => { p with rateEv := true }).vpCondition n.val).vpEvent n.val 1
      else s.put (F.VOX_VP_STATUS_RATE_OK n.val) true)

/-! ## Receive frames (R386, R388 to R391, R397) -/

/-- The frame sync that ends a receive frame is judged (R386); the answer says whether the frame was cut short. -/
def State.vpSync (s : State) (n : Nat) (ok : Bool) : Bool × State :=
  if s.vpMaster n then (false, s) else
  let locked := s.bit (F.VOX_VP_STATUS_FS_LOCK n)
  let good := match s.vp n with | some p => p.fsGood + 1 | none => 0
  if ok then
    let s := s.modVp n fun p => { p with fsGood := good }
    (false, if 16 ≤ good then s.put (F.VOX_VP_STATUS_FS_LOCK n) true else s)
  else
    let s := (s.put (F.VOX_VP_STATUS_FS_LOCK n) false).put (F.VOX_VP_STICKY_FS_ERR n) true
    let s := if locked then s.vpClose n else s
    (locked, (s.modVp n fun p => { p with fsGood := 0, clkEv := true }).vpCondition n)

/-- A slip of a slave port's store (R397). -/
def State.vpSlip (s : State) (n : Nat) (f : Fld) : State :=
  if s.vpMaster n then s
  else (((s.inc f 1).put (F.VOX_VP_STICKY_SLIP n) true).tal 20 2 1).gather { src := 720, subject := 2048 + n }
/-- A whole frame enters the receive store of a crossconnect port (R397). -/
def State.vpStore (s : State) (n : Nat) (f : List (BitVec 32)) : State :=
  match s.vp n with
  | none => s
  | some p =>
    let full := decide (4 ≤ p.rxStore.length)
    let st := (if full then p.rxStore.drop 1 else p.rxStore) ++ [f]
    let s := s.modVp n fun p => { p with rxStore := st, rxRun := p.rxRun || decide (2 ≤ st.length) }
    if full then s.vpSlip n (F.VOX_VP_SLIP_DROPS n) else s

/-- A whole receive frame is added to the block, which closes where it is full (R389). -/
def State.vpAdd (s : State) (n stamp : Nat) (start : Nat) (f : List (BitVec 32)) (ramp : Bool) : State :=
  let prov := s.vpState n = VpSt.provisional
  let s := s.modVp n fun p => { p with
    frames := p.frames ++ [f], start := if p.frames.isEmpty then start else p.start, lastTick := stamp
    prov := p.prov || prov, ramp := p.ramp || ramp }
  match s.vp n with
  | some p => if s.cfg (F.VOX_VP_CFG_BLOCK_FRAMES n) + 1 ≤ p.frames.length then s.vpClose n else s
  | none => s

/-- The frame boundary after a receive frame: an accepted `SERVICE` acts (R388), and a committed mask applies (R391). -/
def State.vpBoundary (s : State) (n : Nat) : State :=
  let s := match s.vp n with | some p => if p.svc then s.vpService n else s | none => s
  match s.vp n with
  | some p =>
    let m := s.cfg (F.VOX_VP_MASK n)
    if p.mask = m then s else (s.vpClose n).modVp n fun p => { p with mask := m, changed := true }
  | none => s

/-- A receive frame of port `n` completes, stamped `stamp`. -/
def State.vpReceive (s : State) (n stamp : Nat) (f : VoiceFrame) : State :=
  if (s.vp n).isNone then s else
  let s := (s.modVp n fun p => { p with units := p.units + 1 }).tal 20 0 1
  let (cut, s) := s.vpSync n f.fsOk
  if cut then s else
  let k := s.rampK n
  let clear := s.vpClear n
  let s := s.modVp n fun p => { p with rxGain := p.rxGain.next k clear }
  match s.vp n with
  | none => s
  | some p =>
    let on := s.on (F.VOX_VP_CFG_RAMP_RX n)
    let fr := s.vpScale n on p.rxGain (f.samples.take (s.vpSlots n))
    let s := if s.on (F.VOX_VP_CFG_PATH n) then s.vpStore n fr
      else s.vpAdd n stamp f.start.toNat fr (on && p.rxGain.ramps k)
    (s.vpBoundary n).vpShow n

/-! ## Transmit (R392 to R394) -/

/-- Whether released words are one complete packet (R337, R392). -/
def wholePacket (ws : List TWord) : Bool :=
  match ws with
  | [] => false
  | w :: r => tagStart w.tag && !tagEnd w.tag && !r.any (fun x => tagStart x.tag)
      && (match r.getLast? with | some l => tagEnd l.tag | none => false) && !r.dropLast.any (fun x => tagEnd x.tag)

/-- A sample from its bytes in a block (R389). -/
def State.vpSampleOf (s : State) (n : Nat) (bs : List Byte) : BitVec 32 :=
  let v := beNat bs
  BitVec.ofNat 32 (if s.vpWidth n = 24 then v / 256 else v)

/-- The frames of a block's data (R392): an unselected slot is silence. -/
def State.vpUnpack (s : State) (n mask : Nat) (compact : Bool) (frames : Nat) (data : List Byte) : List (List (BitVec 32)) :=
  let nb := s.vpBytes n
  let per := nb * (if compact then popCount 32 mask else s.vpSlots n)
  (List.range frames).map fun i => (List.range (s.vpSlots n)).map fun j =>
    if bitOf mask j then
      s.vpSampleOf n (((data.drop (i * per + nb * (if compact then popCount j mask else j)))).take nb)
    else silenceOf (s.vpLaw n)

/-- The frames of a released block, if the port takes it (R392). -/
def State.vpFrames (s : State) (n : Nat) (ws : List TWord) : Option (List (List (BitVec 32))) :=
  let h := (ws.getD 1 ⟨0, 0⟩).data.toNat
  let mask := bitsOf h 32 32
  let frames := bitsOf h 26 6 + 1
  let compact := bitOf h 10
  let bytes := frames * s.vpBytes n * (if compact then popCount 32 mask else s.vpSlots n)
  if !wholePacket ws ∨ bitsOf h 11 2 ≠ s.cfg (F.VOX_VP_CFG_WIDTH n) ∨ mask / 2 ^ s.vpSlots n ≠ 0
    ∨ ws.length ≠ 2 + ceilDiv bytes 8 then none
  else some (s.vpUnpack n mask compact frames ((ws.drop 2).flatMap fun w => (wordBytes w.data).map (BitVec.ofNat 8)))

/-- Whether a port works by whole frames (R393): IN_SERVICE, or STOPPING from there. -/
def State.vpAligned (s : State) (n : Nat) (p : Vp) : Bool :=
  s.vpState n = VpSt.inService || (s.vpState n = VpSt.stopping && p.aligned)

/-- A released block reaches port `n` (R392, R393). -/
def State.vpBlockIn (s : State) (n : Nat) (ws : List TWord) : State :=
  match s.vp n with
  | none => s
  | some p =>
    if s.on (F.VOX_VP_CFG_PATH n) then s else
    match s.vpFrames n ws with
    | none => (s.inc (F.VOX_VP_TXBAD n) 1).put (F.VOX_VP_STICKY_TX_BAD_BLOCK n) true
    | some fs =>
      let slots := s.vpSlots n
      let room := s.cfg (F.VOX_VP_TXCFG_TX_DEPTH n) * slots - p.tx.length
      if fs.length * slots ≤ room then (s.modVp n fun p => { p with tx := p.tx ++ fs.flatten }).vpShow n
      else if s.vpAligned n p then
        let fit := room / slots
        let s := s.modVp n fun p => { p with tx := p.tx ++ (fs.take fit).flatten }
        let s := (s.inc (F.VOX_VP_XRUN_OVER n) (fs.length - fit)).put (F.VOX_VP_STICKY_OVERRUN n) true
        ((s.tal 20 3 (fs.length - fit)).gather { src := 704 + n, code := 3, subject := n }).vpShow n
      else (s.modVp n fun p => { p with tx := p.tx ++ fs.flatten.take room }).vpShow n

/-- VP_TX_BLOCK (R392). -/
def execVpTxBlock (n : Fin 16) (ws : List TWord) (s : State) : Host.Outcome State Fault Refusal := settle s (s.vpBlockIn n.val ws)

/-- A frame leaves on `VP_DOn` (R384), unless pair mode squelches it (R415). -/
def State.vpPlay (s : State) (n : Nat) (f : List (BitVec 32)) : State := if s.squelched then s else s.emit (.voice n f)
/-- A frame with data is played under the transmit gain (R394). -/
def State.vpPlayData (s : State) (n : Nat) (f : List (BitVec 32)) : State :=
  let k := s.rampK n
  let clear := s.vpClear n
  let s := s.modVp n fun p => { p with txGain := p.txGain.next k clear, played := f }
  match s.vp n with
  | some p => s.vpPlay n (s.vpScale n (s.on (F.VOX_VP_CFG_RAMP_TX n)) p.txGain f)
  | none => s

/-- An underrun (R393, R394). -/
def State.vpUnderrun (s : State) (n : Nat) (p : Vp) : State :=
  let restart (s : State) : State := s.modVp n fun p => { p with
    tx := [], txGain := if p.txGain.mode = .cond then p.txGain else { att := 0, mode := .start } }
  if s.vpAligned n p then
    let s := (s.inc (F.VOX_VP_XRUN_UNDER n) 1).put (F.VOX_VP_STICKY_UNDERRUN n) true
    let s := (s.tal 20 3 1).gather { src := 704 + n, code := 3, subject := n }
    let s := s.modVp n fun p => { p with txGain := if p.txGain.mode = .cond then p.txGain else { att := 0, mode := .start } }
    s.vpPlay n (s.vpSilence n)
  else
    let f := p.tx ++ (s.vpSilence n).drop p.tx.length
    (restart (if p.tx.isEmpty then s.vpPlay n f else s.vpPlayData n f))

/-- The block path's transmit frame (R393). -/
def State.vpTxBuffer (s : State) (n : Nat) (p : Vp) : State :=
  let slots := s.vpSlots n
  let started := p.started || decide (s.cfg (F.VOX_VP_TXCFG_TX_START n) ≤ p.tx.length / slots)
  if !started then s.vpPlay n (s.vpSilence n) else
  let s := s.modVp n fun p => { p with started := true }
  if slots ≤ p.tx.length then
    (s.modVp n fun p => { p with tx := p.tx.drop slots }).vpPlayData n (p.tx.take slots)
  else if s.vpState n = VpSt.stopping then
    s.vpPlayData n (if p.played.isEmpty then s.vpSilence n else p.played)
  else s.vpUnderrun n p

/-- The crossconnect's transmit frame (R397). -/
def State.vpTxStore (s : State) (n : Nat) (p : Vp) : State :=
  if !p.txRun then s.vpPlay n (s.vpSilence n) else
  match p.txStore with
  | f :: r => (s.modVp n fun p => { p with txStore := r, txLast := f.2 }).vpPlayData n f.2
  | [] => (s.vpSlip n (F.VOX_VP_SLIP_REPEATS n)).vpPlayData n p.txLast

/-- VP_TX_FRAME (R393, R397). -/
def execVpTxFrame (n : Fin 16) (s : State) : Host.Outcome State Fault Refusal :=
  settle s (match s.vp n.val with
    | none => s
    | some p => (if s.on (F.VOX_VP_CFG_PATH n.val) then s.vpTxStore n.val p else s.vpTxBuffer n.val p).vpShow n.val)

/-! ## The crossconnect (R395 to R397) -/

/-- The entries whose in-force word is not its reset value, by their numbers. -/
def State.xcEntries (s : State) : List Nat :=
  let l := match s.heldOf (R.VOX_XC 0) with | some h => h.live | none => s.regs.live
  (l.filter fun e => decide (R.VOX_XC 0 ≤ e.1 ∧ e.1 < R.VOX_XC 2048)).map fun e => (e.1 - R.VOX_XC 0) / 4
/-- Port and slot of an entry. -/
def State.xcSlot (s : State) (e : Nat) : Nat × Nat := (s.cfg (F.VOX_XC_PORT e), s.cfg (F.VOX_XC_SLOT e))
/-- Whether a valid entry names a port whose `PATH` is 0, or a slot beyond its `SLOTS` (R396). -/
def State.xcBad (s : State) (e : Nat) : Bool :=
  s.on (F.VOX_XC_VALID e) && (!s.on (F.VOX_VP_CFG_PATH (s.xcSlot e).1) || decide (s.vpSlots (s.xcSlot e).1 ≤ (s.xcSlot e).2))
/-- Whether an entry is valid (R396). -/
def State.xcOk (s : State) (e : Nat) : Bool := s.on (F.VOX_XC_VALID e) && !s.xcBad e
/-- Whether a lower entry feeds the slot of entry `e` (R396). -/
def State.xcTaken (s : State) (e : Nat) : Bool :=
  s.xcEntries.any fun d => decide (d < e) && s.xcOk d && s.on (F.VOX_XC_TX_EN d) && s.xcSlot d = s.xcSlot e
/-- Whether entry `e` feeds its transmit slot. -/
def State.xcFeeds (s : State) (e : Nat) : Bool := s.xcOk e && s.on (F.VOX_XC_TX_EN e) && !s.xcTaken e

/-- A commit of crossconnect entries has been copied (R396): those it changed are judged. -/
def State.voxCommitted (s old : State) : State :=
  s.each (s.xcEntries.filter fun e => s.liveWord (R.VOX_XC e) ≠ old.liveWord (R.VOX_XC e)) fun s e =>
    if s.xcBad e then (s.put F.VOX_STICKY_BAD_ENTRY true).raise { src := 720, subject := e }
    else if s.xcOk e ∧ s.on (F.VOX_XC_TX_EN e) ∧ s.xcTaken e
      then (s.put F.VOX_STICKY_TX_CONFLICT true).raise { src := 720, subject := e }
    else s

/-- A code of one law as a code of another (R396). -/
def relaw (from_ to_ : Bool) (c : Nat) : Nat := if from_ = to_ then c else g711Compress to_ (g711Expand from_ c)
/-- A slot's sample as a byte of a bundle of law `mu` (R396). -/
def State.toBundle (s : State) (n : Nat) (mu : Bool) (x : BitVec 32) : Nat :=
  if s.vpLaw n = 0 then g711Compress mu (sgn 16 x.toNat) else relaw (s.vpLaw n = 2) mu (x.toNat % 256)
/-- A byte of a bundle of law `mu` as a slot's sample (R396). -/
def State.fromBundle (s : State) (n : Nat) (mu : Bool) (b : Nat) : BitVec 32 :=
  if s.vpLaw n = 0 then BitVec.ofNat 32 (unsgn 16 (g711Expand mu b)) else BitVec.ofNat 32 (relaw mu (s.vpLaw n = 2) b)
/-- Silence of a bundle. -/
def bundleSilence (mu : Bool) : Nat := if mu then 0xFF else 0xD5
/-- Law of bundle `b`: true is µ-law. -/
def State.vbMu (s : State) (b : Nat) : Bool := s.on (F.VOX_VB_CFG_LAW b)

/-- The positions of a released bundle frame (R34, R397); substitute content by its kind. -/
def voxPositions (mu : Bool) : Content → List Nat
  | .words ws _ => ws.flatMap fun w => wordBytes w.data
  | .subst 1 w => (List.replicate 4 (wordBytes w)).flatten
  | .subst 2 _ => List.replicate 32 (bundleSilence mu)
  | .subst _ _ => List.replicate 32 0xFF

/-- A sample for slot `j` of tick `t` enters the transmit store of a port (R397): the frame of one tick is gathered from the
bundles that feed the port. -/
def State.vpFeed (s : State) (n t j : Nat) (x : BitVec 32) : State :=
  match s.vp n with
  | none => s
  | some p =>
    match p.txStore.getLast? with
    | some (t', f) =>
      if t' = t then s.modVp n fun p => { p with txStore := p.txStore.dropLast ++ [(t, f.set j x)] } else
      let full := decide (4 ≤ p.txStore.length)
      let st := (if full then p.txStore.drop 1 else p.txStore) ++ [(t, (s.vpSilence n).set j x)]
      let s := s.modVp n fun p => { p with txStore := st, txRun := p.txRun || decide (2 ≤ st.length) }
      if full then s.vpSlip n (F.VOX_VP_SLIP_DROPS n) else s
    | none => s.modVp n fun p => { p with txStore := [(t, (s.vpSilence n).set j x)] }

/-- The bundle frame released for output tick `t` on a stream enters the stores of the ports it feeds (R397). -/
def State.voxRelease (s : State) (sid t : Nat) (c : Content) : State :=
  let bs := (List.range 64).filter fun b => s.on (F.VOX_VB_CFG_EN b) && s.cfg (F.VOX_VB_SID_TX_SID b) = sid
  s.each bs fun s b =>
    let mu := s.vbMu b
    let pos := voxPositions mu c
    let mine := s.xcEntries.filter fun e => e / 32 = b && s.xcFeeds e
    let s := s.each mine fun s e =>
      let (n, j) := s.xcSlot e
      s.vpFeed n t j (s.fromBundle n mu (pos.getD (e % 32) (bundleSilence mu)))
    s.each (mine.map fun e => (s.xcSlot e).1).eraseDups State.vpShow

/-- The frame that the crossconnect takes from each port's receive store for a tick (R397). -/
def State.vpTake (s : State) (n : Nat) : State :=
  match s.vp n with
  | none => s
  | some p =>
    if !p.rxRun then s else
    match p.rxStore with
    | f :: r => s.modVp n fun p => { p with rxStore := r, rxLast := f }
    | [] => s.vpSlip n (F.VOX_VP_SLIP_REPEATS n)

/-- The byte of position `e` (R395, R396). -/
def State.xcByte (s : State) (e : Nat) : Nat :=
  let mu := s.vbMu (e / 32)
  if !s.xcOk e ∨ !s.on (F.VOX_XC_RX_EN e) then bundleSilence mu else
  let (n, j) := s.xcSlot e
  match s.vp n with
  | some p => if p.rxRun then s.toBundle n mu (p.rxLast.getD j (silenceOf (s.vpLaw n))) else bundleSilence mu
  | none => bundleSilence mu

/-- XC_BUNDLE_EMIT (R397): once in a tick. -/
def execXcBundleEmit (s : State) : Host.Outcome State Fault Refusal :=
  settle s (
    if s.ftcState = Ftc.disabled ∨ s.vox.emitted = some s.tick then s else
    let s := { s with vox := { s.vox with emitted := some s.tick } }
    let s := s.each ((List.range 16).filter fun n => s.on (F.VOX_VP_CFG_PATH n)) State.vpTake
    s.each ((List.range 64).filter fun b => s.on (F.VOX_VB_CFG_EN b)) fun s b =>
      let ws := (List.range 4).map fun i =>
        (⟨BitVec.ofNat 64 (sumL ((List.range 8).map fun j => s.xcByte (32 * b + 8 * i + j) * 2 ^ (8 * (7 - j)))), 0⟩ : TWord)
      (s.lineDeliver (s.cfg (F.VOX_VB_SID_RX_SID b)) s.tick ws).2)

end Sys2Proof.Machine
end

