-- ==== Sys2Proof/Machine/Release.lean ====
section
/-! DEFINITION. The release stage (R33 to R35, R40, R49, R50, R114), the signal fail and degrade of `DEF` (R298, R299), the
service queues (R300, R305), and the protection selectors (R403 to R411). -/

namespace Sys2Proof.Machine

/-! ## Signal fail and signal degrade (R298, R299) -/

/-- The SF and SD bits of a channel as `DEF` shows them (R302). -/
def State.defShown (s : State) (c : Nat) : Bool × Bool :=
  (bitOf (s.get (F.DEF_SF (c / 32))) (c % 32), bitOf (s.get (F.DEF_SD (c / 32))) (c % 32))
/-- The SF and SD of a release (R298, R303): `none` is substitute content; else the recorded pennant. -/
def State.defOf (s : State) (c : Nat) (pen : Option Nat) : Bool × Bool :=
  if !s.on F.DEF_CTRL_ENABLE then (false, false) else
  match pen with
  | none => (true, false)
  | some p =>
    let t := s.chType c
    ((bitsOf p 0 16 &&& s.cfg (F.DEF_TYPE_MASK_SF_MASK t)) ≠ 0, (bitsOf p 0 16 &&& s.cfg (F.DEF_TYPE_MASK_SD_MASK t)) ≠ 0)
/-- SIGNAL_FAIL_DERIVE (R298, R299): the values are shown; a change marks the channel's group and raises its event once per
group and tick. -/
def State.publish (s : State) (c : Nat) (v : Bool × Bool) : State :=
  let old := s.defShown c
  if old = v then s else
  let put (s : State) (f : Fld) (b : Bool) : State := s.set f (putBits (s.get f) (c % 32) 1 (b2n b))
  let s := put (put s (F.DEF_SF (c / 32)) v.1) (F.DEF_SD (c / 32)) v.2
  let s := (s.tal 16 2 (b2n (old.1 ≠ v.1))).tal 16 3 (b2n (old.2 ≠ v.2))
  let g := c / 128
  (s.orF (F.DEF_GRP_CHG (g / 32)) (2 ^ (g % 32))).gather { src := 256 + g, subject := g }

/-! ## Taking an output from a release queue (R33, R34) -/

/-- What the sample finds in a release queue for output tick `w`: the words, the marker, whether a word is poisoned. -/
structure Taken where
  words : List QWord
  marker : Option QWord
  poison : Bool

/-- The words of a queue up to output tick `w` are taken; those of earlier ticks, completed late, are discarded (R34). A
poisoned marker counts as absent (R358). -/
def State.take (s : State) (q w : Nat) : Taken × State :=
  match s.queue q with
  | none => (⟨[], none, false⟩, s)
  | some e =>
    let due := e.words.takeWhile fun x => decide (x.arr ≤ w)
    let s := s.setWords q (e.words.drop due.length)
    let s := s.tal 18 1 due.length
    let now := due.filter (·.arr = w)
    let data := now.filter fun x => !isMarker x.tag
    (⟨data, now.find? fun x => isMarker x.tag && !x.poison, data.any (·.poison)⟩, s)

/-- The note of a marker's pennant (R298). -/
def State.markOf (s : State) (c w : Nat) : Option MarkNote := s.marks.find? fun m => m.chan = c ∧ m.tick = w
/-- Notes of a channel up to an output tick are done with. -/
def State.dropMarks (s : State) (c w : Nat) : State := { s with marks := s.marks.filter fun m => m.chan ≠ c ∨ w < m.tick }

/-- Whether Pennant Mode replaces the output of hoist `h` for tick `w` (R114, R117): the hoist does not run in it, the sample
lies in a spell, the tick before its resumption, and the marker was not written before E. -/
def State.pennantCut (s : State) (h : Hoist) (w : Nat) (wrote : Option Nat) : Bool :=
  !s.runsInPennant h && s.pwr.spells.any fun p =>
    decide (p.entry ≤ s.tick) && (match p.exit with | some x => decide (w + 2 ≤ x) | none => true)
      && (match wrote with | some t => decide (p.entry ≤ t) | none => true)

/-- Live pennant bits that a release sets or clears (R173). -/
def Pen.incomplete : Nat := 2 ^ 37
def Pen.disagree : Nat := 2 ^ 38
def Pen.degraded : Nat := 2 ^ 39
def Pen.mode : Nat := 2 ^ 40
def Pen.flag : Nat := 2 ^ 32

/-- The substitute content of a channel (R172, R350); an unlisted `SUBST` acts as 0 (R13). -/
def State.substOf (s : State) (c : Nat) (q : Nat) : Content :=
  let k := s.asLoaded.chSubst c
  .subst (if k = 3 then 0 else k) (if k = 1 then s.substWord q else 0)
/-- A queue word as it is handed on. -/
def QWord.toT (w : QWord) : TWord := ⟨w.data, w.tag⟩
/-- The content of a complete output (R33, R198). -/
def Taken.content (t : Taken) : Content :=
  .words (t.words.map QWord.toT) (match t.marker with | some m => bitsOf m.data.toNat 51 6 | none => 0)

/-! ## Delivery (R35, R345) -/

/-- The words that a release puts on its stream: the output's and its marker; substitute content is the transmitter's to make,
so only the marker travels (log 33). -/
def Content.stream (c : Content) (tick : Nat) : List TWord :=
  match c with
  | .words ws b => ws ++ [markerWord tick b]
  | .subst _ _ => [markerWord tick 0]

/-- Whether a content is a packet output: its words carry a start tag. -/
def Content.packet : Content → Bool
  | .words ws _ => ws.any fun w => tagStart w.tag && !isMarker w.tag
  | .subst _ _ => false
/-- What a fault yield makes of an output (R429): in the ticks after the decision, the output released at tick Y again, and
nothing of a packet output. -/
def State.yieldOut (s : State) (sid : Nat) (c : Content) : Option Content :=
  if s.pair.fault && s.pair.yieldAt.isSome && decide (s.pair.yieldFrom < s.tick) then
    match s.pair.outs.find? fun o => o.1 = sid with
    | some o => if o.2.2.packet then none else some o.2.2
    | none => if c.packet then none else some c
  else some c
/-- The output released last on a stream is kept while a fault yield may need it (R429). -/
def State.yieldKeep (s : State) (sid : Nat) (c : Content) : State :=
  if s.on F.PRT_PAIR_CFG_YIELD_ON_PENNANT ∧ s.get F.PRT_PAIR_STATUS_STATE = 3 ∧ !(s.pair.fault && s.pair.yieldAt.isSome
      && decide (s.pair.yieldFrom < s.tick)) then
    { s with pair := { s.pair with outs := (sid, s.tick, c) :: s.pair.outs.filter fun o => o.1 ≠ sid } }
  else s

/-- A content leaves on a stream (R33, R35): it is handed to the transmitters of the stream, to the voice bundles that take it
(R397), to the halyard where it is `HAL_TX_SID` (R455), and to its other sinks, as an internal source's words of this tick. -/
def State.sendOut (s : State) (sid chan tick : Nat) (c : Content) (defect : Bool) : State :=
  let s := (s.emit (.release sid chan tick c defect)).voxRelease sid tick c
  let s := match c with
    | .words ws _ => s.each (Config.transmitters sid) fun s n => s.transmit n ws
    | .subst _ _ => s
  let s := match c with
    | .words ws _ => if s.hierOn ∧ sid = s.cfg F.HAL_SID_TX_SID then
        s.each (packets [] (ws.filter fun w => !isMarker w.tag)) fun s f => (s.emit (.halUser s.hierPort f)).tal 22 1 1
      else s
    | .subst _ _ => s
  s.sendInternal sid s.tick (c.stream tick)

/-- An output leaves on a stream, as a fault yield lets it (R429). -/
def State.deliverOut (s : State) (sid chan tick : Nat) (c : Content) (defect : Bool) : State :=
  let s := s.yieldKeep sid c
  match s.yieldOut sid c with
  | some c => s.sendOut sid chan tick c defect
  | none => s

/-! ## Selectors (R405 to R411) -/

/-- The record of an enabled selector. -/
def State.selOf (s : State) (n : Nat) : Option Sel := s.sels.find? (·.num = n)
/-- Change the record of a selector. -/
def State.modSel (s : State) (n : Nat) (f : Sel → Sel) : State :=
  { s with sels := s.sels.map fun e => if e.num = n then f e else e }
/-- The enabled selector that a channel is a member of. -/
def State.selWith (s : State) (c : Nat) : Option Sel :=
  s.sels.find? fun e => s.cfg (F.PRT_SEL_MEMB_W_CHAN e.num) = c || s.cfg (F.PRT_SEL_MEMB_P_CHAN e.num) = c

/-- A sample of a condition (R405). -/
def runOf (n : Nat) (b : Bool) : Nat := if b then n + 1 else 0
/-- Whether a condition counts: it holds, and has held for `HOLDOFF` × 8 consecutive ticks (R405). -/
def State.counts (s : State) (n run : Nat) : Bool := decide (0 < run ∧ s.cfg (F.PRT_SEL_CFG_HOLDOFF n) * 8 ≤ run)

/-- The highest request that holds (R405), wait-to-restore aside: its `REQ` code, 0 for none. -/
def State.selRequest (s : State) (e : Sel) : Nat :=
  let cmd := s.cfg (F.PRT_SEL_CMD_CMD e.num)
  let sd := s.on (F.PRT_SEL_CFG_SD_EN e.num)
  if cmd = 1 then 1
  else if s.counts e.num e.sfP then 2
  else if cmd = 2 then 3
  else if s.counts e.num e.sfW then 4
  else if sd ∧ s.counts e.num e.sdP then 5
  else if sd ∧ s.counts e.num e.sdW then 6
  else if cmd = 3 then 7
  else if cmd = 4 then 8
  else 0

/-- The selection of a request (R405): true is P. -/
def reqSelects (req : Nat) (revert cur : Bool) : Bool :=
  match req with
  | 3 | 4 | 6 | 7 | 9 => true
  | 0 => if revert then false else cur
  | _ => false

/-- The request with wait-to-restore taken in (R406), and the ticks it has run. -/
def State.selWait (s : State) (e : Sel) (cur : Bool) : Nat × Option Nat :=
  let req := s.selRequest e
  if req ≠ 0 ∨ !s.on (F.PRT_SEL_CFG_REVERT e.num) then (req, none)
  else if !cur ∨ !e.byFail then (0, none)
  else (9, some (match e.wtr with | some t => t + 1 | none => 0))

/-- A pass-through selector writes the selected source into both copies of its entry (R409). -/
def State.selSource (s : State) (n : Nat) (p : Bool) : State :=
  let slot := s.cfg (F.PRT_SEL_PT_SLOT n)
  let lane := s.cfg (if p then F.PRT_SEL_PT_P_LANE n else F.PRT_SEL_PT_W_LANE n)
  let au := s.cfg (if p then F.PRT_SEL_PT_P_AU4 n else F.PRT_SEL_PT_W_AU4 n)
  let put (w : Nat) : Nat := putBits (putBits w 1 4 lane) 5 6 au
  let k := R.MAP_XC slot
  (s.setWord k (put (s.word k))).setLive k (put (s.liveWord k))

/-- A selection changes (R407, R409, R411). -/
def State.selSwitch (s : State) (n : Nat) (p : Bool) : State :=
  let s := (s.put (F.PRT_SEL_STATUS_SEL n) p).put (F.PRT_SEL_STATUS_SWITCHED n) true
  let s := (s.inc (F.PRT_SEL_COUNT n) 1).orF (F.PRT_SW (n / 32)) (2 ^ (n % 32))
  let s := (s.tal 21 0 1).gather { src := 768 + n / 128, subject := n }
  if s.on (F.PRT_SEL_CFG_PT n) then s.selSource n p else s

/-- The words that repeat the output before, and whether a hold may be released (R408): they fit in the region, it has lines,
and the output before was no hold. -/
def State.selHold (s : State) (e : Sel) : Option (List TWord) :=
  let lines := s.cfg (F.PRT_SEL_OUT_HOLD_LINES e.num)
  match e.prev with
  | some ws => if lines = 0 ∨ 8 * lines < ws.length then none else some ws
  | none => none

/-- The words that the region keeps for a released content (R408). -/
def Content.kept : Content → Option (List TWord)
  | .words ws _ => some ws
  | .subst _ _ => none

/-- The release stage copies the words it delivers into the selector's region (R408), as far as they fit. -/
def State.selKeep (s : State) (n : Nat) (c : Content) : State :=
  let ws := c.kept.getD []
  let base := s.cfg F.PRT_HOLD_BASE * 64 + s.cfg (F.PRT_SEL_HOLD_HOLD_OFF n) * 64
  let s := s.wr Sp.sram base ((ws.take (8 * s.cfg (F.PRT_SEL_OUT_HOLD_LINES n))).flatMap fun w => leBytes 8 w.data.toNat)
  s.modSel n fun e => { e with prev := c.kept }

/-- The output of the old member for the tick (R407): its content, or nothing where it has none. -/
def State.selRelease (s : State) (e : Sel) (g : Option Given) (tick : Nat) (hold : Bool) : State :=
  let sid := s.cfg (F.PRT_SEL_OUT_OUT_SID e.num)
  if !hold then
    match g with
    | some g => (s.deliverOut sid g.chan g.tick g.c g.defect).selKeep e.num g.c
    | none => s.modSel e.num fun e => { e with prev := none }
  else
    let chan := match g with | some g => g.chan | none => s.cfg (F.PRT_SEL_MEMB_W_CHAN e.num)
    match s.selHold e with
    | some ws => ((s.deliverOut sid chan tick (.words ws 0) false).tal 21 1 1).modSel e.num fun e => { e with prev := none }
    | none =>
      let s := s.put (F.PRT_SEL_STATUS_HOLD_SUBST e.num) true
      let c : Content := match g with
        | some g => (match g.c with | .subst k w => .subst k w | .words _ _ => .subst 0 0)
        | none => .subst 0 0
      (s.deliverOut sid chan tick c true).modSel e.num fun e => { e with prev := none }

/-- SELECTOR_EVALUATE (R405 to R408): both members' values for tick N are known; the selector decides and releases. A member
that is not sampled counts as failed. -/
def State.selEvaluate (s : State) (n tick : Nat) : State :=
  match s.selOf n with
  | none => s
  | some e0 =>
    let sf (g : Option Given) : Bool := match g with | some g => g.sf | none => true
    let sd (g : Option Given) : Bool := match g with | some g => g.sd | none => false
    let e := { e0 with
      sfW := runOf e0.sfW (sf e0.w), sdW := runOf e0.sdW (sd e0.w), sfP := runOf e0.sfP (sf e0.p), sdP := runOf e0.sdP (sd e0.p) }
    let cur := s.bit (F.PRT_SEL_STATUS_SEL n)
    let (req, wtr) := s.selWait e cur
    let sel := reqSelects req (s.on (F.PRT_SEL_CFG_REVERT n)) cur
    let s := s.modSel n fun _ => { e with
      wtr := wtr, w := none, p := none
      byFail := if req = 4 ∨ req = 6 then true else if sel then e.byFail else false }
    let s := (s.set (F.PRT_SEL_STATUS_REQ n) req).put (F.PRT_SEL_STATUS_WTR_RUN n) wtr.isSome
    let s := (s.put (F.PRT_SEL_STATUS_SF_W n) (sf e0.w)).put (F.PRT_SEL_STATUS_SF_P n) (sf e0.p)
    let s := (s.put (F.PRT_SEL_STATUS_SD_W n) (sd e0.w)).put (F.PRT_SEL_STATUS_SD_P n) (sd e0.p)
    let old := if cur then e0.p else e0.w
    let s := if sel ≠ cur then s.selSwitch n sel else s
    if s.on (F.PRT_SEL_CFG_PT n) then s
    else s.selRelease e old tick (sel ≠ cur && sf old)

/-- SELECTOR_WTR_EXPIRY (R406): the wait has run its time; W is selected. -/
def execSelectorWtrExpiry (n : Fin 4096) (s : State) : Host.Outcome State Fault Refusal :=
  settle s (match s.selOf n.val with
    | none => s
    | some e => match e.wtr with
      | none => s
      | some t =>
        if t < s.cfg (F.PRT_SEL_CFG_WTR n.val) * 8000 then s else
        let s := (s.modSel n.val fun e => { e with wtr := none, byFail := false }).put
          (F.PRT_SEL_STATUS_WTR_RUN n.val) false
        (s.set (F.PRT_SEL_STATUS_REQ n.val) 0).selSwitch n.val false)

/-! ## The sample (R33, R34, R49, R298) -/

/-- Whether a channel is sampled at this tick, and for which output tick (R33, R509). -/
def State.dueFor (s : State) (c : Nat) : Option Nat :=
  match s.hoistOf c with
  | none => none
  | some h =>
    if 3 ≤ h.cls ∨ s.ftcState = Ftc.disabled ∨ (s.joinHold ∧ !s.pair.restart) ∨ s.tick < h.lat + (h.since - 1) then none
    else match s.asLoaded.chQueue c 1 with
      | none => none
      | some q => if (s.queue q).isSome ∧ s.cfg (F.QUE_W_CFG_READER q) = Reader.release then some (s.tick - h.lat) else none

/-- A member's values reach its selector, or its output leaves on its own stream. -/
def State.giveOut (s : State) (c q : Nat) (g : Given) : State :=
  let alone (s : State) : State := s.deliverOut (s.cfg (F.QUE_W_CFG_SID q)) g.chan g.tick g.c g.defect
  match s.selWith c with
  | none => alone s
  | some e =>
    let isW := s.cfg (F.PRT_SEL_MEMB_W_CHAN e.num) = c
    let other := s.cfg (if isW then F.PRT_SEL_MEMB_P_CHAN e.num else F.PRT_SEL_MEMB_W_CHAN e.num)
    let s := s.modSel e.num fun e => if isW then { e with w := some g } else { e with p := some g }
    let s := if s.on (F.PRT_SEL_CFG_PT e.num) then alone s else s
    if (s.dueFor other).isNone ∨ s.sampled.contains other then s.selEvaluate e.num g.tick else s

/-- The service words and other words of the aux queues that the release stage reads, for output tick `w` (R300, R305, R345):
applied or released where the output is, else dropped. -/
def State.auxOut (s : State) (c w : Nat) (ok defect : Bool) : State :=
  s.each [2, 3] fun s i =>
    match s.asLoaded.chQueue c i with
    | none => s
    | some q =>
      if (s.queue q).isNone ∨ s.cfg (F.QUE_W_CFG_READER q) ≠ Reader.release then s else
      let (t, s) := s.take q w
      let words := t.words.filter fun x => !x.poison
      match s.cfg (F.QUE_W_CFG_EGRESS q) with
      | 1 => s.each words fun s x => if ok then s.defService c x.data.toNat else s.defDrop
      | 2 => s.each words fun s x => if ok then s.mapService c x.data.toNat else s.mapDrop
      | _ => if ok ∧ !words.isEmpty
          then s.deliverOut (s.cfg (F.QUE_W_CFG_SID q)) c w (.words (words.map QWord.toT) 0) defect else s

/-- A live pennant bit follows a condition; the answer's change marks the hoist bitmap (R173, R183). -/
def State.penLive (s : State) (c bit : Nat) (b : Bool) : State := s.penSet c bit b

/-- A released output of channel `c` with the pennant recorded (R33, R298). -/
def State.realOut (s : State) (c q w : Nat) (t : Taken) (note : Option MarkNote) : State :=
  let pen := match note with | some m => m.pen | none => s.pennant c
  let v := s.defOf c (some pen)
  let s := s.publish c v
  let flag := bitOf pen 32
  (s.giveOut c q ⟨w, c, t.content, v.1, v.2, flag⟩).auxOut c w true flag

/-- Substitute content of channel `c` with the defect flag (R34, R298). Hardware may also set the pennant's `DEFECT_FLAG` (R173);
the spec does not say when, so whether this release sets it is a free value (log 79). -/
def State.substOut (s : State) (c q w : Nat) : State :=
  let v := s.defOf c none
  let (x, s) := (s.publish c v).draw
  let s := if bitOf x.toNat 0 then s.penSet c Pen.flag true else s
  (s.giveOut c q ⟨w, c, s.substOf c q, v.1, v.2, true⟩).auxOut c w false true

/-- The sample of a channel that is no twin (R33, R34, R114, R358). -/
def State.sampleOne (s : State) (h : Hoist) (c q w : Nat) : State :=
  let (t, s) := s.take q w
  let note := s.markOf c w
  let wrote := if t.marker.isSome then note.map (·.wrote) else none
  let s := s.dropMarks c w
  let cut := s.pennantCut h w wrote
  let s := s.penLive c Pen.mode cut
  if t.marker.isSome ∧ !cut ∧ !t.poison then s.realOut c q w t note
  else
    let s := if t.marker.isNone ∧ !cut then s.breach c w 2 else s
    s.substOut c q w

/-- Whether a twin copy can run (R50): its engine is not retired, its engine and tile work. -/
def State.canRun (s : State) (h : Hoist) : Bool :=
  !s.engRetired h.engine && s.domWorks h.engine && s.domWorks (96 + h.tile) && s.domWorks (104 + h.tile)

/-- The closed digest of a unit for a tick: its value, where the entry is valid and carries no flag (R373). -/
def State.digestOf (s : State) (unit : Option Nat) (w : Nat) : Option Nat :=
  match unit with
  | none => none
  | some n =>
    let e := w % 16
    if s.bit (F.CK_DIG_FLAGS_VALID n e) ∧ s.get (F.CK_DIG_TICK n e) = w % 2 ^ 32
      ∧ !s.bit (F.CK_DIG_FLAGS_INCOMPLETE n e) ∧ !s.bit (F.CK_DIG_FLAGS_PARITY n e)
    then some (s.get (F.CK_DIG n e)) else none

/-- A twin disagreement (R49): the flag on both copies, their bitmap bits, the event once per hoist and tick. -/
def State.disagree (s : State) (h : Hoist) (a b : Nat) : State :=
  let s := (s.penSet a Pen.disagree true).penSet b Pen.disagree true
  ((s.markChan a).markChan b).gather { src := tileSrc h.tile, code := 3, cls := some h.cls, subject := h.num }

/-- TWIN_COMPARE (R49, R50, R188): the sample of a twin channel; `c` is the primary copy, `b` the second. -/
def State.sampleTwin (s : State) (h : Hoist) (c b q w : Nat) : State :=
  let (ta, s) := s.take q w
  let (tb, s) := match s.asLoaded.chQueue b 1 with
    | some qb => s.take qb w
    | none => ((⟨[], none, false⟩ : Taken), s)
  let na := s.markOf c w
  let nb := s.markOf b w
  let s := (s.dropMarks c w).dropMarks b w
  let s := { s with sampled := b :: s.sampled }
  let runA := s.canRun h
  let runB := match s.hoistOf b with | some hb => s.canRun hb | none => false
  let simplex := s.chSimplex c && (runA != runB)
  let was := bitOf (s.pennant c) 39
  let s := if simplex = was then s else
    (((s.penSet c Pen.degraded simplex).penSet b Pen.degraded simplex).markChan c).markChan b
  if simplex then
    let (t, n, d) := if runA then (ta, na, c) else (tb, nb, b)
    if t.marker.isSome ∧ !t.poison then s.realOut c q w t n
    else
      let s := if t.marker.isNone then s.breach d w 2 else s
      s.substOut c q w
  else if ta.marker.isSome ∧ tb.marker.isSome then
    let da := s.digestOf (s.chCku c) w
    if da.isSome ∧ da = s.digestOf (s.chCku b) w ∧ !ta.poison ∧ !tb.poison then s.realOut c q w ta na
    else (s.disagree h c b).substOut c q w
  else
    let s := if ta.marker.isNone then s.breach c w 2 else s
    let s := if tb.marker.isNone then s.breach b w 2 else s
    let s := if ta.marker.isSome ∨ tb.marker.isSome then s.disagree h c b else s
    s.substOut c q w

/-- RELEASE_SAMPLE (R33): channel `c`'s release queue is sampled in this tick, once; the second copy of a twin goes with its
primary (R188). -/
def execReleaseSample (c : Fin 16384) (s : State) : Host.Outcome State Fault Refusal :=
  settle s (match s.dueFor c.val, s.hoistOf c.val, s.asLoaded.chQueue c.val 1 with
    | some w, some h, some q =>
      if s.sampled.contains c.val then s else
      let mark (s : State) : State := { s with sampled := c.val :: s.sampled }
      match s.asLoaded.chTwin c.val with
      | none => (mark s).sampleOne h c.val q w
      | some b => if s.asLoaded.chPrimary c.val then (mark s).sampleTwin h c.val b q w else s
    | _, _, _ => s)

/-! ## Crossconnect (R315, R318, R319) -/

/-- Whether a crossconnect entry is valid by itself (R315), on its in-force word. -/
def State.xcSelfOk (s : State) (slot : Nat) : Bool :=
  let w := s.ctlWord true (R.MAP_XC slot)
  let l := slot / 64
  let a := slot % 64
  let n := sdhN (s.laneMode l)
  let m := sdhN (s.laneMode (xcLane w))
  xcPt w && n ≠ 0 && m ≠ 0 && decide (a + xcX w ≤ n ∧ xcAu4 w + xcX w ≤ m) && a % xcX w = 0 && xcAu4 w % xcX w = 0

/-- The slots of lane `l` whose entries are valid (R315): of two overlapping entries the lower slot stays. -/
def State.xcValid (s : State) (l : Nat) : List Nat :=
  ((List.range 64).map (64 * l + ·)).foldl (fun ok slot =>
    if s.xcSelfOk slot ∧ !ok.any (fun p => decide (slot < p + xcX (s.ctlWord true (R.MAP_XC p)))) then ok ++ [slot] else ok) []

/-- The entry that slot `s` takes at its next frame (R315, R336): its in-force word where it is valid and the block is
enabled, else no pass-through. -/
def State.xcEntry (s : State) (slot : Nat) : Nat :=
  if s.on F.MAP_CTRL_ENABLE ∧ (s.xcValid (slot / 64)).contains slot then s.ctlWord true (R.MAP_XC slot) else 0

/-- XC_CHANGE (R317, R319): the entry takes effect at an egress frame boundary of its lane. -/
def execXcChange (slot : Fin 1024) (s : State) : Host.Outcome State Fault Refusal :=
  settle s (
    let e := s.xcEntry slot.val
    let old := (s.map.pass.find? (·.slot = slot.val)).map (·.entry)
    if old = some e then s else
    let rest := s.map.pass.filter (·.slot ≠ slot.val)
    let s := { s with map := { s.map with pass := if xcPt e then { slot := slot.val, entry := e } :: rest else rest } }
    let s := s.put (F.MAP_PT_STATUS_VALID slot.val) (xcPt e)
    if xcPt e then s.ptEnter slot.val (if (s.descr (xcLane e)).phase.isSome then Pt.ais else Pt.ssf) else s)

/-- PT_POINTER_ADJUST (R318): a pointer adjustment of a slot in effect, or its re-centring. -/
def execPtPointerAdjust (slot : Fin 1024) (adj : PtAdjust) (s : State) : Host.Outcome State Fault Refusal :=
  settle s (
    if !(s.map.pass.any (·.slot = slot.val)) then s else
    match adj with
    | .recentre => s.put F.MAP_STICKY_PT_SLIP true
    | _ => (s.inc (F.MAP_PT_STATUS_ADJ slot.val) 1).tal 17 0 1)

/-! ## Enabling selectors (R404) -/

/-- Whether a selector's enable is refused (R404), on its stored configuration. -/
def State.selEnableRefused (s : State) (n : Nat) : Bool :=
  let w := s.get (F.PRT_SEL_MEMB_W_CHAN n)
  let p := s.get (F.PRT_SEL_MEMB_P_CHAN n)
  let pt := s.get (F.PRT_SEL_CFG_PT n) = 1
  let sid := s.get (F.PRT_SEL_OUT_OUT_SID n)
  let others := s.sels.filter (·.num ≠ n)
  let mine (e : Sel) (c : Nat) : Bool := s.cfg (F.PRT_SEL_MEMB_W_CHAN e.num) = c || s.cfg (F.PRT_SEL_MEMB_P_CHAN e.num) = c
  let relOk (c : Nat) : Bool := match s.chQueue c 1 with
    | some q => s.cfg (F.QUE_W_CFG_READER q) = Reader.release && s.cfg (F.QUE_W_CFG_EGRESS q) = 0
        && s.cfg (F.QUE_W_CFG_SID q) = sid
    | none => false
  let bad (c : Nat) : Bool := !s.chValid c || decide (3 ≤ s.chClass c)
  let slot := s.get (F.PRT_SEL_PT_SLOT n)
  bad w || bad p || s.chLat w ≠ s.chLat p || others.any (fun e => mine e w || mine e p)
    || (!pt && (!relOk w || !relOk p
        || others.any (fun e => !s.on (F.PRT_SEL_CFG_PT e.num) && s.cfg (F.PRT_SEL_OUT_OUT_SID e.num) = sid)
        || decide (s.get F.PRT_HOLD_LINES < s.get (F.PRT_SEL_HOLD_HOLD_OFF n) + s.get (F.PRT_SEL_OUT_HOLD_LINES n))))
    || (pt && (!(s.xcValid (slot / 64)).contains slot
        || sdhN (s.laneMode (s.get (F.PRT_SEL_PT_W_LANE n))) = 0 || sdhN (s.laneMode (s.get (F.PRT_SEL_PT_P_LANE n))) = 0))

/-- Whether a selector's disable is refused (R404): a hoist that holds a member is loaded. -/
def State.selDisableRefused (s : State) (n : Nat) : Bool :=
  (s.hoistOf (s.cfg (F.PRT_SEL_MEMB_W_CHAN n))).isSome || (s.hoistOf (s.cfg (F.PRT_SEL_MEMB_P_CHAN n))).isSome

/-- A selector has been enabled: W is selected. -/
def State.selEnabled (s : State) (n : Nat) : State :=
  let s := { s with sels := s.sels ++ [({ num := n } : Sel)] }
  ((s.put (F.PRT_SEL_STATUS_SEL n) false).set (F.PRT_SEL_STATUS_REQ n) 0).put (F.PRT_SEL_STATUS_WTR_RUN n) false
/-- A selector has been disabled. -/
def State.selDisabled (s : State) (n : Nat) : State := { s with sels := s.sels.filter (·.num ≠ n) }

end Sys2Proof.Machine
end

