-- ==== Sys2Proof/Machine/Ingress.lean ====
section
/-! DEFINITION. Line input (R17, R19, R262, R266, R389): beats, Ethernet and bundle frames and voice frames as they arrive,
stamped with the present tick, or, on a standby, held and stamped as the active's ledger says (R416); the catch-up log's
playing (R432). -/

namespace Sys2Proof.Machine

/-! ## The ledger (R416) -/

/-- Number of a voice port's source in a ledger. -/
def srcVp (n : Nat) : Nat := 2048 + n

/-- A line unit takes effect, stamped `stamp`. -/
def State.unitIn (s : State) (src stamp : Nat) : Unit1 → State
  | .bits bs =>
    let sid := if src < 16 then s.cfg (F.LIN_LANE_SID_SID src) else s.cfg (F.LIN_DP_SID_SID (src - 16))
    s.gatherBits src sid stamp bs
  | .frame bs => s.macReceive src stamp bs
  | .bundle bs => s.bundReceive (src - 48) stamp bs
  | .voice f => s.vpReceive (src - 2048) stamp f

/-- The unit of a source that is held longest. -/
def State.firstHeld (s : State) (src : Nat) : Option HeldUnit := s.lin.held.find? (·.src = src)
/-- Replace the first held unit of a source by `u`, or drop it. -/
def dropHeld (src : Nat) (u : Option Unit1) : List HeldUnit → List HeldUnit
  | [] => []
  | h :: r => if h.src = src then (match u with | some u => { h with unit := u } :: r | none => r) else h :: dropHeld src u r
/-- Replace the first held unit of a source in the state. -/
def State.setHeld (s : State) (src : Nat) (u : Option Unit1) : State :=
  { s with lin := { s.lin with held := dropHeld src u s.lin.held } }

/-- The check bits of a frame. -/
def fcsOf (bs : List Byte) : BitVec 16 := BitVec.ofNat 16 (leNat (bs.drop (bs.length - 4)))

/-- One held unit, or the bits of one, meets what a ledger entry still asks for tick `t` (R416): the entry as it then stands. -/
def State.meet (s : State) (t : Nat) (e : LedgerEntry) (h : HeldUnit) : LedgerEntry × State :=
  match h.unit with
  | .bits bs =>
    let n := Nat.min e.count bs.length
    let rest := bs.drop n
    let s := s.setHeld e.src (if rest.isEmpty then none else some (.bits rest))
    ({ e with count := e.count - n }, s.unitIn e.src t (.bits (bs.take n)))
  | u => ({ e with count := e.count - 1 }, (s.setHeld e.src none).unitIn e.src t u)

/-- Whether a held unit is a frame with these check bits. -/
def HeldUnit.isFrame (src : Nat) (f : BitVec 16) (h : HeldUnit) : Bool :=
  h.src = src && (match h.unit with | .frame bs => fcsOf bs = f | _ => false)
/-- A frame that the ledger lists for tick `t` (R416): the first held frame with its check bits is stamped, the frames held
before it are discarded and counted; one that is not held is skipped. -/
def State.meetFrame (s : State) (src t : Nat) (f : BitVec 16) : State :=
  match s.lin.held.find? (HeldUnit.isFrame src f) with
  | none => s
  | some h =>
    let mine := s.lin.held.filter (·.src = src)
    let lost := (mine.takeWhile fun x => !x.isFrame src f).length
    let s := s.each (List.range (lost + 1)) fun s _ => s.setHeld src none
    (s.inc (F.LIN_LANE_RXDISC src) lost).unitIn src t h.unit

/-- The units held meet one entry, as far as they go; `n` bounds the units looked at. An Ethernet lane's entry is met at
once. -/
def State.meetAll (s : State) (t : Nat) : Nat → LedgerEntry → LedgerEntry × State
  | 0, e => (e, s)
  | n + 1, e =>
    if e.count = 0 then (e, s)
    else if e.src < 16 ∧ isEth (s.laneMode e.src) then
      ({ e with count := 0 }, s.each e.fcs fun s f => s.meetFrame e.src t f)
    else match s.firstHeld e.src with
    | none => (e, s)
    | some h => let (e, s) := s.meet t e h; s.meetAll t n e

/-- The entries of one tick meet what is held; a source with an older entry open waits. -/
def State.meetTick (s : State) (busy : List Nat) (t : Nat) (es : List LedgerEntry) : List LedgerEntry × State :=
  es.foldl (fun (r : List LedgerEntry × State) e =>
    if busy.contains e.src then (r.1 ++ [e], r.2) else
    let (e, s) := r.2.meetAll t (r.2.lin.held.length + 1) e
    (r.1 ++ [e], s)) ([], s)

/-- A tick is settled (R416): the whole bytes gathered for it go out (R339). -/
def State.settleTick (s : State) (t : Nat) : State :=
  let s := s.each s.sources fun s e => s.flushBytes e.1 e.2.1 t
  { s with lin := { s.lin with settled := t + 1 } }

/-- The ledger entries at hand meet the held input, oldest tick first; a tick whose entries are all met is settled. -/
def State.drainLedger (s : State) : State :=
  let (_, left, s) := s.lin.quota.foldl (fun (r : List Nat × List (Nat × List LedgerEntry) × State) q =>
    let (busy, left, s) := r
    let (es, s) := s.meetTick busy q.1 q.2
    let open_ := es.filter (·.count ≠ 0)
    if open_.isEmpty ∧ left.isEmpty then (busy, left, s.settleTick q.1)
    else (busy ++ open_.map (·.src), left ++ [(q.1, es)], s)) ([], [], s)
  { s with lin := { s.lin with quota := left } }

/-- A line unit arrives: it takes effect now, or is held for the ledger (R416). -/
def State.arrive (s : State) (src : Nat) (u : Unit1) : State :=
  if s.ledgerMode then
    ({ s with lin := { s.lin with held := s.lin.held ++ [(⟨src, s.tick, u⟩ : HeldUnit)] } } : State).drainLedger
  else s.unitIn src s.tick u

/-- The tick before has no ledger (R416): what arrived in it is stamped under R268. -/
def State.stampLate (s : State) : State :=
  let t := s.tick - 1
  let mine := s.lin.held.filter fun h => decide (h.tick ≤ t)
  let s := { s with lin := { s.lin with
    held := s.lin.held.filter (fun h => decide (t < h.tick)), quota := s.lin.quota.filter fun q => decide (t < q.1) } }
  (s.each mine fun s h => s.unitIn h.src t h.unit).settleTick t

/-- The active's ledger for one tick (R416). One that comes after its tick was settled without it has no effect. -/
def State.ledgerIn (s : State) (l : LedgerMsg) : State :=
  if !s.ledgerMode ∨ l.tick < s.lin.settled ∨ s.lin.quota.any (·.1 = l.tick) then s
  else ({ s with lin := { s.lin with quota := s.lin.quota ++ [(l.tick, l.entries)] } } : State).drainLedger

/-- LEDGER_LATE (R416): the ledger for the tick before has not arrived by phase 1,024. -/
def execLedgerLate (s : State) : Host.Outcome State Fault Refusal :=
  settle s (
    if !s.ledgerMode ∨ s.ftcState = Ftc.disabled ∨ s.tick ≤ s.lin.settled ∨ s.lin.quota.any (·.1 = s.tick - 1) then s
    else s.stampLate.put F.PRT_PAIR_STICKY_LEDGER_LATE true)

/-- The ledger that the active sends for a tick (R416), before the counts of its sources start anew. -/
def State.ledgerOf (s : State) (t : Nat) : LedgerMsg :=
  let lanes := ((List.range 16).filter s.laneOn).map fun l =>
    if isEth (s.laneMode l) then (⟨l, (s.src l).frames.length, (s.src l).frames.reverse⟩ : LedgerEntry)
    else ⟨l, (s.src l).bits, []⟩
  let dps := ((List.range 32).filter fun d => s.on (F.LIN_DP_CFG_ENABLE d)).map fun d =>
    (⟨srcDp d, (s.src (srcDp d)).bits, []⟩ : LedgerEntry)
  let bunds := ((List.range 8).filter fun b => s.on (F.LIN_BUND_CFG_ENABLE b)).map fun b =>
    (⟨srcMgmt b, (s.bund b).units, []⟩ : LedgerEntry)
  ⟨t, lanes ++ dps ++ bunds ++ s.vox.ports.map fun (p : Vp) => (⟨srcVp p.num, p.units, []⟩ : LedgerEntry)⟩
/-- The unit counts of bundles and voice ports start anew at a tick boundary. -/
def State.unitsTick (s : State) : State :=
  { s with
    lin := { s.lin with bunds := s.lin.bunds.map fun (b : Bund) => { b with units := 0 } }
    vox := { s.vox with ports := s.vox.ports.map fun (p : Vp) => { p with units := 0 } } }

/-! ## The catch-up log (R432) -/

/-- The log plays into the fabric in order, as far as its sinks have room. -/
def State.playLog (s : State) : State :=
  let (blocked, s) := s.lin.log.foldl (fun (r : List LogItem × State) i =>
    let (blocked, s) := r
    if !blocked.isEmpty then (blocked ++ [i], s) else
    match i with
    | .word sid stamp w =>
      if s.sinksFree sid stamp 1 then ([], (s.deliverWord sid stamp w).2) else ([i], s)
    | .close sid t => ([], (s.markerArrives sid t).ckCloseTick sid t)) ([], s)
  { s with lin := { s.lin with log := blocked } }
/-- A tick boundary's part: a loaded unit's log plays, and where it holds nothing more, sources deliver live (R432). -/
def State.logTick (s : State) : State :=
  if !s.lin.logging ∨ !s.pair.loaded then s else
  let s := s.playLog
  if s.lin.log.isEmpty then { s with lin := { s.lin with logging := false } } else s

/-! ## The rows of line input -/

/-- The bits of a beat's words, in line order. -/
def beatBits (ws : List TWord) : List Bool := ws.flatMap fun w => (bitsMsb 64 w.data.toNat).take (8 * validCount w.tag)

/-- STREAM_BEAT (R17, R19, R26): a beat enters the fabric in this tick. A line source's beat is delivered, each sink alone
refusing what it has no room for; an internal source's beat waits for all its sinks. -/
def execStreamBeat (sid : Fin 16384) (line : Bool) (ws : List TWord) (s : State) : Host.Outcome State Fault Refusal :=
  settle s (
    if line then
      if s.lineSilent sid.val then s else
      match s.portOf sid.val with
      | some n => if s.ledgerMode then s.arrive n (.bits (beatBits ws)) else s.lineWords n sid.val s.tick ws
      | none => (s.lineDeliver sid.val s.tick ws).2
    else if s.sinksFree sid.val s.tick ws.length then (s.deliver sid.val s.tick ws).2 else s)

/-- ETHERNET_FRAME_RECEIVE (R262, R268): the frame's last byte crosses the balls in this tick, on an enabled Ethernet lane in
lock. -/
def execEthernetFrameReceive (l : Fin 16) (bytes : List Byte) (s : State) : Host.Outcome State Fault Refusal :=
  settle s (
    let m := s.macLane l.val
    if !s.laneOn m ∨ !isEth (s.laneMode m) ∨ s.stands m Sw.clkFail ∨ s.ftcState = Ftc.disabled
      ∨ s.cfg (F.LIN_LANE_CFG_LOOPBACK m) = 1 then s
    else s.arrive m (.frame bytes))

/-- BUNDLE_FRAME_RECEIVE (R266): a frame's bytes at the position searched; alignment, and in frame its content. -/
def execBundleFrameReceive (b : Fin 8) (bytes : List Byte) (s : State) : Host.Outcome State Fault Refusal :=
  settle s (if !s.on (F.LIN_BUND_CFG_ENABLE b.val) ∨ s.ftcState = Ftc.disabled then s else s.arrive (srcMgmt b.val) (.bundle bytes))

/-- VP_RX_FRAME (R389): a receive frame completes. -/
def execVpRxFrame (n : Fin 16) (f : VoiceFrame) (s : State) : Host.Outcome State Fault Refusal :=
  settle s (if (s.vp n.val).isNone then s else s.arrive (srcVp n.val) (.voice f))

end Sys2Proof.Machine
end

