-- ==== Sys2Proof/Machine/Partners.lean ====
section
/-! DEFINITION. Partner violations, strikes and quarantines (R457 to R463), and the discovery agent (R273 to R275, R280). -/

namespace Sys2Proof

/-- A partner's kind (R464): 0 line, 1 halyard, 2 pair, 3 host. -/
def Partner.kind : Partner → Nat
  | .line _ => 0
  | .manager | .member _ => 1
  | .pair => 2
  | .host => 3
/-- A partner as an event's subject (R467): its member or discovery entry, else 0. -/
def Partner.subject : Partner → Nat
  | .line k => k.val
  | .member m => m.val
  | .manager | .pair | .host => 0

/-- CRC-16, polynomial 0x1021, initial value 0xFFFF, over the bits of some words (R273, R440). -/
def crc16 (bits : List Bool) : Nat := Machine.crcBits 16 0x1021 0xFFFF bits
/-- The check value of a discovery message. -/
def discCrc (a b c : Word) : Nat := crc16 ((Machine.bitsMsb 64 a.toNat ++ Machine.bitsMsb 64 b.toNat) ++ Machine.bitsMsb 64 c.toNat)

/-- The fields of a discovery message. -/
def DiscMsg.ty (m : DiscMsg) : Nat := Machine.bitsOf m.w0.toNat 56 8
def DiscMsg.seq (m : DiscMsg) : Nat := Machine.bitsOf m.w0.toNat 32 16
def DiscMsg.port (m : DiscMsg) : Nat := Machine.bitsOf m.w0.toNat 16 16
def DiscMsg.caps (m : DiscMsg) : Nat := Machine.bitsOf m.w2.toNat 32 32
def DiscMsg.echoSeq (m : DiscMsg) : Nat := Machine.bitsOf m.w2.toNat 16 16
def DiscMsg.echoPort (m : DiscMsg) : Nat := Machine.bitsOf m.w2.toNat 0 16

/-- Whether a message is malformed (R274, R458): its check value, version, type, reserved bits. -/
def DiscMsg.bad (m : DiscMsg) : Bool :=
  decide (m.w3.toNat ≠ discCrc m.w0 m.w1 m.w2) || Machine.bitsOf m.w0.toNat 48 8 ≠ 1 || Machine.bitsOf m.w0.toNat 0 16 ≠ 0
    || m.ty = 0 || decide (3 < m.ty) || (m.caps &&& 0xFFFF00F0) ≠ 0 || (m.ty = 1 && Machine.bitsOf m.w2.toNat 0 32 ≠ 0)

/-- The words of a message. -/
def DiscMsg.words (m : DiscMsg) : List Word := [m.w0, m.w1, m.w2, m.w3]

end Sys2Proof

namespace Sys2Proof.Machine

/-! ## Violations and strikes (R457 to R462) -/

/-- Violation classes (R458). -/
def Viol.malformed : Nat := 0
def Viol.sequence : Nat := 1
def Viol.rate : Nat := 2
def Viol.semantic : Nat := 3

/-- What the device keeps of a partner. -/
def State.peer (s : State) (p : Partner) : Peer := (s.hal.peers.find? (·.who = p)).getD { who := p }
/-- Change what the device keeps of a partner. -/
def State.modPeer (s : State) (p : Partner) (f : Peer → Peer) : State :=
  { s with hal := { s.hal with peers := f (s.peer p) :: s.hal.peers.filter (·.who ≠ p) } }
/-- Whether a partner is quarantined (R461). -/
def State.quarantined (s : State) (p : Partner) : Bool := (s.peer p).ends.isSome

/-- A strike (R461): the count of the window that the tick lies in; at `QN` a quarantine is due at the next tick boundary. -/
def State.strike (s : State) (p : Partner) : State :=
  let qn := s.cfg (F.HAL_VIOL_CFG_QN p.kind)
  if qn = 0 ∨ p.kind = 2 then s else
  let w := s.tick / s.cfg (F.HAL_VIOL_CFG_QWIN p.kind)
  s.modPeer p fun r =>
    let n := if r.window = w then r.strikes + 1 else 1
    { r with window := w, strikes := n, due := if n = qn then some (s.tick + 1) else r.due }

/-- The part of PARTNER_VIOLATION that every sender shares (R459, R462): the count of the kind and class, the log entry, the
event of the tick. `ty` is the message's type or opcode, `reason` R460's or 0, `id` a burgee, an entry number or 0. -/
def State.countViolation (s : State) (kind subject cls ty reason id : Nat) : State :=
  let j := s.hal.logged % 16
  let s := s.inc (F.HAL_VCNT kind cls) 1
  let s := (s.set (F.HAL_VLOG_INFO_KIND j) kind).set (F.HAL_VLOG_INFO_CLASS j) cls
  let s := (s.set (F.HAL_VLOG_INFO_TYPE j) ty).set (F.HAL_VLOG_INFO_REASON j) reason
  let s := (s.put (F.HAL_VLOG_INFO_VALID j) true).set (F.HAL_VLOG_TICK j) (s.tick % 2 ^ 32)
  let s := s.set (F.HAL_VLOG_ID j) id
  let s := { s with hal := { s.hal with logged := s.hal.logged + 1 } }
  let subj := match s.evt.gathered.find? (·.src = 835) with | some g => g.subject | none => subject
  (s.tal 22 3 1).gather { src := 835, subject := subj }
/-- PARTNER_VIOLATION (R459): counted, logged, raised and struck. -/
def State.violate (s : State) (p : Partner) (cls ty reason id : Nat) : State :=
  (s.countViolation p.kind p.subject cls ty reason id).strike p

/-- A message of a partner in this tick (R458). -/
def State.noteMessage (s : State) (p : Partner) : State := s.modPeer p fun r => { r with msgs := r.msgs + 1 }
/-- Whether the messages of the tick exceed the kind's `RATE` (R458). -/
def State.overRate (s : State) (p : Partner) : Bool := decide (s.cfg (F.HAL_VIOL_CFG_RATE p.kind) < (s.peer p).msgs)
/-- A message in excess of the rate (R459): counted once per tick. -/
def State.rateExcess (s : State) (p : Partner) (ty id : Nat) : State :=
  if (s.peer p).excess then s
  else (s.violate p Viol.rate ty 0 id).modPeer p fun r => { r with excess := true }

/-- The bit of a partner's quarantine in `HAL_QUAR_*` (R466). -/
def State.quarBit (s : State) (p : Partner) (b : Bool) : State :=
  match p with
  | .line k => s.set F.HAL_QUAR_DISC (putBits (s.get F.HAL_QUAR_DISC) k.val 1 (b2n b))
  | .manager => s.put F.HAL_QUAR_STATUS_MGR b
  | .member m => let f := F.HAL_QUAR_MEM (m.val / 32); s.set f (putBits (s.get f) (m.val % 32) 1 (b2n b))
  | .host => s.put F.HAL_QUAR_STATUS_HOST b
  | .pair => s
/-- `COUNT` of partners quarantined now (R466). -/
def State.quarCount (s : State) : State :=
  s.set F.HAL_QUAR_STATUS_COUNT (Nat.min 255 (s.hal.peers.filter (·.ends.isSome)).length)
/-- A quarantine starts (R461, R462). -/
def State.quarBegin (s : State) (p : Partner) : State :=
  let s := s.modPeer p fun r => { r with due := none, ends := some (s.tick + s.cfg (F.HAL_VIOL_QTICKS_QTICKS p.kind)) }
  ((s.quarBit p true).quarCount).raise { src := 836, subject := p.subject }
/-- A quarantine ends (R461). -/
def State.quarLift (s : State) (p : Partner) : State :=
  ((s.modPeer p fun r => { r with ends := none }).quarBit p false).quarCount

/-- QUARANTINE_END (R461): `QTICKS` ticks have passed. -/
def execQuarantineEnd (p : Partner) (s : State) : Host.Outcome State Fault Refusal :=
  settle s (match (s.peer p).ends with
    | some t => if t ≤ s.tick then s.quarLift p else s
    | none => s)

/-- A tick boundary's part (R458, R461): the messages of the tick are counted anew. -/
def State.peersTick (s : State) : State :=
  { s with hal := { s.hal with strangers := [0, 0], peers := s.hal.peers.map fun r => { r with msgs := 0, excess := false } } }

/-- The device's burgee (R150): `SUP_BURGEE`. -/
def State.burgee (s : State) : Nat := s.get F.SUP_BURGEE
/-- Capabilities that the device announces (R273). -/
def State.capabilities (s : State) : Nat :=
  b2n (s.bit (F.HAL_H_STATUS_LINK 0)) + 2 * b2n (s.bit (F.HAL_H_STATUS_LINK 1))
    + 4 * b2n (decide (2 ≤ s.cfg F.HAL_CFG_ROLE)) + 8 * b2n (s.get F.PRT_PAIR_STATUS_STATE ≠ 0)
    + 256 * s.cfg F.LIN_DISC_CAPS
/-- A message as four words. -/
def State.discMsg (s : State) (k ty seq echo : Nat) : DiscMsg :=
  let w0 := BitVec.ofNat 64 (ty * 2 ^ 56 + 2 ^ 48 + (seq % 65536) * 2 ^ 32 + s.cfg (F.LIN_DISC_CTRL_PORT k) * 2 ^ 16)
  let w1 := BitVec.ofNat 64 s.burgee
  let w2 := BitVec.ofNat 64 (s.capabilities * 2 ^ 32 + echo)
  ⟨w0, w1, w2, BitVec.ofNat 64 (discCrc w0 w1 w2)⟩
/-! ## The discovery agent (R274, R275) -/

/-- The record of a discovery entry. -/
def State.disc (s : State) (k : Nat) : Disc := (s.lin.discs.find? (·.num = k)).getD { num := k }
/-- Change the record of a discovery entry. -/
def State.modDisc (s : State) (k : Nat) (f : Disc → Disc) : State :=
  { s with lin := { s.lin with discs := f (s.disc k) :: s.lin.discs.filter (·.num ≠ k) } }

/-- The agent sends a message of entry `k` (R274, R280): through the MAC of its lane, or on its sink stream as one packet. The
answer is the sequence number it carries. -/
def State.discSend (s : State) (k ty echo : Nat) : Nat × State :=
  let seq := (s.disc k).next
  let m := s.discMsg k ty seq echo
  let s := s.modDisc k fun r => { r with next := (r.next + 1) % 65536 }
  let bytes := m.words.flatMap fun w => beBytes 8 w.toNat
  (seq, if s.on (F.LIN_DISC_CTRL_ETH k) then
      let l := s.macLane (s.cfg (F.LIN_DISC_CTRL_LANE k))
      if s.txOn l ∧ isEth (s.laneMode l) then
        s.emit (.frame l (beBytes 6 (2 ^ 48 - 1) ++ beBytes 6 (s.cfg F.LIN_DISC_SA) ++ beBytes 2 (s.cfg F.LIN_DISC_CFG_ETYPE) ++ bytes))
      else s
    else s.sendInternal ((s.cfg (F.LIN_DISC_CTRL_SRC_SID k) + 1) % 16384) s.tick (packetOf bytes))

/-- An entry changes its state (R275). -/
def State.discEnter (s : State) (k st : Nat) : State :=
  if s.get (F.LIN_DISC_STATE_STATE k) = st then s else
  let s := (s.set (F.LIN_DISC_STATE_STATE k) st).put (F.LIN_DISC_STATE_CHANGED k) true
  s.raise { src := 840 + k / 8, subject := k }
/-- A change that a message makes records the partner (R275). -/
def State.discRecord (s : State) (k st : Nat) (m : DiscMsg) : State :=
  if s.get (F.LIN_DISC_STATE_STATE k) = st then s else
  let s := s.set (F.LIN_DISC_BURGEE k) m.w1.toNat
  let s := (s.set (F.LIN_DISC_STATE_PEER_PORT k) m.port).set (F.LIN_DISC_STATE_PEER_CAPS k) m.caps
  s.discEnter k st

/-- Presence states (R275). -/
def Disc.absent : Nat := 0
def Disc.seen : Nat := 1
def Disc.paired : Nat := 2
def Disc.lost : Nat := 3

/-- The entry's state after a valid hail or answering pennant (R275). -/
def State.discValid (s : State) (k : Nat) (m : DiscMsg) : State :=
  let s := s.modDisc k fun r => { r with silent := 0 }
  let st := s.get (F.LIN_DISC_STATE_STATE k)
  if st = Disc.paired then
    if m.w1.toNat ≠ s.get (F.LIN_DISC_BURGEE k) then s.discRecord k Disc.seen m else s
  else if st = Disc.seen then (if m.ty = 2 then s.discRecord k Disc.paired m else s)
  else s.discRecord k Disc.seen m

/-- Whether an answering pennant echoes the entry's latest hail (R275, R458). -/
def State.discEchoes (s : State) (k : Nat) (m : DiscMsg) : Bool :=
  (s.disc k).seq = some m.echoSeq && m.echoPort = s.cfg (F.LIN_DISC_CTRL_PORT k)

/-- A discovery message reaches entry `k` (R274, R458 to R461). -/
def State.discReceive (s : State) (k : Fin 64) (m : DiscMsg) : State :=
  if !s.on (F.LIN_DISC_CTRL_EN k.val) then s else
  let p := Partner.line k
  let s := s.noteMessage p
  if s.quarantined p then s
  else if m.bad then s.violate p Viol.malformed m.ty 0 k.val
  else if m.ty = 2 ∧ !s.discEchoes k.val m then s.violate p Viol.sequence m.ty 0 k.val
  else if s.overRate p then s.rateExcess p m.ty k.val
  else if m.w1.toNat = s.burgee then
    ((s.discSend k.val 3 (m.seq * 65536 + m.port)).2).violate p Viol.semantic m.ty 6 k.val
  else if m.ty = 3 then
    if s.get (F.LIN_DISC_STATE_STATE k.val) = Disc.paired
    then (s.discRecord k.val Disc.seen m).put (F.LIN_DISC_STATE_NEG_SEEN k.val) true else s
  else
    let s := if m.ty = 1 then (s.discSend k.val 2 (m.seq * 65536 + m.port)).2 else s
    s.discValid k.val m

/-- LINE_HAIL (R274, R275). -/
def execLineHail (k : Fin 64) (m : DiscMsg) (s : State) : Host.Outcome State Fault Refusal :=
  settle s (if m.ty = 2 ∨ m.ty = 3 then s else s.discReceive k m)
/-- LINE_ANSWERING_PENNANT (R275). -/
def execLineAnsweringPennant (k : Fin 64) (m : DiscMsg) (s : State) : Host.Outcome State Fault Refusal :=
  settle s (if m.ty = 1 ∨ m.ty = 3 then s else s.discReceive k m)
/-- NEGATIVE_ANSWERING_PENNANT (R275). -/
def execNegativeAnsweringPennant (k : Fin 64) (m : DiscMsg) (s : State) : Host.Outcome State Fault Refusal :=
  settle s (if m.ty = 1 ∨ m.ty = 2 then s else s.discReceive k m)

/-- DISCOVERY_HAIL_TIMER (R274): every `HAIL_PER` super-ticks a hail of every enabled entry. -/
def execDiscoveryHailTimer (s : State) : Host.Outcome State Fault Refusal :=
  settle s (
    if s.lin.hail < s.cfg F.LIN_DISC_CFG_HAIL_PER then s else
    let s := { s with lin := { s.lin with hail := 0 } }
    s.each ((List.range 64).filter fun k => s.on (F.LIN_DISC_CTRL_EN k)) fun s k =>
      let (seq, s) := s.discSend k 1 0
      s.modDisc k fun r => { r with seq := some seq })

/-- DISCOVERY_TIMEOUT (R275): no valid message for 3 × `HAIL_PER` super-ticks. -/
def execDiscoveryTimeout (k : Fin 64) (s : State) : Host.Outcome State Fault Refusal :=
  settle s (
    let st := s.get (F.LIN_DISC_STATE_STATE k.val)
    if (st = Disc.seen ∨ st = Disc.paired) ∧ 3 * s.cfg F.LIN_DISC_CFG_HAIL_PER ≤ (s.disc k.val).silent
    then s.discEnter k.val Disc.lost else s)

/-- `CLEAR` of an entry (R280): LOST to ABSENT. -/
def State.discCleared (s : State) (k : Nat) : State :=
  if s.get (F.LIN_DISC_STATE_STATE k) = Disc.lost then s.discEnter k Disc.absent else s

/-- A super-tick boundary's part of the discovery agent (R274, R275). -/
def State.discSuper (s : State) : State :=
  { s with lin := { s.lin with hail := s.lin.hail + 1, discs := s.lin.discs.map fun r => { r with silent := r.silent + 1 } } }

end Sys2Proof.Machine
end

