-- ==== Sys2Proof/Machine/Hoists.lean ====
section
/-! DEFINITION. Hoist descriptors, admission, loading, moving and unloading hoists, twins (R166 to R170, R184 to R188, R374),
engine retirement (R119), and the parts of Pennant Mode that act at tick boundaries (R114 to R117). -/

namespace Sys2Proof.Machine

/-! ## Descriptors and admission (R166 to R170, R220) -/

/-- The hoist number that a placement field names (R166). -/
def placeNum (v : Nat) : Option Nat :=
  if bitsOf v 0 7 < 96 ∧ bitsOf v 7 1 = 0 ∧ bitsOf v 12 4 = 0 then some (16 * bitsOf v 0 7 + bitsOf v 8 4) else none

/-- Whether a release latency lies in the range of a class (R22). -/
def latOk (cls lat : Nat) : Bool :=
  match cls with
  | 0 => decide (2 ≤ lat ∧ lat ≤ 16)
  | 1 => decide (2 ≤ lat ∧ lat ≤ 32)
  | 2 => decide (4 ≤ lat ∧ lat ≤ 64)
  | 3 => lat = 0
  | _ => false

/-- Whether a hoist has a Pennant placement (R166): S, and emergency V. -/
def Hoist.placed (h : Hoist) : Bool := h.cls = 0 || (h.cls = 1 && h.emerg)

/-- The hoist that the bytes of a descriptor describe (R166): none where it is not well formed. -/
def parseDescriptor (bs : List Byte) : Option Hoist :=
  let u (o n : Nat) : Nat := leNat ((bs.drop o).take n)
  let count := u 3 1
  let raw := (List.range count).map fun i => u (0x20 + 2 * i) 2
  let pen := u 6 2
  match placeNum (u 4 2) with
  | none => none
  | some home =>
    let h : Hoist := {
      num := home, cls := u 0 1, lat := u 1 1, typ := u 2 1, wc := u 8 4, tmin := u 12 4, emerg := bitOf (u 16 1) 0
      pennantAt := if pen = 0xFFFF then none else placeNum pen
      members := raw, at_ := home, since := 0, w := 0 }
    if bs.length < 0xA0 ∨ count = 0 ∨ 64 < count ∨ raw.any (16384 ≤ ·) ∨ raw.eraseDups.length ≠ count ∨ 3 < h.cls ∨ 2 ≤ u 16 1
      ∨ (h.emerg ∧ h.cls ≠ 1) ∨ (h.tmin ≠ 0 ∧ h.cls ≠ 2) ∨ u 0x11 15 ≠ 0
      ∨ (pen ≠ 0xFFFF ∧ (h.pennantAt.isNone ∨ !h.placed)) then none
    else some h

/-- The hoist that a descriptor at byte offset `a` of central SRAM describes: none where it does not lie there whole. -/
def State.readDescriptor (s : State) (a : Nat) : Option Hoist :=
  if 0x3C00000 < a + 0xA0 then none else parseDescriptor (s.rdBytes Sp.sram a 0xA0)

/-- Whether a member's header agrees with its hoist (R170, check Consistency). -/
def State.memberOk (s : State) (h : Hoist) (c : Nat) : Bool :=
  s.chValid c && s.chClass c = h.cls && s.chLat c = h.lat && s.chType c = h.typ && s.chHoist c = h.num

/-- Whether an entry address matches an image in a tile, for a class (R220). -/
def State.entryOk (s : State) (t img entry cls : Nat) : Bool :=
  match s.images.find? fun i => i.tile = t ∧ i.id = img with
  | none => false
  | some i =>
    bitOf i.classes cls && decide (i.base ≤ entry ∧ entry < i.base + i.codeWords)
      && (entry % 2 = 0 || fOp (s.codeWord t (entry - 1)) ≠ 0x3F)

/-- Issue slots that a share `a` percent of a frequency gives (R170), times 100. -/
def slotsFloor (a : Nat) : Nat := 37500 * a
def slotsNominal (a : Nat) : Nat := 150000 * a

/-- Sum of a demand over hoists. -/
def sumOf (l : List Hoist) (f : Hoist → Nat) : Nat := sumL (l.map f)
/-- The S demand and the nominal demand of a hoist (R170). -/
def Hoist.floorWc (h : Hoist) : Nat := if h.cls = 0 then h.wc else 0
def Hoist.nomWc (h : Hoist) : Nat := if h.cls ≤ 1 then h.wc else if h.cls = 2 then h.tmin else 0

/-- Whether an engine may hold a hoist (R104, R119): it and its tile's domains work, and it is not retired. -/
def State.engUsable (s : State) (e : Nat) : Bool :=
  s.domWorks e && s.domWorks (96 + e / 12) && s.domWorks (104 + e / 12) && !s.engRetired e

/-- HOIST_ADMISSION (R170): the lowest reason for which a hoist is refused beside the others, 0 where it is admitted. `hdr`
says that its members' headers are to be judged: a hoist that moves keeps them. -/
def State.admission (s : State) (others : List Hoist) (h : Hoist) (hdr : Bool) : Nat :=
  let e := h.num / 16
  let a := s.cfg (F.TILE_CTRL_ADMIT_PCT (e / 12))
  let here := h :: others.filter (·.num / 16 = e)
  let keeperOk : Bool := match h.pennantAt with
    | none => !h.placed
    | some p =>
      let there := h :: others.filter fun g => g.pennantAt.any (fun q => q / 16 = p / 16)
      p / 16 % 12 = 0 && decide (100 * sumOf there (·.wc) ≤ slotsFloor a ∧ sumOf there (·.members.length) ≤ 64)
        && (e % 12 ≠ 0 || p = h.num)
  let threadOk : Bool := !others.any (·.num = h.num) && s.engUsable e &&
    (match h.pennantAt with
      | none => true
      | some p => !others.any fun g => g.pennantAt = some p || (g.num = p && g.placed))
  let pinned := if h.cls ≤ 1 then (h :: others.filter (·.cls ≤ 1)).flatMap (·.members) else []
  let pinOk : Bool := h.cls > 1 || h.members.all fun c => decide ((pinned.filter (ctxSet · = ctxSet c)).length ≤ 6)
  let consOk : Bool := latOk h.cls h.lat && (!hdr || h.members.all (s.memberOk h))
    && !others.any fun g => g.members.any h.members.contains
  let c0 := h.members.headD 0
  let imgOk : Bool := h.members.all fun c =>
    s.chEntry c = s.chEntry c0 && s.chImage c = s.chImage c0 && s.entryOk (e / 12) (s.chImage c) (s.chEntry c) h.cls
      && (match h.pennantAt with | none => true | some p => s.entryOk (p / 192) (s.chImage c) (s.chEntry c) h.cls)
  if slotsFloor a < 100 * sumOf here Hoist.floorWc then 1
  else if slotsNominal a < 100 * sumOf here Hoist.nomWc then 2
  else if !keeperOk then 3
  else if !threadOk then 4
  else if !pinOk then 5
  else if !consOk then 6
  else if !imgOk then 7
  else 0

/-! ## The registers that show placements (R190, R191) -/

/-- `THRk` of a thread. -/
def State.showThread (s : State) (k : Nat) : State :=
  let t := k / 192
  let i := k % 192
  let h := s.hoist k
  let s := s.put (F.TILE_THR_LOADED t i) h.isSome
  let s := s.set (F.TILE_THR_CLASS t i) (match h with | some h => h.cls | none => 0)
  let s := s.set (F.TILE_THR_COUNT t i) (match h with | some h => h.members.length | none => 0)
  s.put (F.TILE_THR_PENNANT_HOST t i) (s.hoists.any (·.pennantAt = some k))
/-- `ENGe_LOAD` and `ENGe_PLOAD` of an engine. -/
def State.showEngine (s : State) (e : Nat) : State :=
  let here := s.hoists.filter (·.num / 16 = e)
  let there := s.hoists.filter fun g => g.pennantAt.any (fun q => q / 16 = e)
  let s := s.set (F.TILE_ENG_LOAD_SWC (e / 12) (e % 12)) (sumOf here Hoist.floorWc / 4)
  let s := s.set (F.TILE_ENG_LOAD_NOM (e / 12) (e % 12)) (sumOf here Hoist.nomWc / 4)
  if e % 12 ≠ 0 then s else
  (s.set (F.TILE_ENG_PLOAD_WC (e / 12) (e % 12)) (sumOf there (·.wc) / 4)).set
    (F.TILE_ENG_PLOAD_CHANS (e / 12) (e % 12)) (sumOf there (·.members.length))
/-- The registers of the placements of a hoist. -/
def State.showPlaces (s : State) (h : Hoist) : State :=
  s.each (h.num :: h.pennantAt.toList) fun s k => (s.showThread k).showEngine (k / 16)
/-- `MOVING` of a hoist's thread. -/
def State.setMoving (s : State) (k : Nat) (b : Bool) : State := s.put (F.TILE_THR_MOVING (k / 192) (k % 192)) b

/-! ## Loading, unloading, moving (R184, R186, R196) -/

/-- The local data window of a hoist set to 0. -/
def State.clearLocal (s : State) (k : Nat) : State := s.wr Sp.locals (localAddr k 0) (List.replicate 2048 0)

/-- The members that a load pins (R178): none for T and B. -/
def Hoist.pins (h : Hoist) : List Nat := if h.cls ≤ 1 then h.members else []
/-- The pinned members are asked of the cache (R179); the answer says whether all are resident. -/
def State.askPinned (s : State) (h : Hoist) : Bool × State :=
  let s := s.each h.pins fun s c => s.ctxFill (some (h.num / 192)) c
  (h.pins.all s.resident, s)

/-- Whether the hoists that do not run in Pennant Mode are held (R114): from E until X. -/
def State.pennantHolds (s : State) : Bool := s.bit F.PWR_STATUS_PENNANT

/-- A hoist takes effect at super-tick boundary S (R184, R196): its first work tick is S − 1. -/
def State.hoistPlace (s : State) (h : Hoist) : State :=
  let runs := s.runsInPennant h
  let inPm := s.pennantHolds
  let h := { h with
    since := s.tick, w := s.tick - 2, suspended := inPm && !runs
    at_ := if inPm && runs && !s.bit F.PWR_STATUS_PENNANT_PENDING then h.pennantAt.getD h.num else h.num }
  let s := (({ s with hoists := s.hoists ++ [h] } : State).grantNew h.num).clearLocal h.num
  ((s.each h.pins fun s c => s.ctxPin c true).showPlaces h).bootShow

/-- A hoist leaves (R184): its members' pinning ends. -/
def State.hoistRemove (s : State) (h : Hoist) : State :=
  let s := { s with hoists := s.hoists.filter (·.num ≠ h.num), marks := s.marks.filter fun m => !h.members.contains m.chan }
  ((s.each h.pins fun s c => s.ctxPin c false).setMoving h.num false).showPlaces h

/-- A hoist takes a new normal placement, and a Pennant placement (R168, R186): its local data goes with it, its members'
headers name it. -/
def State.hoistRenumber (s : State) (h : Hoist) (k : Nat) (p : Option Nat) : State :=
  let data := s.rdBytes Sp.locals (localAddr h.num 0) 2048
  let inPen := h.at_ ≠ h.num
  let s := s.modHoist h.num fun g => { g with
    num := k, pennantAt := p, at_ := if inPen then p.getD k else k, scratch := [] }
  let s := s.wr Sp.locals (localAddr k 0) data
  let s := s.each h.members fun s c => s.setChan c 0 (putBits (s.chan c 0) 24 11 k)
  let s := (s.setMoving h.num false).showPlaces h
  s.showPlaces { h with num := k, pennantAt := p }

/-! ## Twins (R188, R374) -/

/-- Whether a hoist's Pennant placement is the keeper engine of its own tile (R188). -/
def Hoist.ownKeeper (h : Hoist) : Bool := h.pennantAt.any fun p => p / 16 = 12 * (h.num / 192)

/-- Whether `TWIN_SET` is accepted (R188). -/
def State.twinOk (s : State) (a b : Nat) : Bool :=
  let okCh (c : Nat) : Bool := s.chValid c && s.chClass c = 0
  match s.hoistOf a, s.hoistOf b, s.chCku a, s.chCku b, s.chQueue a 0, s.chQueue b 0, s.chQueue a 1, s.chQueue b 1 with
  | some ha, some hb, some ua, some ub, some ia, some ib, some ra, some rb =>
    let stream (q : Nat) : Option Nat :=
      if (s.queue q).isSome ∧ !s.on (F.QUE_W_CFG_WRITER q) then some (s.cfg (F.QUE_W_CFG_SID q)) else none
    okCh a && okCh b && ha.num / 192 ≠ hb.num / 192
      && ha.lat = hb.lat && ha.typ = hb.typ && s.chEntry a = s.chEntry b && s.chImage a = s.chImage b
      && ha.ownKeeper && hb.ownKeeper
      && (stream ia).isSome && stream ia = stream ib && ra ≠ rb
      && ua ≠ ub
      && s.get (F.PWR_DOM_STATUS_STATE (156 + ua / 64)) = Dom.on && s.get (F.PWR_DOM_STATUS_STATE (156 + ub / 64)) = Dom.on
      && !((s.ckBound Mode.digest ra ++ s.ckBound Mode.digest rb).any fun n => n ≠ ua && n ≠ ub)
      && (List.range 24).all fun i => s.chan a (8 + i) = s.chan b (8 + i)
  | _, _, _, _, _, _, _, _ => false

/-- Store a value in a configuration field: the stored and, of F fields, the in-force copy. -/
def State.setBoth (s : State) (f : Fld) (v : Nat) : State :=
  let s := s.set f v
  if !f.frame then s else
  let s := s.setLive f.reg (s.word f.reg)
  if 32 < f.lo + f.w then s.setLive (f.reg + 4) (s.word (f.reg + 4)) else s

/-- A unit is configured as the digest of a release queue (R374). -/
def State.twinUnit (s : State) (n q : Nat) : State :=
  let s := (s.setBoth (F.CK_CFG_MODE n) Mode.digest).setBoth (F.CK_BIND_TARGET n) q
  let s := (s.setBoth (F.CK_CFG_WIDTH n) 63).setBoth (F.CK_POLY n) 0x42F0E1EBA9EA3693
  let s := (s.setBoth (F.CK_INIT n) 0xFFFFFFFFFFFFFFFF).setBoth (F.CK_XOR n) 0
  let s := (s.setBoth (F.CK_CFG_REFIN n) 0).setBoth (F.CK_CFG_REFOUT n) 0
  let s := (s.setBoth (F.CK_CFG_FOLDW n) 0).setBoth (F.CK_CFG_TAG_IN n) 1
  (s.setBoth (F.CK_CFG_ENABLE n) 1).ckEnabled n

/-- The twin bits of a header (R172). -/
def State.twinHeader (s : State) (c other : Nat) (on primary : Bool) : State :=
  s.setChan c 3 (putBits (putBits (putBits (s.chan c 3) 24 14 (if on then other else 0)) 38 1 (b2n on)) 39 1 (b2n primary))

/-- `TWIN_SET` takes effect (R188, R374). -/
def State.twinSet (s : State) (a b : Nat) : State :=
  let s := (s.twinHeader a b true true).twinHeader b a true false
  s.each [a, b] fun s c => match s.chCku c, s.chQueue c 1 with
    | some n, some q => s.twinUnit n q
    | _, _ => s

/-- `TWIN_CLEAR` takes effect (R184, R374): both copies single, both units disabled with `MODE` 0. -/
def State.twinClear (s : State) (a : Nat) : State :=
  let b := (s.chTwin a).getD a
  let off (s : State) (c : Nat) : State :=
    let s := match s.chCku c with
      | some n => ((s.setBoth (F.CK_CFG_ENABLE n) 0).setBoth (F.CK_CFG_MODE n) 0).ckDisabled n
      | none => s
    (s.twinHeader c 0 false false).penSet c Pen.degraded false
  off (off s a) b

/-! ## Channel commits (R184, R185) -/

/-- `CHAN_COMMIT` takes effect: the words of the mask from staging address `a`. -/
def State.chanCommit (s : State) (c a mask : Nat) : State :=
  s.each ((List.range 32).filter (bitOf mask ·)) fun s w => s.setChan c w (s.rdLE Sp.sram (a + 8 * w) 8)
/-- Whether a commit changes `CLASS`, `L`, `TYPE` or `HOIST` of a channel of a loaded hoist (R185). -/
def State.commitRefused (s : State) (c a mask : Nat) : Bool :=
  let old := s.chan c 0
  let new := s.rdLE Sp.sram a 8
  (mask &&& 0xE0) ≠ 0 ||
    (bitOf mask 0 && (s.hoistOf c).isSome && (bitsOf old 1 2 ≠ bitsOf new 1 2 || bitsOf old 8 8 ≠ bitsOf new 8 8
      || bitsOf old 16 7 ≠ bitsOf new 16 7 || bitsOf old 24 11 ≠ bitsOf new 24 11))
/-- `PENNANT_CLEAR` takes effect (R174, R184): sticky bits and bits of `BREACH_TICKS`. -/
def State.pennantClear (s : State) (c mask : Nat) : State :=
  let m := (mask * 2 ^ 32) &&& (2 ^ 33 + 2 ^ 34 + 2 ^ 35 + 2 ^ 36 + 2 ^ 38 + 0xFFFF * 2 ^ 48)
  s.penSet c m false

/-! ## Retirement (R119) -/

/-- The threads of a tile that hold no hoist, on usable engines, lowest first. -/
def State.freeThreads (s : State) (hs : List Hoist) (t : Nat) : List Nat :=
  ((List.range 192).map (192 * t + ·)).filter fun k => !hs.any (·.num = k) && s.engUsable (k / 16)

/-- Where a retired engine's hoist goes (R119). -/
def State.retireTo (s : State) (hs : List Hoist) (h : Hoist) : Option Nat :=
  let t := h.num / 192
  let free (t : Nat) : List Nat := (s.freeThreads hs t).filter (· / 16 ≠ h.num / 16)
  match free t with
  | k :: _ => some k
  | [] =>
    if h.members.any fun c => (s.chTwin c).isSome then none
    else ((List.range 8).filter (· ≠ t)).findSome? fun t => (free t).head?

/-- The moves of a retirement, in thread order: none where a hoist is not placed or not admitted. -/
def State.retirePlan (s : State) : List Hoist → List Hoist → Option (List (Hoist × Nat))
  | _, [] => some []
  | hs, h :: r =>
    match s.retireTo hs h with
    | none => none
    | some k =>
      let h' := { h with num := k }
      let others := hs.filter (·.num ≠ h.num)
      if s.admission others h' false ≠ 0 then none
      else (s.retirePlan (others ++ [h']) r).map ((h, k) :: ·)

/-- A write of `PWR_RETIRE.GO` (R119): the request waits for its boundary. -/
def State.retireRequest (s : State) : State :=
  { s with pwr := { s.pwr with retire := some (s.listed F.PWR_RETIRE_ENGINE, s.tick) } }

/-- Insert a hoist in thread order. -/
def insertByNum (h : Hoist) : List Hoist → List Hoist
  | [] => [h]
  | a :: r => if h.num ≤ a.num then h :: a :: r else a :: insertByNum h r

/-- RETIRE_ACT (R119): at the first super-tick boundary at least 2 ticks after the write. -/
def execRetireAct (s : State) : Host.Outcome State Fault Refusal :=
  settle s (match s.pwr.retire with
    | none => s
    | some (e, t) =>
      if !s.superTick ∨ s.tick < t + 2 then s else
      let s := { s with pwr := { s.pwr with retire := none } }
      let mine := (s.hoists.filter (·.num / 16 = e)).foldr insertByNum []
      match (if e % 12 = 0 ∧ bitOf s.pwr.keepers (e / 12) then none else s.retirePlan s.hoists mine) with
      | none => s.put F.PWR_STICKY_RETIRE_REJECTED true
      | some moves =>
        let s := s.each moves fun s m => s.hoistRenumber m.1 m.2 m.1.pennantAt
        let s := (s.setDom e Dom.off).orF (F.PWR_RETIRED (e / 32)) (2 ^ (e % 32))
        (s.orF (F.TILE_STATUS_ENG_RETIRED (e / 12)) (2 ^ (e % 12))).put F.PWR_STICKY_RETIRE_DONE true)

/-! ## Pennant Mode at tick boundaries (R114, R115, R117) -/

/-- The spell of Pennant Mode that is entered or in force. -/
def State.spell (s : State) : Option Spell :=
  if s.bit F.PWR_STATUS_PENNANT ∨ s.bit F.PWR_STATUS_PENNANT_PENDING then s.pwr.spells.head? else none
/-- Change the latest spell. -/
def State.modSpell (s : State) (f : Spell → Spell) : State :=
  { s with pwr := { s.pwr with spells := match s.pwr.spells with | [] => [] | p :: r => f p :: r } }

/-- PENNANT_MODE_START (R114): at E, the hoists that do not run in Pennant Mode stop, their unfinished work abandoned. -/
def execPennantModeStart (s : State) : Host.Outcome State Fault Refusal :=
  settle s (match s.spell with
    | none => s
    | some p =>
      if s.bit F.PWR_STATUS_PENNANT ∨ s.tick < p.entry then s else
      let s := s.put F.PWR_STATUS_PENNANT true
      let runs := s.hoists.filter s.runsInPennant
      let s := { s with hoists := s.hoists.map fun h =>
        if s.runsInPennant h then h else { h with suspended := true, ready := false, stall := none, outAcc := 0, outBits := 0 } }
      s.each runs fun s h => s.setMoving h.num true)

/-- PENNANT_PLACEMENT_MOVE (R114, R115): at the first super-tick boundary from E, unless an exit has been accepted: the hoists
that run move to their Pennant placements, the domains of R115 are gated, and the hoists of gated engines lose their local
data. -/
def execPennantPlacementMove (s : State) : Host.Outcome State Fault Refusal :=
  settle s (match s.spell with
    | none => s
    | some p =>
      if !s.bit F.PWR_STATUS_PENNANT ∨ !s.bit F.PWR_STATUS_PENNANT_PENDING ∨ !s.superTick ∨ s.tick < p.entry
        ∨ s.pwr.exitAccepted then s else
      let s := s.each (s.hoists.filter s.runsInPennant) fun s h =>
        (s.modHoist h.num fun g => { g with at_ := g.pennantAt.getD g.num, scratch := [] }).setMoving h.num false
      let gates := s.pennantGates
      let s := s.each gates fun s n => (s.setDom n Dom.off).put (F.PWR_DOM_STATUS_PENNANT_GATED n) true
      let s := s.each (s.hoists.filter fun h => h.suspended && gates.contains (h.num / 16)) fun s h => s.clearLocal h.num
      (s.put F.PWR_STATUS_PENNANT_PENDING false).modSpell fun p => { p with moved := some s.tick })

/-- PENNANT_EXIT_COMPLETE (R117): at super-tick boundary X, with every gated domain ON again, hoists return to their normal
placement; those that did not run start with work tick X − 1. -/
def execPennantExitComplete (s : State) : Host.Outcome State Fault Refusal :=
  settle s (match s.spell with
    | none => s
    | some p =>
      let waiting := (List.range 162).any fun n => s.bit (F.PWR_DOM_STATUS_PENNANT_GATED n)
      if !s.pwr.exitAccepted ∨ !s.superTick ∨ s.tick < p.entry ∨ waiting then s else
      let x := s.tick
      let s := { s with hoists := s.hoists.map fun (h : Hoist) =>
        if h.suspended then { h with suspended := false, at_ := h.num, ready := false, w := x - 2, notBefore := 0 }
        else { h with at_ := h.num, scratch := if h.at_ = h.num then h.scratch else [] } }
      let s := s.each s.hoists fun s h => s.setMoving h.num false
      let causes := s.get F.PWR_PENNANT_STATUS_CAUSE
      let s := (s.set F.PWR_PENNANT_STATUS_CAUSE 0).put F.PWR_STATUS_PENNANT false
      let s := (s.put F.PWR_STATUS_PENNANT_PENDING false).modSpell fun p => { p with exit := some x }
      { s with pwr := { s.pwr with exitAccepted := false } }.raise { src := 3, code := 1, subject := causes })

/-- A tile is reset: the threads on it lose the work tick they work on, so that its unfinished outputs stay incomplete (R80),
and its DMA port drains (R157). -/
def State.tileReset (s : State) (n : Nat) : State :=
  let stop : Hoist → Hoist := fun (h : Hoist) => { h with ready := false, stall := none, outAcc := 0, outBits := 0 }
  let s := { s with hoists := s.hoists.map fun (h : Hoist) => if h.at_ / 192 = n then stop h else h }
  s.put (F.BUS_MSTR_STATUS_DRAINING (1 + n)) true

/-- DOMAIN_SWITCH_FORCE (R79): a switch still pending is forced by the supervisor; the domain stops until it resumes. -/
def execDomainSwitchForce (d : Fin 11) (s : State) : Host.Outcome State Fault Refusal :=
  settle s (match s.clk.switching.find? (·.1 = d.val) with
    | none => s
    | some p =>
      let s := s.domTake d.val p.2
      let s := { s with clk := { s.clk with forced := d.val :: s.clk.forced.filter (· ≠ d.val) } }
      let s := (s.put F.CLK_STICKY_SW_FORCED true).put F.CLK_DOMSW_STATUS_FORCED true
      let s := (s.tal 1 3 1).raise { src := 16, code := 2, subject := d.val }
      if d.val < 8 then s.tileReset d.val else s)

end Sys2Proof.Machine
end

