-- ==== Sys2Proof/Machine/Mailbox.lean ====
section
/-! DEFINITION. Sending halyard frames (R440 to R443), and the host mailbox: acceptance, order, refusals, close up (R147 to
R150, R419, R420, R500, R506). -/

namespace Sys2Proof.Machine

/-! ## Sending halyard frames -/

/-- Frame types (R441). -/
def Ty.hail : Nat := 0x01
def Ty.answer : Nat := 0x02
def Ty.neg : Nat := 0x03
def Ty.offer : Nat := 0x10
def Ty.accept : Nat := 0x11
def Ty.leave : Nat := 0x12
def Ty.release : Nat := 0x13
def Ty.timeReq : Nat := 0x20
def Ty.timeResp : Nat := 0x21
def Ty.command : Nat := 0x30
def Ty.result : Nat := 0x31
def Ty.regWrite : Nat := 0x32
def Ty.regAck : Nat := 0x33
def Ty.chunk : Nat := 0x40
def Ty.imgStatus : Nat := 0x41
def Ty.event : Nat := 0x50
def Ty.user : Nat := 0x51

/-- The reliable types that wait for an answer (R441, R442). -/
def isReliable (ty : Nat) : Bool :=
  [Ty.offer, Ty.accept, Ty.leave, Ty.release, Ty.command, Ty.regWrite, Ty.chunk].contains ty

/-- Own halyard address (R443, R465). -/
def State.halAddr (s : State) : Nat := if s.cfg F.HAL_CFG_ROLE = 3 then 0 else s.get F.HAL_STATE_ADDR

/-- Membership states (R444). -/
def HalSt.unbound : Nat := 0
def HalSt.joining : Nat := 1
def HalSt.member : Nat := 2
def HalSt.orphan : Nat := 3
/-- The membership state. -/
def State.halState (s : State) : Nat := s.get F.HAL_STATE_STATE
/-- The membership state changes: `EV_HAL_STATE` (R444, R449). -/
def State.halEnter (s : State) (st : Nat) : State :=
  if s.halState = st then s else (s.set F.HAL_STATE_STATE st).raise { src := 834 }

/-- The counts to and from a partner start anew at a join (R442). -/
def State.seqRestart (s : State) (p : Partner) : State :=
  let drop (l : List SeqCount) : List SeqCount := l.filter (·.who ≠ p)
  { s with hal := { s.hal with rx := drop s.hal.rx, tx := drop s.hal.tx, answers := s.hal.answers.filter fun a => a.1 ≠ p } }

/-- A frame of this device. -/
def State.halFrame (s : State) (ty seq : Nat) (dst : Word) (addr : Nat) (bcast : Bool) (payload : List Word) : HalFrame :=
  let p := s.hierPort
  { port := Fin.ofNat 2 p, etype := BitVec.ofNat 16 (s.cfg F.HAL_CFG_ETYPE)
    vid := if s.on (F.HAL_H_CFG_TAGGED p) then some (BitVec.ofNat 12 (s.cfg (F.HAL_H_CFG_VID p))) else none
    ty := BitVec.ofNat 8 ty, seq := BitVec.ofNat 32 seq, src := BitVec.ofNat 64 s.burgee, dst := dst
    srcAddr := BitVec.ofNat 14 s.halAddr, dstAddr := BitVec.ofNat 14 addr, bcast := bcast, payload := payload }

/-- A frame leaves on the hierarchy port, with the next sequence number to the partner; a reliable one waits for its answer
(R442). -/
def State.halSend (s : State) (p : Partner) (ty : Nat) (dst : Word) (addr : Nat) (bcast : Bool) (payload : List Word) : State :=
  if !s.hierOn then s else
  let n := (seqOf s.hal.tx p ty + 1) % 2 ^ 32
  let f := s.halFrame ty n dst addr bcast payload
  let s := { s with hal := { s.hal with tx := setSeq s.hal.tx p ty n } }
  let s := if isReliable ty then
      { s with hal := { s.hal with sent := s.hal.sent ++ [({ who := p, frame := f, at_ := s.tick } : Sent)] } }
    else s
  (s.emit (.hal f)).tal 22 1 1

/-- The answer to a reliable type is kept, to be sent again (R442). -/
def State.halKeep (s : State) (p : Partner) (ty : Nat) (o : Out) : State :=
  { s with hal := { s.hal with answers := (p, ty, o) :: s.hal.answers.filter fun a => !(a.1 = p && a.2.1 = ty) } }

/-- An answer to a frame of a partner (R442, R453, R454): sent, and kept. -/
def State.halAnswer (s : State) (p : Partner) (f : HalFrame) (ty : Nat) (payload : List Word) : State :=
  if !s.hierOn then s else
  let n := (seqOf s.hal.tx p ty + 1) % 2 ^ 32
  let r := s.halFrame ty n f.src f.srcAddr.toNat false payload
  let s := { s with hal := { s.hal with tx := setSeq s.hal.tx p ty n } }
  ((s.emit (.hal r)).tal 22 1 1).halKeep p f.ty.toNat (.hal r)

/-- A negative answering pennant to a frame (R441, R460). -/
def State.halNeg (s : State) (p : Partner) (f : HalFrame) (reason : Nat) : State :=
  s.halSend p Ty.neg f.src f.srcAddr.toNat false
    [BitVec.ofNat 64 reason, BitVec.ofNat 64 (f.ty.toNat * 2 ^ 56 + f.seq.toNat)]

/-! ## Slots (R147) -/

/-- State of slot `n`: 0 EMPTY, 1 at the dip, 2 close up. -/
def State.slotState (s : State) (n : Nat) : Nat := bitsOf (s.get F.SUP_MBOX_STATUS) (2 * n) 2
/-- Set the state of a slot. -/
def State.setSlot (s : State) (n st : Nat) : State :=
  s.set F.SUP_MBOX_STATUS (putBits (s.get F.SUP_MBOX_STATUS) (2 * n) 2 st)

/-- Result codes (R150). -/
def Rc.ok : Nat := 0
def Rc.unknown : Nat := 1
def Rc.badArg : Nat := 2
def Rc.refused : Nat := 3
def Rc.auth : Nat := 4
def Rc.quarantined : Nat := 5

/-- What answers a command that came in a frame: of a COMMAND a RESULT with the slot state, the result word and the argument
words (R453); of an image's chunks an IMAGE_STATUS with the result code and the image (R454). -/
def State.sendResult (s : State) (f : HalFrame) (st code tag : Nat) (args : List Nat) : State :=
  if f.ty.toNat = Ty.chunk then
    if st = 2 then s.halAnswer .manager f Ty.imgStatus [BitVec.ofNat 64 code, BitVec.ofNat 64 tag] else s
  else s.halAnswer .manager f Ty.result
    (BitVec.ofNat 64 st :: BitVec.ofNat 64 (tag * 2 ^ 16 + code) :: args.map (BitVec.ofNat 64))

/-- Argument words with the first ones replaced by results. -/
def putArgs (args res : List Nat) : List Nat := res ++ args.drop res.length

/-- A command closes up (R147, R149, R453, R506): its result goes where it came from. -/
def State.closeUp (s : State) (c : Cmd) (code : Nat) (res : List Nat) : State :=
  let s := s.tal 0 1 (b2n (code ≠ 0))
  match c.src with
  | .slot n =>
    let s := (s.set (F.SUP_MBOX_RESULT_CODE n) code).set (F.SUP_MBOX_RESULT_TAG n) c.tag
    let s := s.each res.zipIdx fun s p => s.set (F.SUP_MBOX_ARG n p.2) p.1
    ((s.setSlot n 2).set F.SUP_MBOX_DONE c.seq).raise { src := 962, subject := n }
  | .script =>
    let s := { s with boot := { s.boot with result := some code } }
    (s.set F.SUP_MBOX_DONE c.seq).raise { src := 962, subject := 16 }
  | .journal => s
  | .frame f => s.sendResult f 2 code c.tag (putArgs c.args res)

/-- The violation that a code of a slot's command is (R458, R459). -/
def State.codeViolation (s : State) (c : Cmd) (code : Nat) : State :=
  match c.src with
  | .slot _ =>
    if code = Rc.unknown ∨ code = Rc.badArg then s.violate .host Viol.malformed c.op 0 0
    else if code = Rc.refused ∨ code = Rc.auth then s.violate .host Viol.semantic c.op 0 0
    else s
  | _ => s
/-- A command closes up, a failure counting as a violation of the host (R459). -/
def State.finish (s : State) (c : Cmd) (code : Nat) (res : List Nat) : State := (s.closeUp c code res).codeViolation c code

/-! ## Acceptance (R147, R148) -/

/-- A mailbox write refused in the slot's state (R148): logged, and an out-of-sequence violation (R458). -/
def State.mboxRefuse (s : State) (addr master op : Nat) : State :=
  (s.logAccess addr master Kind.mboxState true 15).violate .host Viol.sequence op 0 0

/-- A command is accepted (R147): it takes the next sequence number and waits its turn. -/
def State.accept (s : State) (src : CmdFrom) (op argWords : Nat) (args : List Nat) (tag : Nat) : Cmd × State :=
  let c : Cmd := { src := src, seq := s.mbox.next, op := op, argWords := argWords, args := args, tag := tag }
  (c, ({ s with mbox := { s.mbox with next := (s.mbox.next + 1) % 65536, queue := s.mbox.queue ++ [c] } }).tal 0 0 1)

/-- A command is withdrawn from the queue. -/
def State.dropCmd (s : State) (c : Cmd) : State :=
  { s with mbox := { s.mbox with queue := s.mbox.queue.filter (· ≠ c) } }

/-- The argument words that a command requires (R150), for the codes that a chapter defines. -/
def cmdNeed (op : Nat) : Option Nat :=
  if [0x00, 0x01, 0x1A, 0x27, 0x30, 0x31, 0x33, 0x45, 0x51, 0x52].contains op then some 0
  else if [0x1B, 0x20, 0x21, 0x25, 0x32, 0x40, 0x41].contains op then some 1
  else if [0x11, 0x12, 0x18, 0x1C, 0x23, 0x24, 0x42, 0x46, 0x50].contains op then some 2
  else if [0x13, 0x19, 0x26, 0x43].contains op then some 3
  else if [0x10, 0x22, 0x53].contains op then some 4
  else if op = 0x44 then some 9 else none
/-- Whether a command is malformed (R150, R458): its opcode or `ARG_WORDS` is bad. -/
def Cmd.malformed (c : Cmd) : Bool :=
  match cmdNeed c.op with | some n => decide (12 < c.argWords ∨ c.argWords < n) | none => true

/-- `SUBMIT` on an EMPTY slot (R147): accepted; in quarantine (R461) or in excess of the rate (R459) it closes up at once. A
malformed command belongs to its own class (R458), so its excess does not count. -/
def State.submit (s : State) (n : Nat) : State :=
  let args := (List.range 12).map fun a => s.get (F.SUP_MBOX_ARG n a)
  let (c, s) := s.accept (.slot n) (s.get (F.SUP_MBOX_CMD_OPCODE n)) (s.get (F.SUP_MBOX_CMD_ARG_WORDS n)) args
    (s.get (F.SUP_MBOX_CMD_TAG n))
  let s := ((s.set (F.SUP_MBOX_SEQ n) c.seq).setSlot n 1).noteMessage .host
  if s.quarantined .host then (s.dropCmd c).closeUp c Rc.quarantined []
  else if s.overRate .host ∧ !c.malformed then ((s.dropCmd c).closeUp c Rc.refused []).violate .host Viol.rate c.op 0 0
  else s

/-- A write to `SUP_MBOXs_CTRL` (R147, R148), judged on the slot's state at its start. -/
def State.mboxCtrl (s : State) (addr master n act : Nat) : State :=
  let sub := bitOf act 0
  let rel := bitOf act 1
  let op := s.get (F.SUP_MBOX_CMD_OPCODE n)
  match s.slotState n with
  | 0 =>
    let s := if sub then s.submit n else s
    if rel then s.mboxRefuse addr master op else s
  | 1 => if sub ∨ rel then s.mboxRefuse addr master op else s
  | _ =>
    let s := if rel then s.setSlot n 0 else s
    if sub then s.mboxRefuse addr master op else s

/-! ## Execution (R148, R150, R419, R420, R500, R506) -/

/-- Whether the device's state keeps a command from executing at all (R420, R500, R506): `DEVICE_RESET` is accepted in any
step (R507, log 70). -/
def State.cmdBarred (s : State) (c : Cmd) : Bool :=
  let idle := c.op = 0x00 || c.op = 0x01
  (!s.bootDone && !idle && c.op ≠ 0x18 && c.op ≠ 0x1B && !(s.boot.running && c.src = .script))
    || (s.boot.running && c.src ≠ .script && !idle && c.op ≠ 0x18)
    || (!s.pairSpeaks && c.src ≠ .journal && !([0x00, 0x01, 0x12, 0x32, 0x33].contains c.op))

/-- Whether a standby takes the journal (R418). -/
def State.journaling (s : State) : Bool :=
  s.pairState = PairSt.active && !s.pair.lost &&
    (match s.pair.peer with | some h => decide (4 ≤ h.state.val ∧ h.state.val ≤ 6) | none => false)
/-- Whether a command is journaled (R419). -/
def cmdJournaled (op : Nat) : Bool := !([0x00, 0x01, 0x12].contains op) && !decide (0x30 ≤ op ∧ op < 0x40)

/-- An entry joins the journal (R418, R419): it is sent to the standby. -/
def State.journalPut (s : State) (e : JEntry) : State :=
  let n := s.pair.jnext
  let s := { s with pair := { s.pair with
    jnext := (n + 1) % 2 ^ 32, journal := s.pair.journal ++ [({ seq := n, entry := e } : JWait)] } }
  if s.pairOn then (s.emit (.journal n e)).tal 22 1 1 else s

/-- The command in execution (R148). -/
def State.begin (s : State) (c : Cmd) : State := { s with mbox := { s.mbox with busy := some { cmd := c, began := s.tick } } }
/-- The command in execution ends with a code and results. -/
def State.endBusy (s : State) (code : Nat) (res : List Nat) : State :=
  match s.mbox.busy with
  | none => s
  | some b => ({ s with mbox := { s.mbox with busy := s.mbox.aside, aside := none } }).finish b.cmd code res
/-- Whether the command in execution has an opcode, and no journal wait keeps it. -/
def State.busyOp (s : State) (op : Nat) : Option Busy :=
  match s.mbox.busy with
  | some b => if b.cmd.op = op ∧ b.jseq.isNone then some b else none
  | none => none

/-- The bytes of central SRAM that a command references (R419), by opcode: image and table staging, descriptors, channel
words. -/
def State.cmdBytes (s : State) (c : Cmd) : List (Nat × List Byte) :=
  let a (i : Nat) : Nat := c.args.getD i 0
  let part (at_ n : Nat) : List (Nat × List Byte) := [(at_, s.rdBytes Sp.sram at_ n)]
  match c.op with
  | 0x10 => part (a 0) (a 1)
  | 0x19 => part (a 0) (256 * a 2)
  | 0x1C => part (a 0) (0x180 + s.rdLE Sp.sram (a 0 + 8) 4 + s.rdLE Sp.sram (a 0 + 12) 4 + 96)
  | 0x20 => part (a 0) 0xA0
  | 0x22 => part (a 1) 256
  | _ => []

/-- The oldest accepted command executes, where its opcode is `op` and no other is in execution (R148): it closes up
BAD_ARGUMENT where `ARG_WORDS` does not suit `need` (R150), REFUSED where the device's state bars it, and waits for the journal
where a standby takes it (R419); else `body` says what it does. -/
def State.runOp (s : State) (op need : Nat) (body : State → Cmd → State) : State :=
  match s.mbox.busy, s.mbox.queue with
  | none, c :: r =>
    if c.op ≠ op then s else
    let s := { s with mbox := { s.mbox with queue := r } }
    if 12 < c.argWords ∨ c.argWords < need then s.finish c Rc.badArg []
    else if s.cmdBarred c then s.finish c Rc.refused []
    else if s.journaling ∧ cmdJournaled op ∧ c.src ≠ .journal then
      let due := s.tick + s.cfg F.PRT_PAIR_CFG_JLAG
      let n := s.pair.jnext
      let e : JEntry := .cmd (BitVec.ofNat 8 op) (c.args.map (BitVec.ofNat 32)) (s.cmdBytes c) due
      { s.journalPut e with mbox := { s.mbox with busy := some { cmd := c, began := s.tick, due := due, jseq := some n } } }
    else body s c
  | _, _ => s

end Sys2Proof.Machine
end

