-- ==== Sys2Proof/Machine/Record.lean ====
section
/-! DEFINITION. Chapter 16 beside raising an event: the overflow record and the vectors (R472, R473), the incident recorder
(R477 to R486), tally snapshots (R488) and tagging (R490). -/

namespace Sys2Proof.Machine

/-! ## The bunting ring and the vectors (R470 to R473) -/

/-- OVERFLOW_RECORD (R472): once a record of class S is admitted, one overflow record with the counts dropped. -/
def execOverflowRecord (s : State) : Host.Outcome State Fault Refusal :=
  settle s (
    if !s.bit F.EVT_CTRL_ENABLE ∨ !s.evt.overflow ∨ !s.ringAdmits 0 ∨ !s.linkUp then s else
    let d (i : Nat) : Nat := s.evt.dropped.getD i 0
    let s := s.postRecord { src := 963, data := d 0 * 2 ^ 48 + d 1 * 2 ^ 32 + d 2 * 2 ^ 16 + d 3 } 0
    ({ s with evt := { s.evt with dropped := [0, 0, 0, 0], overflow := false } }).tal 4 3 1)

/-- Whether a write of 1 to `EVT_CTRL.ENABLE` is refused (R471). -/
def State.evtEnableRefused (s : State) : Bool :=
  decide (2 ^ s.ringLog - 1 ≤ s.get F.EVT_RESV0_RESV_S + s.get F.EVT_RESV0_RESV_V + s.get F.EVT_RESV1_RESV_T)
/-- The ring starts (R469, R470): both indices 0, the first pass, no record written yet. -/
def State.evtStarted (s : State) : State :=
  let s := ((s.set F.EVT_RING_HEAD_HEAD 0).set F.EVT_RING_TAIL_TAIL 0).set F.EVT_RING_TAIL_LAP 1
  { s with evt := { s.evt with seq := 0, dropped := [0, 0, 0, 0], overflow := false } }
/-- `ENABLE` is cleared (R475): the records not yet posted are discarded. -/
def State.evtStopped (s : State) : State :=
  { s with evt := { s.evt with dropped := [0, 0, 0, 0], overflow := false } }

/-- A vector that is not masked any more sends its pending message (R473). -/
def State.msixSend (s : State) (v : Nat) : State :=
  let p := 0x1000 + v / 8
  let b := (s.rd Sp.msix p).toNat
  if !bitOf b (v % 8) ∨ !s.linkUp then s else
  let s := s.wrLE Sp.msix p 1 (b - 2 ^ (v % 8))
  (s.emit (.msix v (s.rdLE Sp.msix (16 * v) 8) (s.rdLE Sp.msix (16 * v + 8) 4))).tal 4 2 1

/-- MSIX_UNMASK (R473): the vector's mask bit is cleared, and its pending message follows. -/
def execMsixUnmask (vec : Fin 256) (s : State) : Host.Outcome State Fault Refusal :=
  settle s (
    let a := 16 * vec.val + 12
    (s.wrLE Sp.msix a 1 ((s.rd Sp.msix a).toNat &&& 0xFE)).msixSend vec.val)

/-! ## Sources and staging (R478, R483) -/

/-- States of the recorder (R485). -/
def RecSt.idle : Nat := 0
def RecSt.starting : Nat := 1
def RecSt.recording : Nat := 2
def RecSt.full : Nat := 3
def RecSt.driveLost : Nat := 4
def RecSt.stopping : Nat := 5
/-- The recorder's state. -/
def State.recState (s : State) : Nat := s.get F.REC_STATUS_STATE
/-- A change of state raises `EV_REC_STATE` (R485). -/
def State.recEnter (s : State) (st : Nat) : State :=
  if s.recState = st then s else
  let s := (s.set F.REC_STATUS_STATE st).raise { src := 896, code := 0 }
  if st = RecSt.full then s.put F.REC_STICKY_FULL_SEEN true
  else if st = RecSt.driveLost then s.put F.REC_STICKY_DRIVE_LOST_SEEN true else s

/-- Whether a write of 1 to `EN` of source `k` is refused (R478), on its stored configuration. -/
def State.recSrcRefused (s : State) (k : Nat) : Bool :=
  let q := s.get (F.REC_SRC_CFG_QUEUE k)
  let c := s.get (F.REC_SRC_CHAN_CHAN k)
  (s.queue q).isNone || s.cfg (F.QUE_W_CFG_READER q) ≠ Reader.recorder
    || (s.bit (F.REC_SRC_CFG_MUST k) && (s.queClass q ≠ 0 || !s.chValid c || s.chClass c ≠ 0 || !s.chMust c))
/-- A source has been disabled: its open body is dropped. -/
def State.recSrcStopped (s : State) (k : Nat) : State :=
  { s with rec_ := { s.rec_ with open_ := s.rec_.open_.filter (·.src ≠ k) } }

/-- Longest payload of a body (R478). -/
def recMax : Nat := 65472
/-- The bytes that a word of queue `q` contributes (R358, R478). -/
def State.recBytes (s : State) (q : Nat) (w : QWord) : List Byte :=
  ((wordBytes (if w.poison then s.substWord q else w.data)).take (validCount w.tag)).map (BitVec.ofNat 8)
/-- A word joins an open body: cut at the longest payload. -/
def RecOpen.add (o : RecOpen) (arr : Nat) (poison : Bool) (bs : List Byte) : RecOpen :=
  let all := o.bytes ++ bs
  { o with last := Nat.max o.last arr, bytes := all.take recMax, poison := o.poison || poison
           cut := o.cut || decide (recMax < all.length) }
/-- The body that an open one becomes (R479). -/
def State.recClose (s : State) (k : Nat) (o : RecOpen) : RecBody :=
  let must := s.on (F.REC_SRC_CFG_MUST k)
  let byTick := s.on (F.REC_SRC_CFG_BY_TICK k)
  { src := k, must := must, flags := b2n o.poison + 2 * b2n must + 4 * b2n o.cut + 8 * b2n o.inc
    stamp := (if byTick then o.first else o.last) * 8192 % 2 ^ 64
    ticks := if byTick then s.cfg (F.REC_SRC_CFG_TICKS k) + 1 else 0
    chan := s.cfg (F.REC_SRC_CHAN_CHAN k), payload := o.bytes }
/-- A body that holds an ingress-incomplete tick (R30). -/
def RecOpen.noteInc (inc : List Nat) (o : RecOpen) : RecOpen :=
  { o with inc := o.inc || inc.any fun t => decide (o.first ≤ t ∧ t ≤ o.last) }

/-- One word of a source that takes packets (R478): words outside packets are left out. -/
def State.recPktWord (s : State) (k q : Nat) (inc : List Nat) (r : Option RecOpen × List RecBody) (w : QWord) :
    Option RecOpen × List RecBody :=
  if isMarker w.tag then r else
  let o := if tagStart w.tag then some ({ src := k, first := w.arr, last := w.arr } : RecOpen) else r.1
  match o with
  | none => (none, r.2)
  | some o =>
    let o := (o.add w.arr w.poison (s.recBytes q w)).noteInc inc
    if tagEnd w.tag then (none, r.2 ++ [s.recClose k o]) else (some o, r.2)
/-- One word of a source that takes bodies by ticks (R478). -/
def State.recTickWord (s : State) (k q : Nat) (inc : List Nat) (r : Option RecOpen × List RecBody) (w : QWord) :
    Option RecOpen × List RecBody :=
  let t := s.cfg (F.REC_SRC_CFG_TICKS k) + 1
  let n := w.arr / t * t
  let r := match r.1 with
    | some o => if o.last < w.arr then (none, r.2 ++ [s.recClose k (o.noteInc inc)]) else r
    | none => r
  let o := r.1.getD { src := k, first := n, last := n + t - 1 }
  (some (if isMarker w.tag then o else o.add n w.poison (s.recBytes q w)), r.2)

/-- A source's queue is drained (R483): the bodies that have closed, oldest first; the open one is kept. -/
def State.recDrain (s : State) (k : Nat) : List RecBody × State :=
  let q := s.cfg (F.REC_SRC_CFG_QUEUE k)
  match s.queue q with
  | none => ([], s)
  | some e =>
    let o0 := s.rec_.open_.find? (·.src = k)
    let byTick := s.on (F.REC_SRC_CFG_BY_TICK k)
    let (o, bs) := e.words.foldl (if byTick then s.recTickWord k q e.incomplete else s.recPktWord k q e.incomplete) (o0, [])
    let n := e.words.length
    let (o, bs) := match o with
      | none => (none, bs)
      | some o =>
        let o := o.noteInc e.incomplete
        if byTick ∧ o.last < e.gate.getD 0 then (none, bs ++ [s.recClose k o]) else (some o, bs)
    let s := if n = 0 then s else
      ((s.setWords q []).tal 18 1 n).modQueue q fun e => { e with bit := 0, flushWords := e.flushWords.map (· - n) }
    (bs, { s with rec_ := { s.rec_ with open_ := o.toList ++ s.rec_.open_.filter (·.src ≠ k) } })

/-- A count of a list of counts, one more. -/
def countUp (l : List (Nat × Nat)) (k : Nat) : List (Nat × Nat) :=
  match l.find? (·.1 = k) with
  | some _ => l.map fun p => if p.1 = k then (k, p.2 + 1) else p
  | none => l ++ [(k, 1)]

/-- A body is lost (R483): counted; `EV_REC_LOSS` once in a tick, of the first source that loses. -/
def State.recLose (s : State) (b : RecBody) : State :=
  let s := ((s.inc (F.REC_SRC_LOST b.src) 1).inc F.REC_LOST 1).put F.REC_STICKY_LOST_SEEN true
  let s := (s.when b.must fun s => s.put F.REC_STICKY_MUST_LOST true).tal 23 2 1
  let s := { s with rec_ := { s.rec_ with lost := countUp s.rec_.lost b.src } }
  let subject := ((s.evt.gathered.find? fun g => g.src = 896 ∧ g.code = 1).map (·.subject)).getD b.src
  s.gather { src := 896, code := 1, subject := subject }

/-- Bytes padded with 0 to a multiple of `n` (R479, R484). -/
def padTo (n : Nat) (bs : List Byte) : List Byte := bs ++ List.replicate ((n - bs.length % n) % n) 0
/-- Lines of the staging region that a body takes: its record's header and payload (log 40). -/
def RecBody.lines (b : RecBody) : Nat := 1 + ceilDiv b.payload.length 64
/-- Lines taken by bodies. -/
def stageLines (l : List RecBody) : Nat := sumL (l.map RecBody.lines)
/-- Whether a body finds staging room (R483): sources that are not must-record leave the reserved lines. -/
def State.recRoomFor (s : State) (b : RecBody) : Bool :=
  let all := s.cfg F.REC_STAGE_LINES
  let used := stageLines s.rec_.staged
  let others := stageLines (s.rec_.staged.filter fun x => !x.must)
  decide (used + b.lines ≤ all) && (b.must || decide (others + b.lines + s.cfg F.REC_RESV_LINES ≤ all))
/-- A closed body goes to staging, or is lost (R483). -/
def State.recStage (s : State) (b : RecBody) : State :=
  let takes := (s.recState = RecSt.recording || s.recState = RecSt.full)
    && (b.must || !s.bit F.PWR_STATUS_PENNANT) && s.recRoomFor b
  if takes then { s with rec_ := { s.rec_ with staged := s.rec_.staged ++ [b] } } else s.recLose b

/-- REC_STAGE (R483): at a tick boundary the closed bodies, of must-record sources first. -/
def State.recTick (s : State) : State :=
  let on := (List.range 512).filter fun k => s.on (F.REC_SRC_CFG_EN k)
  let must (k : Nat) : Bool := s.on (F.REC_SRC_CFG_MUST k)
  let s := s.each (on.filter must ++ on.filter fun k => !must k) fun s k =>
    let (bs, s) := s.recDrain k
    s.each bs State.recStage
  { s with rec_ := { s.rec_ with bUsed := 0, since := s.rec_.since + 1 } }

/-! ## Records and the ring (R479 to R482, R484) -/

/-- Bytes of a logical block and of the ring. -/
def State.recBs (s : State) : Nat := if s.on F.REC_CFG_BLOCK then 4096 else 512
def State.recRing (s : State) : Nat := s.cfg F.REC_RING_BLOCKS * s.recBs
/-- Block of the ring that a byte offset lies in. -/
def State.recBlk (s : State) (p : Nat) : Nat := p % s.recRing / s.recBs
/-- LBA of the block that a byte offset lies in. -/
def State.recLba (s : State) (p : Nat) : Nat := s.cfg F.REC_RING_START + s.recBlk p

/-- A command to the drive (R477). -/
def State.nvme (s : State) (c : NvmeCmd) : State :=
  (({ s with rec_ := { s.rec_ with flight := s.rec_.flight ++ [c] } }).emit (.nvme c)).tal 23 3 1

/-- The registers that follow the ring's contents (R482, R494). -/
def State.recShow (s : State) : State :=
  let s := s.set F.REC_WRITE_LBA (s.recLba (s.rec_.pos - s.rec_.part.length))
  match s.rec_.recs with
  | [] => s
  | (n, p) :: _ => (s.set F.REC_OLDEST_LBA (s.recLba p)).set F.REC_OLDEST_SEQ n

/-- A Write of whole blocks, from byte offset `p` (R484): records that begin in overwritten blocks are gone (R482). -/
def State.recIssue (s : State) (p : Nat) (bs : List Byte) (fua : Bool) (last : Option Nat) : State :=
  let s := s.nvme (.write (s.recLba p) bs fua last)
  let (kib, part) := carry s.rec_.bytePart bs.length 1024
  let s := { s with rec_ := { s.rec_ with wrote := true, bytePart := part
                                          recs := s.rec_.recs.dropWhile fun r => decide (r.2 + s.recRing < p + bs.length) } }
  s.tal 23 1 kib

/-- Bytes follow those in the ring: whole blocks are written (R484); `last` is the highest `SEQ` before them, `seq` their own. -/
def State.recAppend (s : State) (bs : List Byte) (must : Bool) (last seq : Option Nat) : State :=
  let all := s.rec_.part ++ bs
  let n := all.length / s.recBs * s.recBs
  let start := s.rec_.pos - s.rec_.part.length
  let rest := all.drop n
  let fua := s.rec_.fua || must
  let s := { s with rec_ := { s.rec_ with
    pos := s.rec_.pos + bs.length, part := rest, fua := if rest.isEmpty then false else if n = 0 then fua else must } }
  let s := if n = 0 then s else s.recIssue start (all.take n) fua (if rest.isEmpty then seq else last)
  let s := if s.rec_.pos % s.recRing = 0 then
      (s.put F.REC_STICKY_WRAPPED true).when (!s.on F.REC_CFG_FULL_MODE) fun s => s.raise { src := 896, code := 2 }
    else s
  s.recShow

/-- Kinds of records (R479). -/
def RecKind.start : Nat := 0
def RecKind.data : Nat := 1
def RecKind.pad : Nat := 2
def RecKind.gap : Nat := 3
/-- Header bytes 0x00 to 0x37 (R479). -/
def recHeader (kind flags src seq stamp len chan ticks burgee prev : Nat) : List Byte :=
  leBytes 4 0x31434552 ++ leBytes 1 kind ++ leBytes 1 flags ++ leBytes 2 src ++ leBytes 8 seq ++ leBytes 8 stamp
    ++ leBytes 4 len ++ leBytes 2 chan ++ leBytes 2 ticks ++ leBytes 8 burgee ++ leBytes 8 0 ++ leBytes 8 prev

/-- The check of a record (R375, R480): the value that the reset loads, and the value closed. -/
def State.recCheck (s : State) (hdr : Nat → List Byte) (seq : Nat) (payload : List Byte) : Nat × Nat × State :=
  let n := s.cfg F.REC_CFG_CKU
  let s := s.ckReset n
  let prev := s.ckRun n
  let s := (s.ckFold n seq).ckBytes n ((hdr prev ++ payload).map (·.toNat))
  let v := s.ckFinal n
  (prev, v, ((s.modCku n fun c => { c with chain := some v }).set (F.CK_RESULT n) v).tal 19 0 1)

/-- A PAD fills the ring to its end (R481); its `SEQ` and `STAMP` are free values (log 41). -/
def State.recPad (s : State) : State :=
  let rem := s.recRing - s.rec_.pos % s.recRing
  let (q, s) := s.draw
  let (t, s) := s.draw
  let hdr := (recHeader RecKind.pad 0 0xFFFF q.toNat t.toNat (rem - 64) 0 0 0 0) ++ leBytes 8 0
  s.recAppend (hdr ++ List.replicate (rem - 64) 0) false s.rec_.assigned s.rec_.assigned

/-- Bytes of a record with a payload of `n` bytes, and with the PAD before it where it would not fit (R479, R481). -/
def State.recSize (_s : State) (n : Nat) : Nat := 64 + 64 * ceilDiv n 64
def State.recSpan (s : State) (n : Nat) : Nat :=
  let rem := s.recRing - s.rec_.pos % s.recRing
  s.recSize n + (if rem < s.recSize n then rem else 0)

/-- A record takes its `SEQ` and its place in the ring (R479 to R481); one that would not fit leaves a PAD before it. -/
def State.recPut (s : State) (kind flags src stamp chan ticks : Nat) (payload : List Byte) (must : Bool) : State :=
  let s := if s.recRing - s.rec_.pos % s.recRing < s.recSize payload.length then s.recPad else s
  let seq := s.get F.REC_SEQ_NEXT
  let body := padTo 64 payload
  let hdr := recHeader kind flags src seq stamp payload.length chan ticks s.burgee
  let (prev, v, s) := s.recCheck hdr seq body
  let last := s.rec_.assigned
  let s := s.set F.REC_SEQ_NEXT ((seq + 1) % 2 ^ 64)
  let s := { s with rec_ := { s.rec_ with assigned := some seq, recs := s.rec_.recs ++ [(seq, s.rec_.pos)] } }
  (s.recAppend (hdr prev ++ leBytes 8 v ++ body) must last (some seq)).tal 23 0 1

/-- A START or GAP record: the header's fields that the spec gives no value for them are free values (log 41). -/
def State.recPutOwn (s : State) (kind : Nat) (payload : List Byte) : State :=
  let (t, s) := s.draw
  let (f, s) := s.draw
  s.recPut kind 0 0xFFFF t.toNat (bitsOf f.toNat 0 16) (bitsOf f.toNat 16 16) payload false

/-- The payload of a GAP record (R481). -/
def State.gapBytes (s : State) : List Byte := s.rec_.lost.flatMap fun p => leBytes 8 (p.1 * 2 ^ 48 + p.2 % 2 ^ 48)
/-- A GAP record (R481). -/
def State.recGap (s : State) : State :=
  let bs := s.gapBytes
  { s with rec_ := { s.rec_ with lost := [] } }.recPutOwn RecKind.gap bs

/-- Whether the ring has room for a record of `n` payload bytes (R482): in STOP mode the block of `RELEASE_LBA` and those after
it are not written. A session that has written nothing may write the whole ring (log 42). -/
def State.recRoom (s : State) (n : Nat) : Bool :=
  if !s.on F.REC_CFG_FULL_MODE then true else
  let blocks := s.cfg F.REC_RING_BLOCKS
  let cur := s.recBlk (s.rec_.pos - s.rec_.part.length)
  let rel := s.get F.REC_RELEASE_LBA - s.cfg F.REC_RING_START
  let d := (rel + blocks - cur % blocks) % blocks
  let d := if d = 0 ∧ !s.rec_.wrote then blocks else d
  decide (ceilDiv (s.rec_.part.length + s.recSpan n) s.recBs ≤ d)

/-- Whether the recorder's domain and that of its root port work. -/
def State.recPowered (s : State) : Bool := s.domWorks 151 && s.domWorks 160

/-- Work in placing staged bodies: the bodies left, and whether the ring is full. -/
structure RecWork where
  left : List RecBody := []
  full : Bool := false

/-- One staged body (R484): placed, or left where the ring is full or the tick's share of class B work is used. -/
def recStep (r : State × RecWork) (b : RecBody) : State × RecWork :=
  let (s, w) := r
  let n := b.payload.length
  let size := s.recSize n
  let waits := !b.must && (decide (s.cfg F.REC_B_RATE < s.rec_.bUsed + size) || decide (0 < s.pwr.shortRuns))
  if w.full ∨ waits then (s, { w with left := w.left ++ [b] })
  else
    let s := if s.rec_.lost.isEmpty ∨ !s.recRoom (s.gapBytes.length) then s else s.recGap
    if !s.recRoom n then (s, { left := w.left ++ [b], full := true })
    else
      let s := s.recPut RecKind.data b.flags b.src b.stamp b.chan b.ticks b.payload b.must
      let s := if b.must then s else { s with rec_ := { s.rec_ with bUsed := s.rec_.bUsed + size } }
      (s, w)

/-- The partly filled block is written, with 0 after the last record (R484). -/
def State.recPartial (s : State) : State :=
  if s.rec_.part.isEmpty then s
  else (s.recIssue (s.rec_.pos - s.rec_.part.length) (padTo s.recBs s.rec_.part) s.rec_.fua s.rec_.assigned).recShow
/-- The partly filled block is written and Flush issued. -/
def State.recFlush (s : State) : State :=
  let s := s.recPartial
  ({ s with rec_ := { s.rec_ with since := 0 } }).nvme .flush

/-- The command in execution counts its flushes. -/
def State.busyCount (s : State) (n : Nat) : State :=
  { s with mbox := { s.mbox with busy := s.mbox.busy.map fun b => { b with n := n } } }

/-- A STOPPING recorder with nothing staged writes its last block and flushes, once (R486). -/
def State.recStopStep (s : State) : State :=
  match s.busyOp 0x51 with
  | some b => if s.recState = RecSt.stopping ∧ s.rec_.staged.isEmpty ∧ b.n = 0 then s.recFlush.busyCount 1 else s
  | none => s

/-- Staged records are placed and written, must-record ones first (R484). -/
def State.recWrite (s : State) : State :=
  if (s.recState ≠ RecSt.recording ∧ s.recState ≠ RecSt.stopping) ∨ !s.recPowered then s else
  let must := s.rec_.staged.filter (·.must)
  let others := s.rec_.staged.filter fun b => !b.must
  let (s, w) := (must ++ others).foldl recStep (s, {})
  let s := { s with rec_ := { s.rec_ with staged := w.left } }
  let s := if w.full ∧ s.recState = RecSt.recording then s.recEnter RecSt.full else s
  s.recStopStep

/-- RECORD_WRITE (R484). -/
def execRecordWrite (s : State) : Host.Outcome State Fault Refusal := settle s s.recWrite

/-- REC_FLUSH_PERIOD (R484): `REC_FLUSH_PER` ticks have passed since the last one. -/
def execRecFlushPeriod (s : State) : Host.Outcome State Fault Refusal :=
  settle s (
    if (s.recState = RecSt.recording ∨ s.recState = RecSt.full) ∧ s.recPowered ∧ s.cfg F.REC_FLUSH_PER ≤ s.rec_.since
    then s.recFlush else s)

/-- REC_RESUME (R482): in STOP mode a FULL recorder has room again, and begins with a GAP record. -/
def execRecResume (s : State) : Host.Outcome State Fault Refusal :=
  settle s (
    if s.recState = RecSt.full ∧ s.on F.REC_CFG_FULL_MODE ∧ s.recPowered ∧ s.recRoom s.gapBytes.length
    then (s.recEnter RecSt.recording).recGap else s)

/-! ## The drive (R484, R485) -/

/-- A `SEQ` is durable (R484). -/
def State.recDurable (s : State) (n : Option Nat) : State :=
  match n with
  | none => s
  | some n =>
    let d := match s.rec_.durable with | some d => Nat.max d n | none => n
    ({ s with rec_ := { s.rec_ with durable := some d } }).set F.REC_DURABLE_SEQ d

/-- The drive is lost (R485): commands in flight are abandoned, staged records discarded; a mailbox command that waits for the
drive closes up. -/
def State.recDriveLost (s : State) : State :=
  let st := s.recState
  if st = RecSt.idle ∨ st = RecSt.driveLost then s else
  let s := { s with rec_ := { s.rec_ with flight := [], staged := [], part := [], fua := false } }
  let s := s.recEnter RecSt.driveLost
  if (s.busyOp 0x51).isSome then (s.recEnter RecSt.idle).endBusy Rc.ok []
  else if (s.busyOp 0x50).isSome ∨ (s.busyOp 0x52).isSome ∨ (s.busyOp 0x53).isSome then s.endBusy Rc.refused []
  else s

/-- DRIVE_LOST (R485). -/
def execDriveLost (why : DriveFault) (s : State) : Host.Outcome State Fault Refusal :=
  settle s ((if why = .removed then s.put F.REC_STATUS_DRIVE_PRESENT false else s).recDriveLost)

/-- The START record of a session (R481). -/
def State.recStartRecord (s : State) (prevAssigned prevDurable : Nat) : State :=
  let n := s.cfg F.REC_CFG_CKU
  s.recPutOwn RecKind.start (leBytes 8 s.ts64 ++ leBytes 8 (s.get F.REC_SEQ_NEXT) ++ leBytes 8 prevAssigned
    ++ leBytes 8 prevDurable ++ leBytes 8 (s.cfg (F.CK_INIT n)) ++ List.replicate 24 0)

/-- The drive is ready (R486): the session begins at the position asked for. -/
def State.recBegin (s : State) (blk : Nat) : State :=
  let s := s.put F.REC_STATUS_DRIVE_PRESENT true
  let a := s.rec_.assigned.getD 0
  let d := s.rec_.durable.getD 0
  let s := { s with rec_ := { s.rec_ with
    pos := blk * s.recBs, part := [], fua := false, recs := [], wrote := false, written := none, assigned := none
    durable := none, lost := [], staged := [], since := 0 } }
  ((s.recEnter RecSt.recording).recStartRecord a d).endBusy Rc.ok []

/-- A completed Flush (R484): the writes completed before it are durable; `REC_FLUSH` and `REC_STOP` end with theirs. -/
def State.recFlushed (s : State) : State :=
  let s := s.recDurable s.rec_.written
  match s.busyOp 0x52, s.busyOp 0x51 with
  | some b, _ =>
    let d := s.get F.REC_DURABLE_SEQ
    if b.n ≤ 1 then s.endBusy Rc.ok [d % 2 ^ 32, d / 2 ^ 32] else s.busyCount (b.n - 1)
  | _, some b =>
    if b.n = 1 ∧ s.rec_.flight.isEmpty ∧ s.rec_.staged.isEmpty ∧ s.recState = RecSt.stopping
    then (s.recEnter RecSt.idle).endBusy Rc.ok [] else s
  | _, _ => s

/-- NVME_COMPLETION (R484 to R486): the oldest command in flight completes. -/
def execNvmeCompletion (ok : Bool) (s : State) : Host.Outcome State Fault Refusal :=
  settle s (match s.rec_.flight with
    | [] => s
    | c :: r =>
      let s := { s with rec_ := { s.rec_ with flight := r } }
      let s := if ok then s else s.put F.REC_STICKY_NVME_ERR true
      match c, ok with
      | .init _, true => s.recBegin (match s.busyOp 0x50 with | some b => b.n | none => 0)
      | .init _, false => (s.recEnter RecSt.idle).endBusy Rc.refused []
      | .write lba bs fua last, true =>
        let s := s.wr Sp.nvme (lba * s.recBs) bs
        let s := { s with rec_ := { s.rec_ with written := last.or s.rec_.written } }
        if fua then s.recDurable last else s
      | .flush, true => s.recFlushed
      | .read lba blocks addr, true =>
        (s.wr Sp.sram addr (s.rdBytes Sp.nvme (lba * s.recBs) (blocks * s.recBs))).endBusy Rc.ok []
      | .read _ _ _, false => s.endBusy Rc.refused []
      | .write _ _ _ _, false => s.recDriveLost
      | .flush, false => s.recDriveLost)

/-! ## Commands (R486) -/

/-- Whether the chain check unit suits (R480). -/
def State.recUnitOk (s : State) : Bool :=
  let n := s.cfg F.REC_CFG_CKU
  s.on (F.CK_CFG_ENABLE n) && s.cfg (F.CK_CFG_MODE n) = Mode.recorder && s.cfg (F.CK_CFG_WIDTH n) = 63
    && s.cfg (F.CK_CFG_FOLDW n) = 7 && s.on (F.CK_CFG_CHAIN n)

/-- `REC_START` (R477, R480, R486). -/
def State.recStartBody (s : State) (c : Cmd) : State :=
  let a (i : Nat) : Nat := c.args.getD i 0
  let blk := a 0 + 2 ^ 32 * a 1
  if s.recState ≠ RecSt.idle then s.finish c Rc.refused []
  else if s.cfg F.REC_RING_BLOCKS ≤ blk ∨ 2 ^ 44 < s.recRing ∨ s.cfg F.REC_STAGE_LINES < s.cfg F.REC_RESV_LINES
    ∨ 2 ^ 26 < s.cfg F.REC_STAGE_BASE * 64 + s.cfg F.REC_STAGE_LINES * 64 ∨ !s.recUnitOk ∨ !s.recPowered
  then s.finish c Rc.refused []
  else (((s.begin c).busyCount blk).recEnter RecSt.starting).nvme (.init (s.cfg F.REC_NSID))

/-- REC_START. -/
def execRecStart (s : State) : Host.Outcome State Fault Refusal := settle s (s.runOp 0x50 2 State.recStartBody)

/-- `REC_STOP` (R485, R486): open bodies are dropped as the recorder returns to IDLE. -/
def State.recStopBody (s : State) (c : Cmd) : State :=
  if s.recState = RecSt.idle then s.finish c Rc.refused []
  else if s.recState = RecSt.driveLost then (s.recEnter RecSt.idle).finish c Rc.ok []
  else ((s.begin c).recEnter RecSt.stopping).recStopStep

/-- REC_STOP. -/
def execRecStop (s : State) : Host.Outcome State Fault Refusal := settle s (s.runOp 0x51 0 State.recStopBody)

/-- Whether the recorder records, or is full (R486). -/
def State.recLive (s : State) : Bool := s.recState = RecSt.recording || s.recState = RecSt.full

/-- `REC_FLUSH` (R486). -/
def State.recFlushBody (s : State) (c : Cmd) : State :=
  if !s.recLive then s.finish c Rc.refused []
  else
    let before := (s.rec_.flight.filter (· = .flush)).length
    ((s.begin c).busyCount (before + 1)).nvme .flush

/-- REC_FLUSH. -/
def execRecFlush (s : State) : Host.Outcome State Fault Refusal := settle s (s.runOp 0x52 0 State.recFlushBody)

/-- `REC_READ` (R486). -/
def State.recReadBody (s : State) (c : Cmd) : State :=
  let a (i : Nat) : Nat := c.args.getD i 0
  if !s.recLive then s.finish c Rc.refused []
  else if a 2 < 1 ∨ 256 < a 2 ∨ 2 ^ 26 < a 3 + a 2 * s.recBs then s.finish c Rc.badArg []
  else (s.begin c).nvme (.read (a 0 + 2 ^ 32 * a 1) (a 2) (a 3))

/-- REC_READ. -/
def execRecRead (s : State) : Host.Outcome State Fault Refusal := settle s (s.runOp 0x53 4 State.recReadBody)

/-! ## Tally (R488, R490) -/

/-- The bytes of a snapshot (R488). -/
def State.snapBytes (s : State) : List Byte :=
  let on := sumL ((List.range 24).map fun b => if s.blockPowered b then 2 ^ b else 0)
  leBytes 8 (s.tick * 8192) ++ leBytes 8 s.tally.seq ++ leBytes 4 on ++ List.replicate 44 0
    ++ ((List.range 24).flatMap fun b => (List.range 8).flatMap fun c => leBytes 8 (s.get (F.TAL_CNT b c)))
    ++ List.replicate 448 0

/-- TALLY_SNAPSHOT (R488): at ticks N with N mod `PERIOD` = 0. -/
def execTallySnapshot (s : State) : Host.Outcome State Fault Refusal :=
  settle s (
    if !s.on F.TAL_CTRL_ENABLE ∨ s.tick % s.cfg F.TAL_CTRL_PERIOD ≠ 0 then s else
    let n := s.cfg F.TAL_RING_SLOTS
    let tail := s.get F.TAL_RING_TAIL
    let host := s.on F.TAL_CTRL_WHERE
    if ringFull n (s.get F.TAL_RING_HEAD) tail ∨ (host ∧ !s.linkUp) then
      ((s.put F.TAL_STICKY_SNAP_LOST true).tal 5 1 1).raise { src := 965 }
    else
      let s := s.wr (if host then Sp.host else Sp.sram) (s.cfg F.TAL_RING_BASE * 2048 + 2048 * tail) s.snapBytes
      let s := { s with tally := { s.tally with seq := (s.tally.seq + 1) % 2 ^ 64 } }
      (s.set F.TAL_RING_TAIL ((tail + 1) % 2 ^ n)).tal 5 0 1)

/-- `TAG_EN` is set (R490): the LFSRs of the selected engines start from their seeds. -/
def State.tagStarted (s : State) : State :=
  let es := (List.range 96).filter fun e => bitOf (s.get (F.TAL_TAG_ENG (e / 32))) (e % 32)
  { s with tally := { s.tally with lfsr := es.map fun e => (e, s.cfg (F.TAL_TAG_SEED e)) } }
/-- `TAG_EN` is cleared. -/
def State.tagStopped (s : State) : State := { s with tally := { s.tally with lfsr := [] } }

end Sys2Proof.Machine
end

