-- ==== Sys2Proof/Machine/Registers.lean ====
section
/-! DEFINITION. Register accesses (R128 to R146): where an address leads, which accesses are accepted, the field types and
aliases, the commit classes, what the blocks' own rules refuse, what a write does beside storing; commits; the scrubber; the
central SRAM window; the journal's part (R418, R420). -/

namespace Sys2Proof.Machine

/-! ## Addresses (R129 to R131, R137, R360, R473) -/

/-- Where an access to BAR0 leads: a register's key, a register window's offset that no register has, the MSI-X table and
pending bits at an offset, central SRAM at an offset, nowhere. -/
inductive Target where
  | reg (key : Nat)
  | hole
  | msix (off : Nat)
  | sram (off : Nat)
  | unmapped

/-- Whether a 1 MB window belongs to a block (R129). -/
def isWindow (m : Nat) : Bool := m < 7 || (0x10 ≤ m && m < 0x18) || (0x20 ≤ m && m < 0x23) || (0x30 ≤ m && m < 0x36)
/-- The alias that an address names (R137): 0 plain, 1 set, 2 clear, 3 toggle. -/
def aliasOf (a : Nat) : Nat := a / 0x40000 % 4
/-- The key of a register address: a window register of `QUE` is that of the queue selected (R360). -/
def State.keyOf (s : State) (a : Nat) : Nat :=
  let off := a % 0x40000
  if a / 0x100000 = 0x30 ∧ 0x400 ≤ off ∧ off < 0x440 then queKey (s.get F.QUE_SEL_QUEUE) (off - 0x400)
  else a / 0x100000 * 0x100000 + off
/-- Where an address leads; `a` is taken to its 32-bit word. -/
def State.target (s : State) (a : Nat) : Target :=
  if 0x4000000 ≤ a then (if a < 0x7C00000 then .sram (a - 0x4000000) else .unmapped)
  else if !isWindow (a / 0x100000) then .unmapped
  else
    let off := a % 0x40000
    if a / 0x100000 = 4 ∧ 0x20000 ≤ off ∧ off < 0x21020 then .msix (off - 0x20000)
    else
      let k := s.keyOf (a / 4 * 4)
      if (rowOf k).isSome then .reg k else .hole

/-- Index of a key in an indexed family of registers. -/
def regIx (base stride count key : Nat) : Option Nat :=
  if base ≤ key ∧ (key - base) % stride = 0 ∧ (key - base) / stride < count then some ((key - base) / stride) else none

/-! ## What a write stores (R135 to R139) -/

/-- The bits of a value at a field's place. -/
def atField (lo w v : Nat) : Nat := bitsOf v lo w * 2 ^ lo
/-- Whether a W1S field is stored rather than self-clearing: the armed bits of R473 and the FTC enable of R57. -/
def stored1 (key lo : Nat) : Bool := (R.EVT_ARM 0 ≤ key && key ≤ R.EVT_ARM 7) || (key = R.CLK_FTC_CTRL && lo = 0)
/-- A field's value after a write of `x` through an alias (R136, R137). -/
def newField (ty : FTy) (al : Nat) (keep : Bool) (cur x : Nat) : Nat :=
  match ty with
  | .rw | .cnt => if al = 0 then x else if al = 1 then cur ||| x else if al = 2 then cur - (cur &&& x) else cur ^^^ x
  | .w1c => if al = 0 ∨ al = 2 then cur - (cur &&& x) else cur
  | .w1s => if keep ∧ al ≤ 1 then cur ||| x else cur
  | .ro | .wo => cur

/-- What a write to a register would do: the word stored, the command bits that act, the W1C bits that software clears, whether
an H field would change, whether a value is not listed in its field's table (R13). -/
structure Judged where
  new : Nat
  act : Nat
  clr : Nat
  hChange : Bool
  odd : Bool

/-- One field's part of a write. -/
def judgeField (key wi al old v : Nat) (j : Judged) (f : FieldRow) : Judged :=
  match f.slice wi with
  | none => j
  | some (lo, w, _) =>
    let cur := bitsOf old lo w
    let x := bitsOf v lo w
    let n := newField f.ty al (stored1 key lo) cur x
    { new := putBits j.new lo w n
      act := if (f.ty = .w1s ∨ f.ty = .wo) ∧ al ≤ 1 then j.act ||| atField lo w v else j.act
      clr := if f.ty = .w1c ∧ (al = 0 ∨ al = 2) then j.clr ||| atField lo w v else j.clr
      hChange := j.hChange || (f.cls = .H && n ≠ cur)
      odd := j.odd || (f.ty = .rw && (al = 0 || x ≠ 0) && !legalIn f.legal n) }
/-- A write judged on the stored word. -/
def judge (row : RegRow) (key wi al old v : Nat) : Judged :=
  row.fields.foldl (judgeField key wi al old v) { new := old, act := 0, clr := 0, hChange := false, odd := false }

/-! ## Halt conditions (R129, R139) -/

/-- Whether all the lanes of a quad are disabled (R277). -/
def State.quadIdle (s : State) (q : Nat) : Bool := (List.range 4).all fun i => !s.bit (F.LIN_LANE_CFG_ENABLE (4 * q + i))

/-- Whether the halt condition of a register's H fields holds. -/
def State.halted (s : State) (key : Nat) : Bool :=
  let off := offOf key
  match blockOf key with
  | 1 => !s.bit F.CLK_FTC_CTRL_ENABLE
  | 2 => !s.bit F.PWR_STATUS_PENNANT && !s.bit F.PWR_STATUS_PENNANT_PENDING
  | 4 => !s.bit F.EVT_CTRL_ENABLE
  | 5 => !s.bit F.TAL_CTRL_ENABLE && !s.bit F.TAL_TAG_CFG_TAG_EN
  | 15 =>
    if off < 0x1000 then s.quadIdle ((off - 0x100) / 0x10)
    else if off < 0x2000 then !s.bit (F.LIN_LANE_CFG_ENABLE ((off - 0x1000) / 0x40))
    else if off < 0x4000 then !s.bit (F.LIN_BUND_CFG_ENABLE ((off - 0x2000) / 0x40))
    else if off < 0x6000 then !s.bit (F.LIN_BTRIB_EN ((off - 0x4000) / 0x200) ((off - 0x4000) % 0x200 / 4))
    else if off < 0x8000 then !s.bit (F.LIN_DP_CFG_ENABLE ((off - 0x6000) / 0x40))
    else if off < 0x8100 then (List.range 64).all fun k => !s.bit (F.LIN_DISC_CTRL_EN k)
    else !s.bit (F.LIN_DISC_CTRL_EN ((off - 0x8100) / 0x20))
  | 16 => !s.bit F.DEF_CTRL_ENABLE
  | 17 => !s.bit F.MAP_CTRL_ENABLE
  | 18 => if queKeyBase ≤ key then !s.bit (F.QUE_W_CFG_ENABLE ((key - queKeyBase) / 0x40)) else s.get F.QUE_ENABLED = 0
  | 19 => !s.bit (F.CK_CFG_ENABLE ((off - 0x1000) / 0x100))
  | 20 => if off < 0x3000 then !s.bit (F.VOX_VP_CFG_ENABLE ((off - 0x1000) / 0x40)) else !s.bit (F.VOX_VB_CFG_EN ((off - 0x3000) / 0x10))
  | 21 =>
    if 0x10000 ≤ off then !s.bit (F.PRT_SEL_CFG_ENABLE ((off - 0x10000) / 0x20))
    else if off < 0x100 then s.sels.isEmpty else s.pairState = PairSt.off
  | 22 =>
    if 0x100 ≤ off ∧ off < 0x180 then !s.bit (F.HAL_H_CFG_ENABLE ((off - 0x100) / 0x40))
    else !s.bit (F.HAL_H_CFG_ENABLE 0) && !s.bit (F.HAL_H_CFG_ENABLE 1)
  | 23 => if 0x1000 ≤ off then !s.bit (F.REC_SRC_CFG_EN ((off - 0x1000) / 0x10)) else s.recState = RecSt.idle
  | b =>
    if 7 ≤ b ∧ b < 15 then
      if b = 7 ∧ (off = 0x3000 ∨ off = 0x3008 ∨ off = 0x300C) then s.tilesOff else !s.bit (F.TILE_CTRL_ENABLE (b - 7))
    else true

/-! ## What a block's own rules refuse (R146) -/

/-- Whether a one-bit field goes from 0 to 1, or from 1 to 0, between two states. -/
def rises (s t : State) (f : Fld) : Bool := !s.bit f && t.bit f
def falls (s t : State) (f : Fld) : Bool := s.bit f && !t.bit f

/-- Whether a port enable breaks R439. -/
def State.halPortRefused (s : State) (p : Nat) : Bool :=
  s.bit (F.HAL_H_CFG_PAIR p) && (p = 1 || (s.get F.HAL_CFG_HIER_PORT = p && s.get F.HAL_CFG_ROLE ≠ 0))

/-- Whether a write is refused by a rule of its block: `s` before it, `t` with the word stored, `act` the command bits. -/
def State.refusedWrite (s t : State) (key act : Nat) : Bool :=
  match blockOf key with
  | 0 => key = R.SUP_FAULT_CTRL && bitOf act 0
      && (!s.linkUp || (s.bit F.SUP_FAULT_STATUS_CHT_FROZEN && s.cfg F.CHT_CFG_WHERE ≠ 2))
  | 1 =>
    if key = R.CLK_DOMSW_CTRL then bitOf act 8 && t.domReject (t.listed F.CLK_DOMSW_CTRL_DOMAIN) (t.listed F.CLK_DOMSW_CTRL_SOURCE)
    else match (regIx (R.CLK_FM_CTRL 0) 0x20 32 key).or (regIx (R.CLK_FM_GATE 0) 0x20 32 key) with
      | some n => s.bit (F.CLK_FM_CTRL_VOX_OWNED n)
      | none => false
  | 2 => key = R.PWR_KEEPER_SET && t.keeperReject (t.get F.PWR_KEEPER_SET)
  | 4 => key = R.EVT_CTRL && t.bit F.EVT_CTRL_ENABLE && t.evtEnableRefused
  | 15 =>
    match regIx (R.LIN_LANE_CFG 0) 0x40 16 key with
    | some l => (rises s t (F.LIN_LANE_CFG_ENABLE l) && t.laneRefused l) || (t.bit (F.LIN_LANE_CFG_TX_EN l) && t.laneTxRefused l)
    | none => false
  | 18 =>
    if key < queKeyBase ∨ (key - queKeyBase) % 0x40 ≠ 0 then false else
    let q := (key - queKeyBase) / 0x40
    (rises s t (F.QUE_W_CFG_ENABLE q) && t.queEnableRefused q) || (falls s t (F.QUE_W_CFG_ENABLE q) && s.queDisableRefused q)
  | 19 =>
    match regIx (R.CK_CFG 0) 0x100 256 key, regIx (R.CK_SWAP_CTRL 0) 0x100 256 key with
    | some n, _ => (rises s t (F.CK_CFG_ENABLE n) && t.ckEnableRefused n) || (falls s t (F.CK_CFG_ENABLE n) && s.ckDisableRefused n)
    | _, some n => bitOf act 0 && s.cfg (F.CK_CFG_MODE n) = Mode.recorder
    | _, _ => false
  | 20 =>
    match regIx (R.VOX_VP_CFG 0) 0x40 16 key with
    | some n => rises s t (F.VOX_VP_CFG_ENABLE n) && t.vpEnableRefused n
    | none => false
  | 21 =>
    match regIx (R.PRT_SEL_CFG 0) 0x20 4096 key with
    | some n => (rises s t (F.PRT_SEL_CFG_ENABLE n) && t.selEnableRefused n) || (falls s t (F.PRT_SEL_CFG_ENABLE n) && s.selDisableRefused n)
    | none => false
  | 22 =>
    match regIx (R.HAL_H_CFG 0) 0x40 2 key with
    | some p => rises s t (F.HAL_H_CFG_ENABLE p) && t.halPortRefused p
    | none => false
  | 23 =>
    match regIx (R.REC_SRC_CFG 0) 0x10 512 key with
    | some k => rises s t (F.REC_SRC_CFG_EN k) && t.recSrcRefused k
    | none => false
  | b => 7 ≤ b && b < 15 && key = R.TILE_CTRL (b - 7) && falls s t (F.TILE_CTRL_ENABLE (b - 7))
      && s.hoists.any fun h => h.num / 192 = b - 7 || h.at_ / 192 = b - 7

/-! ## What follows a stored configuration -/

/-- A block follows a changed configuration register (R139): `s` before the write, `t` with the word stored. -/
def State.follow (s t : State) (key : Nat) : State :=
  match blockOf key with
  | 2 =>
    match regIx (R.PWR_DOM_CTRL 0) 4 162 key with
    | some n => if t.bit (F.PWR_DOM_CTRL_ON n) then t.showKeep.domUp n else t.showKeep.domDown n
    | none => t
  | 4 =>
    if key ≠ R.EVT_CTRL then t
    else if rises s t F.EVT_CTRL_ENABLE then t.evtStarted else if falls s t F.EVT_CTRL_ENABLE then t.evtStopped else t
  | 5 =>
    if key ≠ R.TAL_TAG_CFG then t
    else if rises s t F.TAL_TAG_CFG_TAG_EN then t.tagStarted else if falls s t F.TAL_TAG_CFG_TAG_EN then t.tagStopped else t
  | 15 =>
    match regIx (R.LIN_LANE_CFG 0) 0x40 16 key, regIx (R.LIN_BUND_CFG 0) 0x40 8 key, regIx (R.LIN_DP_CFG 0) 0x40 32 key with
    | some l, _, _ =>
      if rises s t (F.LIN_LANE_CFG_ENABLE l) then t.laneEnabled l
      else if falls s t (F.LIN_LANE_CFG_ENABLE l) then t.laneDisabled l else t
    | _, some b, _ =>
      if rises s t (F.LIN_BUND_CFG_ENABLE b) then t.srcStart (srcMgmt b)
      else if falls s t (F.LIN_BUND_CFG_ENABLE b) then t.bundStop b else t
    | _, _, some d => if s.bit (F.LIN_DP_CFG_ENABLE d) ≠ t.bit (F.LIN_DP_CFG_ENABLE d) then t.dpStart d else t
    | _, _, _ =>
      let off := offOf key
      if 0x4000 ≤ off ∧ off < 0x5000 then
        let b := (off - 0x4000) / 0x200
        let n := (off - 0x4000) % 0x200 / 4
        if rises s t (F.LIN_BTRIB_EN b n) then t.srcStart (srcTrib b n) else t
      else t
  | 18 =>
    if key < queKeyBase ∨ queKeyBase + 32768 * 0x40 ≤ key then t else
    let q := (key - queKeyBase) / 0x40
    if rises s t (F.QUE_W_CFG_ENABLE q) then t.queEnabled q
    else if falls s t (F.QUE_W_CFG_ENABLE q) then t.queDisabled q
    else if key = R.QUE_W_WM_HI q ∨ key = R.QUE_W_WM_LO q then t.showQueue q else t
  | 19 =>
    match regIx (R.CK_CFG 0) 0x100 256 key with
    | some n =>
      if rises s t (F.CK_CFG_ENABLE n) then t.ckEnabled n else if falls s t (F.CK_CFG_ENABLE n) then t.ckDisabled n else t
    | none => t
  | 20 =>
    match regIx (R.VOX_VP_CFG 0) 0x40 16 key with
    | some n =>
      if rises s t (F.VOX_VP_CFG_ENABLE n) then t.vpStart n
      else if falls s t (F.VOX_VP_CFG_ENABLE n) ∧ t.vpState n ≠ VpSt.off then t.vpStop n else t
    | none => t
  | 21 =>
    match regIx (R.PRT_SEL_CFG 0) 0x20 4096 key with
    | some n =>
      if rises s t (F.PRT_SEL_CFG_ENABLE n) then t.selEnabled n else if falls s t (F.PRT_SEL_CFG_ENABLE n) then t.selDisabled n else t
    | none => t
  | 23 =>
    match regIx (R.REC_SRC_CFG 0) 0x10 512 key with
    | some k => if falls s t (F.REC_SRC_CFG_EN k) then t.recSrcStopped k else t
    | none => t
  | b => if 7 ≤ b ∧ b < 15 ∧ key = R.TILE_CTRL (b - 7) then t.bootShow else t

/-! ## Commits (R140) -/

/-- Whether a register has F fields. -/
def hasFrame (key : Nat) : Bool := match rowOf key with | some (r, _) => r.fields.any fun f => f.cls = .F | none => false
/-- The F shadows of a block are copied into the in-force copies, and the block follows (R140, R62, R315, R396). -/
def State.commitNow (s : State) (b : Nat) : State :=
  let keys := ((s.regs.vals.map (·.1)) ++ s.regs.live.map (·.1)).filter fun k => blockOf k = b && hasFrame k
  let t := s.each keys.eraseDups fun s k => s.setLive k (s.word k)
  if b = 1 then t.clkCommitted s
  else if b = 20 then t.voxCommitted s
  else if b = 17 then
    let bad := (List.range 1024).any fun x => bitOf (t.liveWord (R.MAP_XC x)) 0 && !(t.xcValid (x / 64)).contains x
    if bad then t.put F.MAP_STICKY_XC_INVALID true else t
  else t
/-- `GO` of a block's commit register (R140): armed for the next tick boundary; with the tick generator off, at once. -/
def State.commitArm (s : State) (b : Nat) : State :=
  if s.ftcState = Ftc.disabled then s.commitNow b
  else { s with regs := { s.regs with armed := b :: s.regs.armed.filter (· ≠ b) } }
/-- The block whose commit register a key is. -/
def commitOf (key : Nat) : Option Nat :=
  if key = R.CLK_FTC_COMMIT then some 1 else if key = R.PWR_COMMIT then some 2 else if key = R.LIN_COMMIT then some 15
  else if key = R.DEF_COMMIT then some 16 else if key = R.MAP_COMMIT then some 17 else if key = R.QUE_COMMIT then some 18
  else if key = R.VOX_COMMIT then some 20 else if key = R.PRT_COMMIT then some 21 else if key = R.HAL_COMMIT then some 22
  else (regIx (R.TILE_COMMIT 0) 0x100000 8 key).map (· + 7)

/-! ## What command bits and cleared bits do -/

/-- `BUS_PAR_STATUS.PENDING` is cleared (R144): the freezes end, and the blocks follow the registers written meanwhile. -/
def State.parityCleared (s : State) : State :=
  let held := s.regs.held
  let s := (s.set F.BUS_PAR_STATUS_FIRST_BLOCK 0).set F.BUS_PAR_STATUS_COUNT 0
  let s := ((s.set F.BUS_PAR_HOLD 0).set F.QUE_PAR_QUEUE_QUEUE 0).put F.QUE_PAR_QUEUE_VALID false
  let s := { s with regs := { s.regs with held := [], reported := [] } }
  let s := s.causeClears Cause.parity
  s.each held fun s h =>
    let keys := (h.vals.map (·.1) ++ (s.regs.vals.map (·.1)).filter fun k => blockOf k = h.blk).eraseDups
    s.each keys fun s k =>
      let was := Sparse.get (BitVec.ofNat 32 (resetWord k)) h.vals k
      if was.toNat = s.word k then s else (s.setWord k was.toNat).follow s k

/-- A hoist bitmap bit has been cleared: the summary bit follows (R183, R476). -/
def State.hsumFollow (s : State) (h : Nat) : State :=
  if s.get (F.TILE_HBM (h / 192) (h % 192)) ≠ 0 then s
  else
    let f := F.EVT_HSUM (h / 32)
    s.set f (putBits (s.get f) (h % 32) 1 0)

/-- Clearing a thread's fault `PENDING` clears the fault's other fields (R218). -/
def State.faultCleared (s : State) (t k : Nat) : State :=
  ((((s.set (F.TILE_FAULT_CODE t k) 0).set (F.TILE_FAULT_HX t k) 0).set (F.TILE_FAULT_COUNT t k) 0).set (F.TILE_FAULT_PC_PC t k) 0).set (F.TILE_FAULT_TICK_TICK t k) 0

/-- The set bits of a 32-bit word. -/
def bits32 (v : Nat) : List Nat := (List.range 32).filter (bitOf v)

/-- What a write does by its command bits `act` and the W1C bits `clr` that it clears; `first` is the state before the write. -/
def State.acts (s first : State) (key act clr : Nat) : State :=
  match commitOf key with
  | some b => if bitOf act 0 then s.commitArm b else s
  | none =>
  match blockOf key with
  | 0 => if key = R.SUP_FAULT_CTRL ∧ bitOf act 0 then { s with boot := { s.boot with resume := true } } else s
  | 1 =>
    if key = R.CLK_DOMSW_CTRL then
      (if bitOf act 8 then s.domRequest (s.listed F.CLK_DOMSW_CTRL_DOMAIN) (s.listed F.CLK_DOMSW_CTRL_SOURCE) else s)
    else if key = R.CLK_FTC_CTRL then (if bitOf act 0 ∧ !first.bit F.CLK_FTC_CTRL_ENABLE then s.ftcStart.startStreamGates else s)
    else if key = R.CLK_FTC_SNAP then (if bitOf act 0 then s.clkSnap else s)
    else match regIx (R.CLK_FM_CTRL 0) 0x20 32 key with
      | some n => if bitOf act 16 then s.meterStart n else s
      | none => s
  | 2 =>
    if key = R.PWR_FEED_CTRL then s.feedRetryWrite act
    else if key = R.PWR_PENNANT_CTRL then s.pennantCtrlWrite act
    else if key = R.PWR_RETIRE ∧ bitOf act 8 then s.retireRequest else s
  | 3 => if key = R.BUS_PAR_STATUS ∧ bitOf clr 0 then s.parityCleared else s
  | 6 => if key = R.CAL_CTRL then s.calCtrlWrite act else s
  | 15 =>
    match regIx (R.LIN_DISC_CTRL 0) 0x20 64 key with
    | some k => if bitOf act 1 then s.discCleared k else s
    | none => s
  | 18 =>
    if queKeyBase ≤ key then
      let q := (key - queKeyBase) / 0x40
      if key = R.QUE_W_CTRL q then (if bitOf act 0 then s.flushRequest q else s)
      else if key = R.QUE_W_STICKY q then
        (s.when (bitOf clr 0) fun s => s.setOverrun q false).wmClear q (bitOf clr 1) (bitOf clr 2)
      else s
    else match regIx (R.QUE_OVERRUN 0) 4 1024 key, regIx (R.QUE_WM 0) 4 1024 key with
      | some k, _ => s.each (bits32 clr) fun s j => s.setOverrun (32 * k + j) false
      | _, some k => s.each (bits32 clr) fun s j => s.wmClear (32 * k + j) true true
      | _, _ => s
  | 19 =>
    match regIx (R.CK_SWAP_CTRL 0) 0x100 256 key with
    | some n => if bitOf act 0 then s.ckSwap n else s
    | none => s
  | 20 =>
    match regIx (R.VOX_VP_CTRL 0) 0x40 16 key with
    | some n => s.vpCtrlWrite n act
    | none => s
  | 22 =>
    if key = R.HAL_CTRL then
      (if bitOf act 0 then s.halEnter HalSt.unbound else s)
    else if key = R.HAL_QUAR_STATUS then
      let s := if bitOf clr 0 then s.quarLift .host else s
      if bitOf clr 1 then s.quarLift .manager else s
    else if key = R.HAL_QUAR_DISC ∨ key = R.HAL_QUAR_DISC + 4 then
      s.each (bits32 clr) fun s j => s.quarLift (.line (Fin.ofNat 64 (j + (key - R.HAL_QUAR_DISC) * 8)))
    else match regIx (R.HAL_QUAR_MEM 0) 4 4 key with
      | some k => s.each (bits32 clr) fun s j => s.quarLift (.member (Fin.ofNat 128 (32 * k + j)))
      | none => s
  | b =>
    if 7 ≤ b ∧ b < 15 then
      let off := offOf key
      if b = 7 ∧ key = R.CTX_RD_SEL then (if bitOf act 31 then s.ctxSnapshot (s.get F.CTX_RD_SEL_CHAN) else s)
      else if bitOf clr 10 ∧ (regIx (R.TILE_FAULT (b - 7) 0) 0x10 192 key).isSome then
        s.faultCleared (b - 7) ((key - R.TILE_FAULT (b - 7) 0) / 0x10)
      else if 0x1000 ≤ off ∧ off < 0x1600 ∧ clr ≠ 0 then s.hsumFollow (192 * (b - 7) + (off - 0x1000) / 8)
      else s
    else s

/-! ## One write -/

/-- A write to half `hi` of a unit's running value (R376). -/
def State.runWrite (s : State) (addr master n : Nat) (hi : Bool) (al v : Nat) : Bool × State :=
  if s.ckRunRefused n then (false, (s.logAccess addr master Kind.refused true 15).put (F.CK_STICKY_RUN_REFUSED n) true)
  else
    let x := newField .rw al false (bitsOf (s.ckRun n) (if hi then 32 else 0) 32) v
    (true, if hi then s.ckRunHi n x else s.ckRunLo n x)

/-- A write of 32 bits to a register, through an alias (R136 to R139): the answer says whether it was accepted. -/
def State.writeReg (s : State) (addr master al key v : Nat) : Bool × State :=
  let refuse (kind : Nat) : Bool × State := (false, s.logAccess addr master kind true 15)
  match rowOf key with
  | none => refuse Kind.unmapped
  | some (row, wi) =>
    let slot := (key - 0x1000) / 0x40
    let inBox := blockOf key = 0 && 0x1000 ≤ key && key < 0x1400
    let off := offOf key
    if inBox ∧ off % 0x40 ≠ 4 ∧ s.slotState slot ≠ 0 ∧ (off % 0x40 = 0 ∨ 0x10 ≤ off % 0x40) then
      (false, s.mboxRefuse addr master (s.get (F.SUP_MBOX_CMD_OPCODE slot)))
    else if inBox ∧ off % 0x40 = 4 then (true, s.mboxCtrl addr master slot (if al ≤ 1 then v % 4 else 0))
    else match regIx (R.CK_RUN 0) 0x100 256 key, regIx (R.CK_RUN 0 + 4) 0x100 256 key with
    | some n, _ => s.runWrite addr master n false al v
    | _, some n => s.runWrite addr master n true al v
    | _, _ =>
      let j := judge row key wi al (s.word key) v
      if j.hChange ∧ !s.halted key then refuse Kind.hWhileEnabled
      else
        let t := s.setWord key j.new
        if s.refusedWrite t key j.act then
          let (_, u) := refuse Kind.refused
          (false, if key = R.CLK_DOMSW_CTRL then u.put F.CLK_DOMSW_STATUS_REJECTED true else u)
        else
          let t := if key = R.CAL_CTRL then t else { t with pwr := { t.pwr with keyArmed := false } }
          let t := if (s.heldOf key).isSome then t else s.follow t key
          let t := if j.odd then t.logAccess addr master Kind.reservedValue true 15 else t
          let u := t.acts s key j.act j.clr
          let svcRefused := blockOf key = 20 && (regIx (R.VOX_VP_CTRL 0) 0x40 16 key).any fun n =>
            bitOf j.act 0 && !(match u.vp n with | some p => p.svc | none => false)
          (true, if svcRefused then u.logAccess addr master Kind.refused true 15 else u)

/-! ## The journal's part (R418, R420, R449) -/

/-- Whether a register has a field that a journaled write can change: not all RO or W1C (R418). -/
def writable (key : Nat) : Bool :=
  match rowOf key with
  | some (r, _) => r.fields.any fun f => !(f.ty = .ro || f.ty = .w1c)
  | none => false
/-- The registers whose writes R418 journals. -/
def journaled (key : Nat) : Bool :=
  let b := blockOf key
  let off := offOf key
  writable key &&
    (if b = 1 then off = 0x100 || off = 0x104 || off = 0x108 || off = 0x10C || (0x150 ≤ off && off < 0x164)
    else if b = 2 then off = 0x08 || off = 0x10 || off = 0x30 || off = 0x38 || off = 0x3C || (0x100 ≤ off && off < 0x400)
    else if b = 21 then off < 0x100 || 0x400 ≤ off
    else 7 ≤ b && b ≤ 20)

/-- A write to a register address that counts as a host write (R418, R420, R449, R451): refused on a standby, and to the local
host where the manager alone configures; journaled where a standby takes the journal; else judged at once. The answer says
whether it was accepted. -/
def State.hostWrite (s : State) (addr master v : Nat) : Bool × State :=
  let key := s.keyOf addr
  let only := master = 0 && s.halState = HalSt.member && s.bit F.HAL_CTRL_LOCAL_LOCK
  if !journaled key then s.writeReg addr master (aliasOf addr) key v
  else if !s.pairSpeaks ∨ only then (false, s.logAccess addr master Kind.refused true 15)
  else
    let (ok, t) := if s.journaling
      then (true, s.journalPut (.reg (BitVec.ofNat 27 addr) (BitVec.ofNat 32 v) (s.tick + s.cfg F.PRT_PAIR_CFG_JLAG)))
      else s.writeReg addr master (aliasOf addr) key v
    (ok, if ok ∧ master = 0 ∧ s.halState = HalSt.orphan then t.inc F.HAL_STATE_CONFIG_GEN 1 else t)

/-- A 32-bit write to a register address by a master (R151): the host's, the start script's (R506) and the halyard block's
count as host writes. -/
def State.masterWrite (s : State) (addr master v : Nat) : Bool × State :=
  if master = 0 ∨ master = 10 ∨ master = 11 then s.hostWrite addr master v
  else s.writeReg addr master (aliasOf addr) (s.keyOf addr) v

/-! ## The central SRAM window (R130) -/

/-- The central SRAM bank that an offset lies in. -/
def bankOf (off : Nat) : Nat := off / 0x3C0000
/-- Whether bytes from `off` touch the middle of a queue that lies in central SRAM. -/
def State.sramLocked (s : State) (off n : Nat) : Bool :=
  s.queues.any fun e =>
    let a := s.cfg F.QUE_MID_BASE * 64 + s.cfg (F.QUE_W_MIDBASE e.num) * 64
    let z := a + s.cfg (F.QUE_W_MIDSIZE e.num) * 64
    !s.on (F.QUE_W_CFG_SPILL e.num) && decide (a < off + n ∧ off < z)
/-- Why an access to bytes of central SRAM is rejected, if it is. -/
def State.sramKind (s : State) (off n : Nat) (write : Bool) : Option Nat :=
  if 0x3C00000 < off + n then some Kind.unmapped
  else if !s.domWorks (112 + bankOf off) || !s.domWorks (112 + bankOf (off + (n - 1))) then some Kind.bankOff
  else if write && s.sramLocked off n then some Kind.windowLocked
  else none
/-- A write of the enabled bytes, or a read, in the window. -/
def State.sramAccess (s : State) (off master : Nat) (write : Bool) (bs : List (Option Byte)) : State :=
  match s.sramKind off bs.length write with
  | some k =>
    let be := sumL ((List.range 4).map fun i =>
      if off % 4 ≤ i ∧ (!write ∨ ((bs.getD (i - off % 4) none).isSome)) ∧ i - off % 4 < bs.length then 2 ^ i else 0)
    s.logAccess (0x4000000 + off) master k write be
  | none =>
    if !write then s else
    s.each bs.zipIdx fun s p => match p.1 with
      | some b => s.wr Sp.sram (off + p.2) [b]
      | none => s

/-! ## Accesses by their form (R131 to R133, R473) -/

/-- The byte enables that an access of a length has at an address (R132). -/
def beFor (addr bytes : Nat) : Nat := if bytes = 1 then 2 ^ (addr % 4) else if bytes = 2 then 3 * 2 ^ (addr % 4) else 15

/-- Why a read of register space is rejected, if it is; `pair` says whether the address starts a 64-bit pair. -/
def readKind (addr bytes be : Nat) (pair : Bool) : Option Nat :=
  if 4 < bytes then (if bytes = 8 ∧ pair then (if addr % 8 = 0 then none else some Kind.unaligned) else some Kind.wrongLength)
  else if addr % 4 % bytes ≠ 0 ∨ bytes = 0 ∨ bytes = 3 ∨ be ≠ beFor addr bytes then some Kind.unaligned
  else none
/-- Why a write of register space is rejected, if it is. -/
def writeKind (addr bytes be : Nat) : Option Nat :=
  if 4 < bytes then some Kind.wrongLength
  else if bytes < 4 ∨ (be ≠ 15 ∧ addr % 4 = 0) then some Kind.narrowWrite
  else if addr % 4 ≠ 0 then some Kind.unaligned
  else none

/-- The MSI-X table and its pending bits (R473): aligned accesses of 32 and 64 bits; the pending bits are read-only (PRESUMED,
log 50). A vector whose mask is cleared sends its pending message. -/
def State.msixAccess (s : State) (a : Access) (off : Nat) : State :=
  let n := a.bytes
  if (n ≠ 4 ∧ n ≠ 8) ∨ off % n ≠ 0 ∨ a.be ≠ 15 then
    s.logAccess a.addr.toNat a.master.val (if n < 4 ∧ a.write then Kind.narrowWrite else if n = 4 ∨ n = 8 then Kind.unaligned
      else Kind.wrongLength) a.write a.be.toNat
  else if !a.write ∨ 0x1000 ≤ off then s
  else
    let v := off / 16
    let masked := bitOf (s.rd Sp.msix (16 * v + 12)).toNat 0
    let s := s.wrLE Sp.msix off n (a.value.toNat % 2 ^ (8 * n))
    let now := bitOf (s.rd Sp.msix (16 * v + 12)).toNat 0
    if masked ∧ !now then s.msixSend v else s

/-- An access to BAR0 (R131 to R133): reads change nothing (R134) but for the log of a rejected one. -/
def State.access (s : State) (a : Access) : State :=
  let addr := a.addr.toNat
  let log (kind : Nat) : State := s.logAccess addr a.master.val kind a.write a.be.toNat
  match s.target addr with
  | .unmapped => log Kind.unmapped
  | .sram off =>
    let o := off / 4 * 4
    s.sramAccess (if a.bytes ≤ 4 then o else off) a.master.val a.write ((List.range (if a.bytes ≤ 4 then 4 else a.bytes)).map fun i =>
      if a.bytes ≤ 4 ∧ !bitOf a.be.toNat i then none else some (BitVec.ofNat 8 (a.value.toNat / 2 ^ (8 * i))))
  | .msix off => s.msixAccess a off
  | .hole =>
    match (if a.write then writeKind addr a.bytes a.be.toNat else readKind addr a.bytes a.be.toNat false), a.write with
    | some k, _ => log k
    | none, true => log Kind.unmapped
    | none, false => s
  | .reg key =>
    let pair := match rowOf key with | some (r, w) => r.pair && w = 0 | none => false
    match (if a.write then writeKind addr a.bytes a.be.toNat else readKind addr a.bytes a.be.toNat pair), a.write with
    | some k, _ => log k
    | none, true => (s.masterWrite addr a.master.val (a.value.toNat % 2 ^ 32)).2
    | none, false => s

/-- What a read of a register word answers (R134 to R136): WO and self-clearing fields read 0; the present time, the calibration
page and r are read live. -/
def State.readWord (s : State) (key : Nat) : Nat :=
  if key = R.CLK_FTC_NOW then s.ts64 % 2 ^ 32
  else if key = R.CLK_FTC_NOW + 4 then s.ts64 / 2 ^ 32
  else match regIx (R.CAL_PAGE 0) 4 1024 key with
    | some i => s.rdLE Sp.mtp (4 * i) 4
    | none => s.word key

/-! ## The scrubber (R141 to R143) -/

/-- Whether a bit of a register word lies in an RW field: the bits that parity covers (R141). -/
def parityBit (key i : Nat) : Bool :=
  match rowOf key with
  | some (r, w) => r.fields.any fun f => f.ty = .rw && (match f.slice w with | some (lo, n, _) => decide (lo ≤ i ∧ i < lo + n) | none => false)
  | none => false
/-- Whether a register is a configuration register (R141): an RW field, and no mailbox word. -/
def isConfig (key : Nat) : Bool :=
  !(blockOf key = 0 && 0x1000 ≤ key) && (List.range 32).any (parityBit key)

/-- A stored bit flips; its copy's parity no longer matches, or matches again (R141). -/
def State.flip (s : State) (f : ParityFlip) : State :=
  if !isConfig f.key ∨ !parityBit f.key f.bit.val ∨ (f.inForce ∧ !hasFrame f.key) then s else
  let d := BitVec.ofNat 32 (resetWord f.key)
  let x (v : Nat) : Reg := BitVec.ofNat 32 (v ^^^ 2 ^ f.bit.val)
  let mark := (f.key, f.inForce)
  let bad := if s.regs.bad.contains mark then s.regs.bad.filter (· ≠ mark) else s.regs.bad ++ [mark]
  if f.inForce then { s with regs := { s.regs with bad := bad, live := Sparse.set d s.regs.live f.key (x (s.liveWord f.key)) } }
  else { s with regs := { s.regs with bad := bad, vals := Sparse.set d s.regs.vals f.key (x (s.word f.key)) } }

/-- The offset that a failing register is reported by: its BAR0 offset, or its offset in the queue window (R142). -/
def parOffset (key : Nat) : Nat := if queKeyBase ≤ key then 0x03000400 + (key - queKeyBase) % 0x40 else key

/-- PARITY_FAULT (R142, R143): the scrubber finds a register's mismatch; `start` is the state at the start of the pass. -/
def State.parityFault (start s : State) (key : Nat) : State :=
  let b := blockOf key
  let win := decide (queKeyBase ≤ key)
  let q := (key - queKeyBase) / 0x40
  let first := !s.bit F.BUS_PAR_STATUS_PENDING
  let s := s.when first fun s =>
    let s := (s.set F.BUS_PAR_ADDR (parOffset key)).set F.BUS_PAR_STATUS_FIRST_BLOCK b
    if win then (s.set F.QUE_PAR_QUEUE_QUEUE q).put F.QUE_PAR_QUEUE_VALID true else s
  let s := (s.put F.BUS_PAR_STATUS_PENDING true).incSat F.BUS_PAR_STATUS_COUNT
  let s := { s with regs := { s.regs with reported := key :: s.regs.reported } }
  let s := s.raise { src := 960, subject := b, data := parOffset key + (if win then q * 2 ^ 32 + 2 ^ 47 else 0) }
  if bitOf (s.get F.BUS_PAR_POLICY) b then s.pennantCause Cause.parity
  else if s.regs.held.any (·.blk = b) then s
  else
    let mine (l : List (Nat × Reg)) : List (Nat × Reg) := l.filter fun p => blockOf p.1 = b
    let h : HeldBlock := { blk := b, vals := mine start.regs.vals, live := mine start.regs.live }
    ({ s with regs := { s.regs with held := s.regs.held ++ [h] } }).orF F.BUS_PAR_HOLD (2 ^ b)

/-- Insert a number in a rising list. -/
def insertNat (n : Nat) : List Nat → List Nat
  | [] => [n]
  | a :: r => if n < a then n :: a :: r else if n = a then a :: r else a :: insertNat n r

/-- SCRUB_PASS (R142): bits have flipped; every configuration register of every powered block is read. -/
def execScrubPass (flips : List ParityFlip) (s : State) : Host.Outcome State Fault Refusal :=
  settle s (
    let s := s.each flips State.flip
    let found := (s.regs.bad.map (·.1)).foldr insertNat []
    let t := s.each (found.filter fun k => s.blockPowered (blockOf k) && !s.regs.reported.contains k) fun t k => s.parityFault t k
    (t.inc F.BUS_SCRUB_PASSES 1).tal 3 3 1)

end Sys2Proof.Machine
end

