-- ==== Sys2Proof/Machine/RegCommands.lean ====
section
/-! DEFINITION. The commands that are accesses of the host: the plain and alias writes (R136, R137), the central SRAM window
(R130), the writes that have a row of their own, each a write to its register by the host; the bus matrix's own events. -/

namespace Sys2Proof.Machine

/-- An access with its address taken to an alias of its block (R137). -/
def Access.through (a : Access) (al : Nat) : Access :=
  let n := a.addr.toNat
  if isWindow (n / 0x100000) then { a with addr := BitVec.ofNat 27 (n / 0x100000 * 0x100000 + al * 0x40000 + n % 0x40000) } else a

/-- REGISTER_WRITE (R131 to R136): an access to BAR0 as its address, length and byte enables say. -/
def execRegisterWrite (a : Access) (s : State) : Host.Outcome State Fault Refusal := settle s (s.access a)
/-- SET_ALIAS_WRITE (R137, R138). -/
def execSetAliasWrite (a : Access) (s : State) : Host.Outcome State Fault Refusal := settle s (s.access (Access.through a 1))
/-- CLEAR_ALIAS_WRITE (R137, R138). -/
def execClearAliasWrite (a : Access) (s : State) : Host.Outcome State Fault Refusal := settle s (s.access (Access.through a 2))
/-- TOGGLE_ALIAS_WRITE (R137, R138). -/
def execToggleAliasWrite (a : Access) (s : State) : Host.Outcome State Fault Refusal := settle s (s.access (Access.through a 3))
/-- SRAM_WINDOW_WRITE (R130): a write of the host at an offset of the window. -/
def execSramWindowWrite (off : BitVec 26) (bs : List (Option Byte)) (s : State) : Host.Outcome State Fault Refusal :=
  settle s (s.sramAccess off.toNat 0 true bs)

/-- A 32-bit write of the host to a register (R151: master 0). -/
def State.hostSets (s : State) (addr : Nat) (v : Reg) : State := (s.hostWrite addr 0 v.toNat).2

/-- The commit register of a block (R140). -/
def commitReg : CommitBlock → Nat
  | .clk => R.CLK_FTC_COMMIT
  | .pwr => R.PWR_COMMIT
  | .tile n => R.TILE_COMMIT n.val
  | .lin => R.LIN_COMMIT
  | .defects => R.DEF_COMMIT
  | .map => R.MAP_COMMIT
  | .que => R.QUE_COMMIT
  | .vox => R.VOX_COMMIT
  | .prt => R.PRT_COMMIT
  | .hal => R.HAL_COMMIT
/-- COMMIT_GO (R140): a write to a block's commit register. -/
def execCommitGo (b : CommitBlock) (v : Reg) (s : State) : Host.Outcome State Fault Refusal := settle s (s.hostSets (commitReg b) v)
/-- WATERMARK_CLEAR (R357): a write to the selected queue's `QUE_W_STICKY`, or to a `QUE_WMk`. -/
def execWatermarkClear (t : WmTarget) (v : Reg) (s : State) : Host.Outcome State Fault Refusal :=
  settle s (s.hostSets (match t with | .sticky => 0x03000430 | .wide k => R.QUE_WM k.val) v)

/-- PENNANT_ENTER_CMD (R113): a write to `PWR_PENNANT_CTRL`; `ENTER` gives cause COMMAND. -/
def execPennantEnterCmd (v : Reg) (s : State) : Host.Outcome State Fault Refusal := settle s (s.hostSets R.PWR_PENNANT_CTRL v)

/-- PENNANT_EXIT (R117): a write to `PWR_PENNANT_CTRL`; `EXIT` is accepted with no active cause. -/
def execPennantExit (v : Reg) (s : State) : Host.Outcome State Fault Refusal := settle s (s.hostSets R.PWR_PENNANT_CTRL v)

/-- FTC_SNAP (R56, R87): a write to `CLK_FTC_SNAP`. -/
def execFtcSnap (v : Reg) (s : State) : Host.Outcome State Fault Refusal := settle s (s.hostSets R.CLK_FTC_SNAP v)

/-- FTC_ENABLE (R57, R59): a write to `CLK_FTC_CTRL`; `ENABLE` starts the tick generator. -/
def execFtcEnable (v : Reg) (s : State) : Host.Outcome State Fault Refusal := settle s (s.hostSets R.CLK_FTC_CTRL v)

/-- DOMAIN_SWITCH_REQUEST (R78): a write to `CLK_DOMSW_CTRL`. -/
def execDomainSwitchRequest (v : Reg) (s : State) : Host.Outcome State Fault Refusal := settle s (s.hostSets R.CLK_DOMSW_CTRL v)

/-- FM_START (R84, R85): a write to `CLK_FMn_CTRL`. -/
def execFmStart (n : Fin 32) (v : Reg) (s : State) : Host.Outcome State Fault Refusal :=
  settle s (s.hostSets (R.CLK_FM_CTRL n.val) v)

/-- FEED_RETRY (R96): a write to `PWR_FEED_CTRL`. -/
def execFeedRetry (v : Reg) (s : State) : Host.Outcome State Fault Refusal := settle s (s.hostSets R.PWR_FEED_CTRL v)

/-- PWR_DOM_ON (R104): a write to `PWR_DOMn_CTRL` that requests power. -/
def execPwrDomOn (n : Fin 162) (v : Reg) (s : State) : Host.Outcome State Fault Refusal :=
  settle s (s.hostSets (R.PWR_DOM_CTRL n.val) v)

/-- PWR_DOM_OFF (R104): a write to `PWR_DOMn_CTRL` that requests power-down. -/
def execPwrDomOff (n : Fin 162) (v : Reg) (s : State) : Host.Outcome State Fault Refusal :=
  settle s (s.hostSets (R.PWR_DOM_CTRL n.val) v)

/-- KEEPER_SET_WRITE (R106): a write to `PWR_KEEPER_SET`. -/
def execKeeperSetWrite (v : Reg) (s : State) : Host.Outcome State Fault Refusal := settle s (s.hostSets R.PWR_KEEPER_SET v)

/-- ENGINE_RETIRE (R119): a write to `PWR_RETIRE`. -/
def execEngineRetire (v : Reg) (s : State) : Host.Outcome State Fault Refusal := settle s (s.hostSets R.PWR_RETIRE v)

/-- CAL_PROGRAM (R123): a write to `CAL_CTRL`. -/
def execCalProgram (v : Reg) (s : State) : Host.Outcome State Fault Refusal := settle s (s.hostSets R.CAL_CTRL v)

/-- PARITY_CLEAR (R144): a write to `BUS_PAR_STATUS`. -/
def execParityClear (v : Reg) (s : State) : Host.Outcome State Fault Refusal := settle s (s.hostSets R.BUS_PAR_STATUS v)

/-- MBOX_SUBMIT (R147, R148): a write to the slot's `CTRL`. -/
def execMboxSubmit (slot : Fin 16) (v : Reg) (s : State) : Host.Outcome State Fault Refusal :=
  settle s (s.hostSets (R.SUP_MBOX_CTRL slot.val) v)

/-- MBOX_RELEASE (R147, R148): a write to the slot's `CTRL`. -/
def execMboxRelease (slot : Fin 16) (v : Reg) (s : State) : Host.Outcome State Fault Refusal :=
  settle s (s.hostSets (R.SUP_MBOX_CTRL slot.val) v)

/-- CTX_READ (R190, R191): a write to `CTX_RD_SEL`. -/
def execCtxRead (v : Reg) (s : State) : Host.Outcome State Fault Refusal := settle s (s.hostSets R.CTX_RD_SEL v)

/-- TILE_DISABLE (R165): a write to `TILEn_CTRL`. -/
def execTileDisable (n : Fin 8) (v : Reg) (s : State) : Host.Outcome State Fault Refusal :=
  settle s (s.hostSets (R.TILE_CTRL n.val) v)

/-- LANE_ENABLE (R256 to R258): a write to `LIN_LANEl_CFG`. -/
def execLaneEnable (l : Fin 16) (v : Reg) (s : State) : Host.Outcome State Fault Refusal :=
  settle s (s.hostSets (R.LIN_LANE_CFG l.val) v)

/-- DISC_CLEAR (R280): a write to `LIN_DISCk_CTRL`. -/
def execDiscClear (k : Fin 64) (v : Reg) (s : State) : Host.Outcome State Fault Refusal :=
  settle s (s.hostSets (R.LIN_DISC_CTRL k.val) v)

/-- QUEUE_ENABLE (R346, R347): a write to `QUE_W_CFG` of the selected queue. -/
def execQueueEnable (v : Reg) (s : State) : Host.Outcome State Fault Refusal := settle s (s.hostSets 0x03000400 v)

/-- QUEUE_DISABLE (R347): a write to `QUE_W_CFG` of the selected queue. -/
def execQueueDisable (v : Reg) (s : State) : Host.Outcome State Fault Refusal := settle s (s.hostSets 0x03000400 v)

/-- QUEUE_FLUSH (R354): a write to `QUE_W_CTRL` of the selected queue. -/
def execQueueFlush (v : Reg) (s : State) : Host.Outcome State Fault Refusal := settle s (s.hostSets 0x03000418 v)

/-- UNIT_ENABLE (R362): a write to `CKn_CFG`. -/
def execUnitEnable (n : Fin 256) (v : Reg) (s : State) : Host.Outcome State Fault Refusal :=
  settle s (s.hostSets (R.CK_CFG n.val) v)

/-- UNIT_DISABLE (R374, R378): a write to `CKn_CFG`. -/
def execUnitDisable (n : Fin 256) (v : Reg) (s : State) : Host.Outcome State Fault Refusal :=
  settle s (s.hostSets (R.CK_CFG n.val) v)

/-- RUN_LO_HOLD (R376): a write to `CKn_RUN_LO`. -/
def execRunLoHold (n : Fin 256) (v : Reg) (s : State) : Host.Outcome State Fault Refusal :=
  settle s (s.hostSets (R.CK_RUN n.val) v)

/-- RUN_LOAD (R376): a write to `CKn_RUN_HI`. -/
def execRunLoad (n : Fin 256) (v : Reg) (s : State) : Host.Outcome State Fault Refusal :=
  settle s (s.hostSets (R.CK_RUN n.val + 4) v)

/-- SWAP (R377): a write to `CKn_SWAP_CTRL`. -/
def execSwap (n : Fin 256) (v : Reg) (s : State) : Host.Outcome State Fault Refusal :=
  settle s (s.hostSets (R.CK_SWAP_CTRL n.val) v)

/-- VP_ENABLE (R385): a write to `VOX_VPn_CFG`. -/
def execVpEnable (n : Fin 16) (v : Reg) (s : State) : Host.Outcome State Fault Refusal :=
  settle s (s.hostSets (R.VOX_VP_CFG n.val) v)

/-- SERVICE (R388): a write to `VOX_VPn_CTRL`. -/
def execService (n : Fin 16) (v : Reg) (s : State) : Host.Outcome State Fault Refusal :=
  settle s (s.hostSets (R.VOX_VP_CTRL n.val) v)

/-- STOP (R387): a write to `VOX_VPn_CTRL`. -/
def execStop (n : Fin 16) (v : Reg) (s : State) : Host.Outcome State Fault Refusal :=
  settle s (s.hostSets (R.VOX_VP_CTRL n.val) v)

/-- SELECTOR_ENABLE (R404): a write to `PRT_SELs_CFG`. -/
def execSelectorEnable (n : Fin 4096) (v : Reg) (s : State) : Host.Outcome State Fault Refusal :=
  settle s (s.hostSets (R.PRT_SEL_CFG n.val) v)

/-- HALYARD_PORT_ENABLE (R439): a write to `HAL_Hp_CFG`. -/
def execHalyardPortEnable (p : Fin 2) (v : Reg) (s : State) : Host.Outcome State Fault Refusal :=
  settle s (s.hostSets (R.HAL_H_CFG p.val) v)

/-- UNBIND (R444): a write to `HAL_CTRL`. -/
def execUnbind (v : Reg) (s : State) : Host.Outcome State Fault Refusal := settle s (s.hostSets R.HAL_CTRL v)

/-- VECTOR_ARM (R473): a write to `EVT_ARMw`. -/
def execVectorArm (w : Fin 8) (v : Reg) (s : State) : Host.Outcome State Fault Refusal :=
  settle s (s.hostSets (R.EVT_ARM w.val) v)

/-- EVT_ENABLE (R470, R471, R475): a write to `EVT_CTRL`. -/
def execEvtEnable (v : Reg) (s : State) : Host.Outcome State Fault Refusal := settle s (s.hostSets R.EVT_CTRL v)

/-- REC_SOURCE_ENABLE (R478): a write to `REC_SRCk_CFG`. -/
def execRecSourceEnable (k : Fin 512) (v : Reg) (s : State) : Host.Outcome State Fault Refusal :=
  settle s (s.hostSets (R.REC_SRC_CFG k.val) v)

/-- TAG_ENABLE (R490): a write to `TAL_TAG_CFG`. -/
def execTagEnable (v : Reg) (s : State) : Host.Outcome State Fault Refusal := settle s (s.hostSets R.TAL_TAG_CFG v)

/-- CHT_RESUME (R513): a write to `SUP_FAULT_CTRL`. -/
def execChtResume (v : Reg) (s : State) : Host.Outcome State Fault Refusal := settle s (s.hostSets R.SUP_FAULT_CTRL v)

/-! ## The bus matrix (R153, R154, R157) -/

/-- BUS_HOLD_RELEASE (R153, R154): the conflict that holds a master's request clears; the request is granted. -/
def execBusHoldRelease (m : Fin 13) (s : State) : Host.Outcome State Fault Refusal :=
  settle s (
    if !s.bit (F.BUS_MSTR_STATUS_HELD m.val) then s
    else ((s.put (F.BUS_MSTR_STATUS_HELD m.val) false).set (F.BUS_MSTR_STATUS_HOLD_WHY m.val) 0).tal 3 0 1)

/-- MASTER_DRAIN_COMPLETE (R157): a reset master's transactions have drained; its port is released. -/
def execMasterDrainComplete (m : Fin 13) (s : State) : Host.Outcome State Fault Refusal :=
  settle s (
    if !s.bit (F.BUS_MSTR_STATUS_DRAINING m.val) then s
    else ((s.put (F.BUS_MSTR_STATUS_DRAINING m.val) false).set (F.BUS_MSTR_STATUS_RD_OUT m.val) 0).set (F.BUS_MSTR_STATUS_WR_OUT m.val) 0)

end Sys2Proof.Machine
end

