-- ==== Sys2Proof/Machine/Commands.lean ====
section
/-! DEFINITION. Mailbox commands of the supervisor itself, of images, hoists and channels (R150, R184 to R188, R219 to R222,
R374, R511): what each does as it executes, and what it does at the boundary where it takes effect. -/

namespace Sys2Proof.Machine

/-- Argument word `i` of a command. -/
def Cmd.arg (c : Cmd) (i : Nat) : Nat := c.args.getD i 0

/-- What a command's check and its effect answer: a result code (0 where it may act), and result words. -/
abbrev Verdict := Nat × List Nat

/-- A command that waits for its boundary (R184): refused at once by its check, else in execution. -/
def State.await (check : State → Cmd → Verdict) (s : State) (c : Cmd) : State :=
  let (code, res) := check s c
  if code ≠ Rc.ok then s.finish c code res else s.begin c
/-- The command in execution, if its opcode is `op`, acts at its boundary and closes up; its check still holds. -/
def State.takeEffect (s : State) (op : Nat) (check : State → Cmd → Verdict) (act : State → Cmd → List Nat × State) : State :=
  match s.busyOp op with
  | none => s
  | some b =>
    let (code, res) := check s b.cmd
    if code ≠ Rc.ok then s.endBusy code res
    else
      let (out, t) := act s b.cmd
      t.endBusy Rc.ok out
/-- A command that acts at once. -/
def State.actNow (check : State → Cmd → Verdict) (act : State → Cmd → List Nat × State) (s : State) (c : Cmd) : State :=
  let (code, res) := check s c
  if code ≠ Rc.ok then s.finish c code res
  else
    let (out, t) := act s c
    t.finish c Rc.ok out
/-- A command whose boundary is a tick boundary (R184): with the tick generator off it acts as it executes. -/
def State.awaitTick (check : State → Cmd → Verdict) (act : State → Cmd → List Nat × State) (s : State) (c : Cmd) : State :=
  if s.ftcState = Ftc.disabled then State.actNow check act s c else State.await check s c

/-! ## The supervisor's own (R150) -/

/-- `NOP`. -/
def State.nopBody (s : State) (c : Cmd) : State := s.finish c Rc.ok []
/-- NOP (R150): no action. -/
def execNop (s : State) : Host.Outcome State Fault Refusal := settle s (s.runOp 0x00 0 State.nopBody)

/-- `IDENTIFY`: the burgee and `SUP_ID`. -/
def State.identifyBody (s : State) (c : Cmd) : State :=
  s.finish c Rc.ok [s.burgee % 2 ^ 32, s.burgee / 2 ^ 32, s.word R.SUP_ID]
/-- IDENTIFY (R150). -/
def execIdentify (s : State) : Host.Outcome State Fault Refusal := settle s (s.runOp 0x01 0 State.identifyBody)

/-- UNKNOWN_COMMAND (R150): the oldest accepted command has a code that no chapter defines. -/
def execUnknownCommand (s : State) : Host.Outcome State Fault Refusal :=
  settle s (match s.mbox.busy, s.mbox.queue with
    | none, c :: r =>
      if (cmdNeed c.op).isSome then s else ({ s with mbox := { s.mbox with queue := r } } : State).finish c Rc.unknown []
    | _, _ => s)

/-! ## Images (R219 to R222) -/

/-- An image as its header describes it (R219): the loaded form for a tile, and the sizes in bytes of code and constants. -/
def State.imageHeader (s : State) (a len tile base constOff : Nat) : Option Image :=
  let u (o n : Nat) : Nat := s.rdLE Sp.sram (a + o) n
  let code := u 0x08 4
  let con := u 0x0C 4
  let entry := u 0x10 4
  if 0x3C00000 < a + 0xE0 ∨ 0x3C00000 < a + len ∨ u 0 4 ≠ 0x49464141 ∨ u 4 2 ≠ 1 ∨ code = 0 ∨ 131072 < code ∨ code % 2 ≠ 0
    ∨ con % 8 ≠ 0 ∨ 1572864 < con ∨ 16 ≤ u 0x14 1 ∨ (s.rdBytes Sp.sram (a + 0x15) 11).any (· ≠ 0)
    ∨ (s.rdBytes Sp.sram (a + 0x50) 48).any (· ≠ 0) ∨ (entry ≠ 0xFFFFFFFF ∧ code ≤ entry) then none
  else some { tile := tile, id := u 6 2, base := base, codeWords := code, constOff := constOff, constWords := con / 8,
              faultEntry := entry, classes := u 0x14 1 }

/-- Whether two spans of `n` and `m` units from `a` and `b` overlap. -/
def spansMeet (a n b m : Nat) : Bool := decide (0 < n ∧ 0 < m ∧ a < b + m ∧ b < a + n)
/-- Whether an image would overlap one loaded in its tile (R221). -/
def State.imageMeets (s : State) (i : Image) : Bool :=
  s.images.any fun j => j.tile = i.tile &&
    (spansMeet i.base i.codeWords j.base j.codeWords || spansMeet i.constOff (8 * i.constWords) j.constOff (8 * j.constWords))

/-- The tiles of a mask. -/
def tilesOf (mask : Nat) : List Nat := (List.range 8).filter (bitOf mask)

/-- What keeps `IMAGE_LOAD` from its image, but for the signature (R221). -/
def State.imageLoadCheck (s : State) (c : Cmd) : Verdict :=
  let tiles := tilesOf (c.arg 1)
  match s.imageHeader (c.arg 0) 0 0 (c.arg 2) (c.arg 3) with
  | none => (Rc.badArg, [])
  | some i =>
    let len := 0x80 + 4 * i.codeWords + 8 * i.constWords + 96
    if tiles.isEmpty ∨ 256 ≤ c.arg 1 ∨ 0x3C00000 < c.arg 0 + len ∨ 131072 < c.arg 2 + i.codeWords ∨ c.arg 3 < 0x180000
      ∨ 0x2FFFFF < c.arg 3 ∨ 0x300000 < c.arg 3 + 8 * i.constWords then (Rc.badArg, [])
    else if s.images.any fun j => j.id = i.id && tiles.contains j.tile then (Rc.refused, [])
    else if tiles.any fun t => s.imageMeets { i with tile := t } then (Rc.badArg, [])
    else (Rc.ok, [])

/-- An image's code and constants are copied into a tile (R222). -/
def State.imagePut (s : State) (a : Nat) (i : Image) : State :=
  let s := s.wr (Sp.prog i.tile) (4 * i.base) (s.rdBytes Sp.sram (a + 0x80) (4 * i.codeWords))
  let s := s.wr (Sp.tile i.tile) i.constOff (s.rdBytes Sp.sram (a + 0x80 + 4 * i.codeWords) (8 * i.constWords))
  { s with images := s.images ++ [i] }
/-- `IMAGE_LOAD` takes effect (R221, R222). -/
def State.imageLoadAct (s : State) (c : Cmd) : List Nat × State :=
  ([], match s.imageHeader (c.arg 0) 0 0 (c.arg 2) (c.arg 3) with
    | none => s
    | some i => s.each (tilesOf (c.arg 1)) fun s t => s.imagePut (c.arg 0) { i with tile := t })

/-- Whether the image of `n` signed bytes at `a` carries the digest of its segments and the signature of the image-signing key
(R219, R504). -/
def State.imageSigned (s : State) (a n : Nat) : Bool :=
  decide (sha384 (s.rdBytes Sp.sram (a + 0x80) (n - 0x80)) = s.rdBytes Sp.sram (a + 0x20) 48)
    && signatureGood s.boot.imageKey (s.rdBytes Sp.sram a n) (s.rdBytes Sp.sram (a + n) 96)

/-- `IMAGE_LOAD` executes: the header, the tiles and the overlap are judged, then the signature. -/
def State.imageLoadBody (s : State) (c : Cmd) : State :=
  let (code, res) := s.imageLoadCheck c
  if code ≠ Rc.ok then s.finish c code res
  else match s.imageHeader (c.arg 0) 0 0 (c.arg 2) (c.arg 3) with
    | some i => if s.imageSigned (c.arg 0) (0x80 + 4 * i.codeWords + 8 * i.constWords) then s.begin c else s.finish c Rc.auth []
    | none => s.finish c Rc.badArg []
/-- IMAGE_LOAD (R221). -/
def execImageLoad (s : State) : Host.Outcome State Fault Refusal := settle s (s.runOp 0x10 4 State.imageLoadBody)

/-- Whether a hoist names an image in a tile (R221). -/
def State.hoistNames (s : State) (img t : Nat) : Bool :=
  let uses (h : Hoist) : Bool := h.members.any fun c => s.chImage c = img
  let moves : List (Hoist × Nat) := match s.pwr.retire with
    | some (e, _) => (s.retirePlan s.hoists ((s.hoists.filter (·.num / 16 = e)).foldr insertByNum [])).getD []
    | none => []
  s.hoists.any (fun h => uses h && (h.num / 192 = t || h.pennantAt.any fun p => p / 192 = t))
    || moves.any fun m => uses m.1 && m.2 / 192 = t
/-- The tiles of `IMAGE_UNLOAD`'s mask in which the image is loaded. -/
def State.unloadTiles (s : State) (c : Cmd) : List Nat :=
  (tilesOf (c.arg 1)).filter fun t => s.images.any fun i => i.tile = t && i.id = c.arg 0
/-- What keeps `IMAGE_UNLOAD` (R221). -/
def State.imageUnloadCheck (s : State) (c : Cmd) : Verdict :=
  let tiles := s.unloadTiles c
  if tiles.isEmpty then (Rc.badArg, []) else if tiles.any (s.hoistNames (c.arg 0)) then (Rc.refused, []) else (Rc.ok, [])
/-- `IMAGE_UNLOAD` takes effect: the mask of the tiles unloaded. -/
def State.imageUnloadAct (s : State) (c : Cmd) : List Nat × State :=
  let tiles := s.unloadTiles c
  ([sumL (tiles.map (2 ^ ·))],
    { s with images := s.images.filter fun i => !(i.id = c.arg 0 && tiles.contains i.tile) })
/-- `IMAGE_UNLOAD` executes: it waits for its super-tick boundary. -/
def State.imageUnloadBody : State → Cmd → State := State.await State.imageUnloadCheck
/-- IMAGE_UNLOAD (R221). -/
def execImageUnload (s : State) : Host.Outcome State Fault Refusal := settle s (s.runOp 0x11 2 State.imageUnloadBody)

/-- `IMAGE_QUERY` (R221). -/
def State.imageQueryBody (s : State) (c : Cmd) : State :=
  match s.images.find? fun i => i.tile = c.arg 0 ∧ i.id = c.arg 1 with
  | some i => s.finish c Rc.ok [i.base, i.codeWords, i.constOff]
  | none => s.finish c Rc.badArg []
/-- IMAGE_QUERY (R221). -/
def execImageQuery (s : State) : Host.Outcome State Fault Refusal := settle s (s.runOp 0x12 2 State.imageQueryBody)

/-- What keeps `HOIST_REIMAGE` (R220, R221). -/
def State.reimageCheck (s : State) (c : Cmd) : Verdict :=
  match s.hoist (c.arg 0) with
  | none => (Rc.badArg, [])
  | some h =>
    let ok (t : Nat) : Bool := s.entryOk t (c.arg 1) (c.arg 2) h.cls
    let both : Bool := ok (h.num / 192) && (match h.pennantAt with | some p => ok (p / 192) | none => true)
    if both then (Rc.ok, []) else (Rc.refused, [])
/-- `HOIST_REIMAGE` takes effect: `ENTRY` and `IMAGE` of every member. -/
def State.reimageAct (s : State) (c : Cmd) : List Nat × State :=
  ([], match s.hoist (c.arg 0) with
    | none => s
    | some h => s.each h.members fun s m => s.setChan m 1 (putBits (putBits (s.chan m 1) 0 17 (c.arg 2)) 32 16 (c.arg 1)))
/-- `HOIST_REIMAGE` executes. -/
def State.reimageBody : State → Cmd → State := State.await State.reimageCheck
/-- HOIST_REIMAGE (R221). -/
def execHoistReimage (s : State) : Host.Outcome State Fault Refusal := settle s (s.runOp 0x13 3 State.reimageBody)

/-! ## Hoists (R184, R187, R511) -/

/-- Whether a frozen table keeps a hoist from being loaded or moved (R511). -/
def State.frozenOut (s : State) (h : Hoist) : Bool := s.frozen && !h.members.all s.resident

/-- What keeps `HOIST_LOAD` (R170, R184, R511). -/
def State.hoistLoadCheck (s : State) (c : Cmd) : Verdict :=
  match s.readDescriptor (c.arg 0) with
  | none => (Rc.badArg, [])
  | some h =>
    let r := s.admission s.hoists h true
    if r ≠ 0 then (Rc.refused, [r]) else if s.frozenOut h then (Rc.refused, []) else (Rc.ok, [])
/-- `HOIST_LOAD` executes: it asks the cache for the members it pins, and waits. -/
def State.hoistLoadBody (s : State) (c : Cmd) : State :=
  let (code, res) := s.hoistLoadCheck c
  if code ≠ Rc.ok then s.finish c code res
  else
    let s := match s.readDescriptor (c.arg 0) with | some h => (s.askPinned h).2 | none => s
    s.begin c
/-- HOIST_LOAD (R184). -/
def execHoistLoad (s : State) : Host.Outcome State Fault Refusal := settle s (s.runOp 0x20 1 State.hoistLoadBody)
/-- `HOIST_LOAD` at a super-tick boundary: the hoist is placed once every pinned member is resident. -/
def State.hoistLoadSuper (s : State) : State :=
  match s.busyOp 0x20 with
  | none => s
  | some b =>
    let (code, res) := s.hoistLoadCheck b.cmd
    if code ≠ Rc.ok then s.endBusy code res
    else match s.readDescriptor (b.cmd.arg 0) with
      | none => s
      | some h =>
        let (there, s) := s.askPinned h
        if there then (s.hoistPlace h).endBusy Rc.ok [] else s

/-- What keeps `HOIST_UNLOAD`: no such hoist (log 61). -/
def State.hoistUnloadCheck (s : State) (c : Cmd) : Verdict :=
  if (s.hoist (c.arg 0)).isSome then (Rc.ok, []) else (Rc.badArg, [])
/-- `HOIST_UNLOAD` takes effect. -/
def State.hoistUnloadAct (s : State) (c : Cmd) : List Nat × State :=
  ([], match s.hoist (c.arg 0) with | some h => s.hoistRemove h | none => s)
/-- `HOIST_UNLOAD` executes. -/
def State.hoistUnloadBody : State → Cmd → State := State.await State.hoistUnloadCheck
/-- HOIST_UNLOAD (R184). -/
def execHoistUnload (s : State) : Host.Outcome State Fault Refusal := settle s (s.runOp 0x21 1 State.hoistUnloadBody)

/-- The hoist of `HOIST_MOVE`, its new number and Pennant placement, where the arguments are well formed. -/
def State.moveArgs (s : State) (c : Cmd) : Option (Hoist × Nat × Option Nat) :=
  match s.hoist (c.arg 0), placeNum (c.arg 1) with
  | some h, some k =>
    if 0x10000 ≤ c.arg 1 ∨ 0x10000 ≤ c.arg 2 then none
    else if c.arg 2 = 0xFFFF then some (h, k, none)
    else match placeNum (c.arg 2) with
      | some p => if h.placed then some (h, k, some p) else none
      | none => none
  | _, _ => none
/-- What keeps `HOIST_MOVE` (R170, R184, R511). -/
def State.hoistMoveCheck (s : State) (c : Cmd) : Verdict :=
  match s.moveArgs c with
  | none => (Rc.badArg, [])
  | some (h, k, p) =>
    let r := s.admission (s.hoists.filter (·.num ≠ h.num)) { h with num := k, pennantAt := p } false
    if r ≠ 0 then (Rc.refused, [r]) else if s.frozenOut h then (Rc.refused, []) else (Rc.ok, [])
/-- `HOIST_MOVE` takes effect (R186). -/
def State.hoistMoveAct (s : State) (c : Cmd) : List Nat × State :=
  ([], match s.moveArgs c with | some (h, k, p) => s.hoistRenumber h k p | none => s)
/-- `HOIST_MOVE` executes. -/
def State.hoistMoveBody : State → Cmd → State := State.await State.hoistMoveCheck
/-- HOIST_MOVE (R184). -/
def execHoistMove (s : State) : Host.Outcome State Fault Refusal := settle s (s.runOp 0x26 3 State.hoistMoveBody)

/-! ## Channels (R184, R185, R174, R188, R511) -/

/-- Whether a frozen table keeps a channel from being changed (R511). -/
def State.chanBarred (s : State) (c : Nat) : Bool := s.frozen && !s.resident c

/-- Address of word `w` of channel `c` in the configuration copy that a joining or standby unit keeps (R431): the second
table of its staging region (DEDUCED, log 62). -/
def State.copyAddr (s : State) (c w : Nat) : Nat := s.cfg F.PRT_PAIR_SNAP_BASE * 64 + 2 ^ 22 + c * 256 + w * 8
/-- The space of the staging region (R431). -/
def State.snapSpace (s : State) : Nat := Sp.ddr (s.cfg F.PRT_PAIR_CFG_SNAP_DDR)
/-- Whether the unit keeps the configuration copy (R431). -/
def State.keepsCopy (s : State) : Bool := decide (PairSt.joinConfig ≤ s.pairState ∧ s.pairState ≤ PairSt.standby)

/-- What keeps `CHAN_COMMIT` (R184, R185, R511). -/
def State.chanCommitCheck (s : State) (c : Cmd) : Verdict :=
  if 16384 ≤ c.arg 0 ∨ c.arg 3 ≠ 0 ∨ 0x3C00000 < c.arg 1 + 256 then (Rc.badArg, [])
  else if s.commitRefused (c.arg 0) (c.arg 1) (c.arg 2) ∨ s.chanBarred (c.arg 0) then (Rc.refused, [])
  else (Rc.ok, [])
/-- `CHAN_COMMIT` takes effect, in the entry and in the configuration copy. -/
def State.chanCommitAct (s : State) (c : Cmd) : List Nat × State :=
  let t := s.chanCommit (c.arg 0) (c.arg 1) (c.arg 2)
  ([], if !s.keepsCopy then t else
    t.each ((List.range 32).filter (bitOf (c.arg 2))) fun t w =>
      t.wr t.snapSpace (t.copyAddr (c.arg 0) w) (t.rdBytes Sp.sram (c.arg 1 + 8 * w) 8))
/-- `CHAN_COMMIT` executes. -/
def State.chanCommitBody : State → Cmd → State := State.awaitTick State.chanCommitCheck State.chanCommitAct
/-- CHAN_COMMIT (R184). -/
def execChanCommit (s : State) : Host.Outcome State Fault Refusal := settle s (s.runOp 0x22 4 State.chanCommitBody)

/-- What keeps `PENNANT_CLEAR` (R184, R511). -/
def State.pennantClearCheck (s : State) (c : Cmd) : Verdict :=
  if 16384 ≤ c.arg 0 then (Rc.badArg, []) else if s.chanBarred (c.arg 0) then (Rc.refused, []) else (Rc.ok, [])
/-- `PENNANT_CLEAR` takes effect. -/
def State.pennantClearAct (s : State) (c : Cmd) : List Nat × State := ([], s.pennantClear (c.arg 0) (c.arg 1))
/-- `PENNANT_CLEAR` executes. -/
def State.pennantClearBody : State → Cmd → State := State.awaitTick State.pennantClearCheck State.pennantClearAct
/-- PENNANT_CLEAR (R174, R184). -/
def execPennantClear (s : State) : Host.Outcome State Fault Refusal := settle s (s.runOp 0x23 2 State.pennantClearBody)

/-- What keeps `TWIN_SET` (R188). -/
def State.twinSetCheck (s : State) (c : Cmd) : Verdict :=
  if 16384 ≤ c.arg 0 ∨ 16384 ≤ c.arg 1 then (Rc.badArg, []) else if s.twinOk (c.arg 0) (c.arg 1) then (Rc.ok, []) else (Rc.refused, [])
/-- `TWIN_SET` takes effect. -/
def State.twinSetAct (s : State) (c : Cmd) : List Nat × State := ([], s.twinSet (c.arg 0) (c.arg 1))
/-- `TWIN_SET` executes. -/
def State.twinSetBody : State → Cmd → State := State.await State.twinSetCheck
/-- TWIN_SET (R188). -/
def execTwinSet (s : State) : Host.Outcome State Fault Refusal := settle s (s.runOp 0x24 2 State.twinSetBody)

/-- What keeps `TWIN_CLEAR`: the channel is not a primary (log 61). -/
def State.twinClearCheck (s : State) (c : Cmd) : Verdict :=
  if 16384 ≤ c.arg 0 then (Rc.badArg, [])
  else if (s.chTwin (c.arg 0)).isSome ∧ s.chPrimary (c.arg 0) then (Rc.ok, []) else (Rc.refused, [])
/-- `TWIN_CLEAR` takes effect. -/
def State.twinClearAct (s : State) (c : Cmd) : List Nat × State := ([], s.twinClear (c.arg 0))
/-- `TWIN_CLEAR` executes. -/
def State.twinClearBody : State → Cmd → State := State.await State.twinClearCheck
/-- TWIN_CLEAR (R184). -/
def execTwinClear (s : State) : Host.Outcome State Fault Refusal := settle s (s.runOp 0x25 1 State.twinClearBody)

/-- `CTX_FLUSH` (R184, R511). -/
def State.ctxFlushBody (s : State) (c : Cmd) : State :=
  if s.frozen then s.finish c Rc.refused [] else s.ctxFlushAll.finish c Rc.ok []
/-- CTX_FLUSH (R184). -/
def execCtxFlush (s : State) : Host.Outcome State Fault Refusal := settle s (s.runOp 0x27 0 State.ctxFlushBody)

/-! ## At the boundaries -/

/-- What a tick boundary does to the command in execution (R184): channel commands act before any work of the tick. -/
def State.commandsTick (s : State) : State :=
  (s.takeEffect 0x22 State.chanCommitCheck State.chanCommitAct).takeEffect 0x23 State.pennantClearCheck State.pennantClearAct

/-- What a super-tick boundary does to the command in execution (R38, R184, R221). -/
def State.commandsSuper (s : State) : State :=
  let s := s.takeEffect 0x10 State.imageLoadCheck State.imageLoadAct
  let s := s.takeEffect 0x11 State.imageUnloadCheck State.imageUnloadAct
  let s := s.takeEffect 0x13 State.reimageCheck State.reimageAct
  let s := s.hoistLoadSuper
  let s := s.takeEffect 0x21 State.hoistUnloadCheck State.hoistUnloadAct
  let s := s.takeEffect 0x24 State.twinSetCheck State.twinSetAct
  let s := s.takeEffect 0x25 State.twinClearCheck State.twinClearAct
  s.takeEffect 0x26 State.hoistMoveCheck State.hoistMoveAct

end Sys2Proof.Machine
end

