-- ==== Sys2Proof/Machine/Halyard.lean ====
section
/-! DEFINITION. The halyard hierarchy (R439 to R456, R460 to R464): what a received frame meets, membership of a worker and
the member table of a manager, time exchange, remote commands and writes, image pushes, mailbox commands 0x40 to 0x46. -/

namespace Sys2Proof

/-- Type and sequence number of a frame. -/
def HalFrame.type (f : HalFrame) : Nat := f.ty.toNat
def HalFrame.num (f : HalFrame) : Nat := f.seq.toNat
/-- Payload word `i` of a frame. -/
def HalFrame.word (f : HalFrame) (i : Nat) : Nat := (f.payload.getD i 0).toNat
/-- The header words and the payload of a frame (R440). -/
def HalFrame.words (f : HalFrame) : List Word :=
  let w0 := BitVec.ofNat 64 (2 ^ 56 + f.type * 2 ^ 48 + f.num)
  let w3 := f.srcAddr.toNat * 2 ^ 50 + f.dstAddr.toNat * 2 ^ 36 + Machine.b2n f.bcast * 2 ^ 35 + (f.payload.length % 65536) * 2 ^ 16
  let crc := crc16 (Machine.bitsMsb 64 w0.toNat ++ Machine.bitsMsb 64 f.src.toNat ++ Machine.bitsMsb 64 f.dst.toNat
    ++ Machine.bitsMsb 48 (w3 / 65536))
  [w0, f.src, f.dst, BitVec.ofNat 64 (w3 + crc)] ++ f.payload

end Sys2Proof

namespace Sys2Proof.Machine

/-! ## Roles and partners (R443 to R445) -/

/-- The device's role. -/
def State.role (s : State) : Nat := s.cfg F.HAL_CFG_ROLE
/-- Whether the device has a manager, and whether it has members. -/
def State.isWorker (s : State) : Bool := s.role = 1 || s.role = 2
def State.isManager (s : State) : Bool := s.role = 2 || s.role = 3

/-- Presence states of a member's entry (R445). -/
def Mem.absent : Nat := 0
def Mem.seen : Nat := 1
def Mem.paired : Nat := 2
def Mem.lost : Nat := 3
/-- The state and the burgee of entry `m`. -/
def State.memState (s : State) (m : Nat) : Nat := s.get (F.HAL_MEM_STATE_STATE m)
def State.memBurgee (s : State) (m : Nat) : Nat := s.get (F.HAL_MEM_BURGEE m)
/-- The record of a member. -/
def State.member (s : State) (m : Nat) : Member := (s.hal.members.find? (·.num = m)).getD { num := m }
/-- Change the record of a member. -/
def State.modMember (s : State) (m : Nat) (f : Member → Member) : State :=
  { s with hal := { s.hal with members := f (s.member m) :: s.hal.members.filter (·.num ≠ m) } }
/-- An entry changes its state: `EV_HAL_MEMBER`. -/
def State.memEnter (s : State) (m st : Nat) : State :=
  if s.memState m = st then s else (s.set (F.HAL_MEM_STATE_STATE m) st).raise { src := 833, subject := m }

/-- The entry that holds a burgee. -/
def State.memOf (s : State) (b : Nat) : Option Nat :=
  if !s.isManager then none
  else ((List.range 127).map (· + 1)).find? fun m => s.memState m ≠ Mem.absent && s.memBurgee m = b
/-- The address of member `m` (R443): of a domain manager under a system manager, member 0 of domain `m`. -/
def State.memAddr (s : State) (m : Nat) : Nat :=
  if (s.member m).role = 2 then 128 * m else 128 * (s.halAddr / 128) + m
/-- The entry that an address names. -/
def State.memAt (s : State) (a : Nat) : Option Nat :=
  ((List.range 127).map (· + 1)).find? fun m => s.memState m ≠ Mem.absent && s.memAddr m = a
/-- A member as a partner. -/
def memPartner (m : Nat) : Partner := .member (Fin.ofNat 128 m)
/-- The sender of a frame as a partner: the recorded manager, or an entry's burgee. -/
def State.sender (s : State) (f : HalFrame) : Option Partner :=
  if s.isWorker ∧ s.get F.HAL_MGR = f.src.toNat ∧ f.src.toNat ≠ 0 then some .manager
  else (s.memOf f.src.toNat).map memPartner

/-- The burgee of the pair peer, 0 without pair mode (R441, R451). -/
def State.peerBurgee (s : State) : Nat :=
  if s.pairState = PairSt.off then 0 else match s.pair.peer with | some h => h.burgee.toNat | none => 0
/-- The payload of HAIL and ANSWERING_PENNANT. -/
def State.helloWords (s : State) : List Word :=
  [BitVec.ofNat 64 (s.capabilities * 2 ^ 32 + s.role * 2 ^ 30 + s.halAddr), BitVec.ofNat 64 s.peerBurgee]

/-- A frame to a sender that has no entry: its count of that type is 1 (log 65). -/
def State.sendStranger (s : State) (ty : Nat) (dst : Word) (addr : Nat) (payload : List Word) : State :=
  if !s.hierOn then s else (s.emit (.hal (s.halFrame ty 1 dst addr false payload))).tal 22 1 1
/-- A negative answering pennant to the sender of a frame (R459, R460). -/
def State.refuseFrame (s : State) (p : Option Partner) (f : HalFrame) (reason : Nat) : State :=
  let id := f.src.toNat
  match p with
  | some q => (s.halNeg q f reason).violate q Viol.semantic f.type reason id
  | none => (s.sendStranger Ty.neg f.src f.srcAddr.toNat
      [BitVec.ofNat 64 reason, BitVec.ofNat 64 (f.type * 2 ^ 56 + f.num)]).countViolation 1 0 Viol.semantic f.type reason id

/-! ## Reception (R439 to R442, R458 to R461) -/

/-- A frame is discarded at its port (R439, R461). -/
def State.dropFrame (s : State) (p : Nat) : State :=
  ((s.inc (F.HAL_H_RXDROP p) 1).put (F.HAL_H_STICKY_RX_DROP_SEEN p) true).tal 22 2 1

/-- A frame from a sender without an entry: limited per port (R461). -/
def State.strangerIn (s : State) (p : Nat) : Bool × State :=
  let n := s.hal.strangers.getD p 0 + 1
  let s := { s with hal := { s.hal with strangers := s.hal.strangers.set p n } }
  if s.cfg (F.HAL_VIOL_CFG_RATE 1) < n then (false, s.dropFrame p) else (true, s)

/-- The sequence number of a partner's frame is judged (R442): the answer says whether the frame is acted on. -/
def State.seqIn (s : State) (p : Partner) (f : HalFrame) : Bool × State :=
  let last := seqOf s.hal.rx p f.type
  let note (s : State) : State := { s with hal := { s.hal with rx := setSeq s.hal.rx p f.type f.num } }
  if f.num = (last + 1) % 2 ^ 32 then
    let s := note s
    if s.overRate p then (false, (s.rateExcess p f.type f.src.toNat).tal 22 2 1) else (true, s)
  else
    let s := s.violate p Viol.sequence f.type 0 f.src.toNat
    if !isReliable f.type then (true, note s)
    else if f.num ≠ last then (false, s)
    else match s.hal.answers.find? fun a => a.1 = p ∧ a.2.1 = f.type with
      | some a => (false, (s.emit a.2.2).tal 22 1 1)
      | none => (false, s)

/-- The partner's frame is judged (R461, R442). -/
def State.partnerIn (s : State) (p : Partner) (f : HalFrame) : Bool × State :=
  let s := s.noteMessage p
  if s.quarantined p then (false, s.dropFrame f.port.val) else s.seqIn p f

/-- A valid frame shows its sender alive (R445, R449). -/
def State.alive (s : State) (p : Partner) : State :=
  match p with
  | .manager => { s with hal := { s.hal with mgrSilent := 0 } }
  | .member m => if s.memState m.val = Mem.lost then s.memEnter m.val Mem.seen else s
  | _ => s

/-- What the device knows of the burgee of its pair peer. -/
def State.pairId (s : State) : Nat := s.get F.PRT_PAIR_PEER
/-- A pair frame that is not permitted: counted, and answered by a negative answering pennant (R459, R460). -/
def State.pairRefuse (s : State) (ty n reason : Nat) : State :=
  (s.violate .pair Viol.semantic ty reason s.pairId).pairSend Ty.neg fun k => .pairNeg k reason ty n
/-- The sequence number of a pair frame of a type without repeats (R442, R459): a gap or a repeat is counted, and the frame is
acted on. -/
def State.pairSeq (s : State) (ty n : Nat) : State :=
  let last := seqOf s.hal.rx .pair ty
  let s := { s with hal := { s.hal with rx := setSeq s.hal.rx .pair ty n } }
  if n = (last + 1) % 2 ^ 32 then s else s.violate .pair Viol.sequence ty 0 s.pairId

/-- A hierarchy frame of type `ty` arrives (R439 to R442, R451, R458 to R461): `act` is what a frame does that passes. -/
def State.halIn (s : State) (ty : Nat) (f : HalFrame) (act : State → Option Partner → State) : State :=
  let p := f.port.val
  if f.type ≠ ty ∨ !s.on (F.HAL_H_CFG_ENABLE p) then s else
  let vidOk : Bool := match f.vid with
    | none => !s.on (F.HAL_H_CFG_TAGGED p)
    | some v => s.on (F.HAL_H_CFG_TAGGED p) && v.toNat = s.cfg (F.HAL_H_CFG_VID p)
  if f.etype.toNat ≠ s.cfg F.HAL_CFG_ETYPE ∨ !vidOk then s.dropFrame p
  else if s.on (F.HAL_H_CFG_PAIR p) then
    let s := s.tal 22 0 1
    if f.type = Ty.answer ∨ f.type = Ty.neg then s.pairSeq f.type f.num else s.pairRefuse f.type f.num 3
  else if s.role = 0 ∨ s.hierPort ≠ p then s.dropFrame p
  else if !s.pairSpeaks ∨ (f.dst.toNat ≠ 0 ∧ f.dst.toNat ≠ s.burgee) then s
  else
    let s := s.tal 22 0 1
    let from_ := s.sender f
    let (ok, s) := match from_ with
      | some q => s.partnerIn q f
      | none => s.strangerIn p
    if !ok then s
    else if f.src.toNat = s.burgee then s.refuseFrame from_ f 6
    else act (match from_ with | some q => s.alive q | none => s) from_

/-- What a frame does that only the recorded manager may send to a member (R449, R460): refused in ORPHAN with reason 2, and
from another sender, or outside MEMBER, with reason 1. -/
def State.fromManager (s : State) (from_ : Option Partner) (f : HalFrame) (act : State → State) : State :=
  if from_ = some .manager ∧ s.halState = HalSt.member then act s
  else s.refuseFrame from_ f (if s.halState = HalSt.orphan then 2 else 1)
/-- What a frame does that a manager takes from an entry; refused from others (R460): reason 5 where the address is another's,
else 3. -/
def State.fromMember (s : State) (from_ : Option Partner) (f : HalFrame) (act : State → Nat → State) : State :=
  let held : Bool := match s.memAt f.srcAddr.toNat with | some m => s.memBurgee m ≠ f.src.toNat | none => false
  match from_ with
  | some (.member m) => if held then s.refuseFrame from_ f 5 else act s m.val
  | _ => s.refuseFrame from_ f (if s.isManager ∧ held then 5 else 3)

/-- A reliable frame to a partner is answered: it waits no longer (R442). -/
def State.answered (s : State) (p : Partner) (ty : Nat) : State :=
  { s with hal := { s.hal with sent := s.hal.sent.filter fun e => !(e.who = p && e.frame.type = ty) } }

/-- An acknowledgement leaves, and is kept for a repeat (R442, log 34). -/
def State.halAck (s : State) (p : Partner) (f : HalFrame) : State :=
  if !s.hierOn then s else
  let o : Out := .halAck f.port.val f.type f.num f.src.toNat
  ((s.emit o).tal 22 1 1).halKeep p f.type o

/-! ## Presence: hails and answering pennants (R445, R446) -/

/-- HAIL (R446): a worker in UNBOUND or ORPHAN answers; the recorded manager's hail tells its pair peer (R451). -/
def execHail (f : HalFrame) (s : State) : Host.Outcome State Fault Refusal :=
  settle s (s.halIn Ty.hail f fun s from_ =>
    let s := if from_ = some .manager then s.set F.HAL_MGR_ALT (f.word 1) else s
    if !s.isWorker ∨ (s.halState ≠ HalSt.unbound ∧ s.halState ≠ HalSt.orphan) then s else
    let words := s.helloWords ++ [BitVec.ofNat 64 f.num]
    match from_ with
    | some p => s.halSend p Ty.answer f.src f.srcAddr.toNat false words
    | none => s.sendStranger Ty.answer f.src f.srcAddr.toNat words)

/-- The lowest free entry. -/
def State.freeEntry (s : State) : Option Nat := ((List.range 127).map (· + 1)).find? fun m => s.memState m = Mem.absent
/-- Entry `m` records the sender of an answering pennant (R445): its role, its pair peer. -/
def State.memRecord (s : State) (m : Nat) (f : HalFrame) : State :=
  let s := (s.set (F.HAL_MEM_BURGEE m) f.src.toNat).put (F.HAL_MEM_STATE_PAIR_MEMBER m) (f.word 1 ≠ 0)
  s.modMember m fun r => { r with role := bitsOf (f.word 0) 30 2, peer := f.word 1 }

/-- ANSWERING_PENNANT (R445, R446): one that echoes the latest hail makes its entry SEEN, and an offer is due for it at the
next tick boundary; with no free member it raises the event. A worker without an entry is admitted while joining is open. -/
def execAnsweringPennant (f : HalFrame) (s : State) : Host.Outcome State Fault Refusal :=
  settle s (s.halIn Ty.answer f fun s from_ =>
    let offer (s : State) (m : Nat) : State := s.modMember m fun r => { r with offer := true }
    if !s.isManager then s.refuseFrame from_ f 3
    else if s.hal.hailSeq ≠ some (f.word 2 % 2 ^ 32) then
      match from_ with
      | some p => s.violate p Viol.sequence f.type 0 f.src.toNat
      | none => s.countViolation 1 0 Viol.sequence f.type 0 f.src.toNat
    else match from_, s.freeEntry with
    | some (.member m), _ => if s.memState m.val = Mem.paired then s else offer (s.memRecord m.val f) m.val
    | some _, _ => s
    | none, some m => if s.hal.joinOpen then offer ((s.memRecord m f).memEnter m Mem.seen) m else s
    | none, none => s.raise { src := 833, subject := 0 })

/-- NEG_PENNANT (R460): a negative answering pennant changes nothing but what waits for an answer: a refused JOIN_OFFER or
JOIN_ACCEPT is sent no more. -/
def State.negIn (s : State) (p : Partner) (f : HalFrame) : State :=
  let ty := bitsOf (f.word 1) 56 8
  let n := f.word 1 % 2 ^ 32
  let hit := s.hal.sent.any fun e => e.who = p && e.frame.type = ty && e.frame.num = n
  if !hit then s else
  let s := { s with hal := { s.hal with sent := s.hal.sent.filter fun e => !(e.who = p && e.frame.type = ty && e.frame.num = n) } }
  if ty = Ty.accept ∧ s.halState = HalSt.joining then s.halEnter s.hal.before
  else if ty = Ty.leave then (if (s.busyOp 0x45).isSome then s.endBusy Rc.refused [] else s)
  else if ty = Ty.release then (if (s.busyOp 0x41).isSome then s.endBusy Rc.ok [] else s)
  else if ty = Ty.command then (if (s.busyOp 0x42).isSome then s.endBusy Rc.refused [] else s)
  else if ty = Ty.regWrite then (if (s.busyOp 0x43).isSome then s.endBusy Rc.refused [0] else s)
  else s
/-- NEG_PENNANT (R460). -/
def execNegPennant (f : HalFrame) (s : State) : Host.Outcome State Fault Refusal :=
  settle s (s.halIn Ty.neg f fun s from_ => match from_ with | some p => s.negIn p f | none => s)

/-- MANAGER_HAIL_TIMER (R446): every `HAIL_PER` super-ticks. -/
def execManagerHailTimer (s : State) : Host.Outcome State Fault Refusal :=
  settle s (
    if !s.isManager ∨ !s.hierOn ∨ s.hal.hail < s.cfg F.LIN_DISC_CFG_HAIL_PER then s else
    let s := { s with hal := { s.hal with hail := 0 } }.halSend .manager Ty.hail 0 0 true s.helloWords
    { s with hal := { s.hal with hailSeq := some (seqOf s.hal.tx .manager Ty.hail) } })

/-! ## Joining and leaving (R444 to R451) -/

/-- Offers due go out at a tick boundary, at phase 0 (R447). -/
def State.sendOffers (s : State) : State :=
  let due := s.hal.members.filter (·.offer)
  s.each due fun s r =>
    let s := s.modMember r.num fun r => { r with offer := false }
    if s.memState r.num ≠ Mem.seen ∧ s.memState r.num ≠ Mem.lost then s
    else s.halSend (memPartner r.num) Ty.offer (BitVec.ofNat 64 (s.memBurgee r.num)) (s.memAddr r.num) false
      [BitVec.ofNat 64 (s.memAddr r.num), BitVec.ofNat 64 s.ts64, BitVec.ofNat 64 s.peerBurgee]

/-- Why an offer is refused, 0 where it is accepted (R446, R460). -/
def State.offerReason (s : State) (f : HalFrame) : Nat :=
  let b := f.src.toNat
  let mgr := s.get F.HAL_MGR
  if !s.isWorker then 3
  else if s.halState = HalSt.unbound then
    (if s.cfg F.HAL_MGR_FILTER = 0 ∨ s.cfg F.HAL_MGR_FILTER = b then 0 else 1)
  else if s.halState = HalSt.orphan then (if b = mgr ∨ b = s.get F.HAL_MGR_ALT then 0 else 2)
  else if b = mgr then 3 else 2

/-- A join begins on a worker: the counts of its manager start anew (R442); the JOIN_ACCEPT goes out. -/
def State.joinAccepts (s : State) (f : HalFrame) : State :=
  let s := { s with hal := { s.hal with before := s.halState } }
  let s := ((s.set F.HAL_MGR f.src.toNat).set F.HAL_MGR_ALT (f.word 2)).set F.HAL_STATE_ADDR (f.word 0 % 2 ^ 14)
  let s := (s.halEnter HalSt.joining).seqRestart .manager
  let s := { s with hal := { s.hal with rx := setSeq s.hal.rx .manager Ty.offer f.num } }
  s.halSend .manager Ty.accept f.src f.srcAddr.toNat false [BitVec.ofNat 64 (s.get F.HAL_STATE_CONFIG_GEN)]

/-- JOIN_OFFER (R446, R447): accepted or refused; with `AUTO_FTC` the count is taken for a tick generator that does not run. -/
def execJoinOffer (f : HalFrame) (s : State) : Host.Outcome State Fault Refusal :=
  settle s (s.halIn Ty.offer f fun s from_ =>
    let r := s.offerReason f
    if r ≠ 0 then (s.put F.HAL_STICKY_OFFER_REFUSED true).refuseFrame from_ f r
    else
      let s := s.joinAccepts f
      if s.on F.HAL_CFG_AUTO_FTC ∧ !s.bit F.CLK_FTC_CTRL_ENABLE then
        { s.set F.CLK_FTC_SET (f.word 1 / 8192 + 1) with hal := { s.hal with autoFtc := true } }
      else s)

/-- AUTO_FTC_ENABLE (R447): one tick after the accepted offer. -/
def execAutoFtcEnable (s : State) : Host.Outcome State Fault Refusal :=
  settle s (
    if !s.hal.autoFtc then s else
    let s := { s with hal := { s.hal with autoFtc := false } }
    if s.bit F.CLK_FTC_CTRL_ENABLE then s
    else (s.put F.CLK_FTC_CTRL_ENABLE true).ftcStart.startStreamGates)

/-- The entry of a joining worker becomes PAIRED (R445, R448): the counts start anew. -/
def State.memJoins (s : State) (m : Nat) (f : HalFrame) : State :=
  let p := memPartner m
  let s := ((s.answered p Ty.offer).seqRestart p)
  let s := { s with hal := { s.hal with rx := setSeq s.hal.rx p Ty.accept f.num } }
  let s := (s.set (F.HAL_MEM_STATE_CONFIG_GEN m) (f.word 0 % 65536)).modMember m fun r => { r with silent := 0, offer := false }
  (s.memEnter m Mem.paired).halAck p f

/-- JOIN_ACCEPT (R445, R450, R451): of an entry's worker; or, with the takeover bit, of the recorded pair peer of one, whose
burgee the entry then records. -/
def execJoinAccept (f : HalFrame) (s : State) : Host.Outcome State Fault Refusal :=
  settle s (s.halIn Ty.accept f fun s from_ =>
    if bitOf (f.word 0) 32 ∧ s.isManager ∧ from_.isNone then
      match s.hal.members.find? fun r => r.peer = f.src.toNat ∧ r.peer ≠ 0 ∧ s.memState r.num ≠ Mem.absent with
      | some r =>
        let old := s.memBurgee r.num
        let s := s.set (F.HAL_MEM_BURGEE r.num) f.src.toNat
        (s.modMember r.num fun q => { q with peer := old }).memJoins r.num f
      | none => s.fromMember from_ f fun s _ => s
    else s.fromMember from_ f fun s m => s.memJoins m f)

/-- LEAVE (R448): a manager acknowledges it; the entry is LOST when its TIME_REQs stay out (R445). -/
def execLeave (f : HalFrame) (s : State) : Host.Outcome State Fault Refusal :=
  settle s (s.halIn Ty.leave f fun s from_ => s.fromMember from_ f fun s m => s.halAck (memPartner m) f)

/-- RELEASE (R444, R448): a worker goes to UNBOUND. -/
def execHalReleaseFrame (f : HalFrame) (s : State) : Host.Outcome State Fault Refusal :=
  settle s (s.halIn Ty.release f fun s from_ =>
    if from_ = some .manager ∧ s.halState ≠ HalSt.unbound then (s.halAck .manager f).halEnter HalSt.unbound
    else s.refuseFrame from_ f 1)

/-- A waiting reliable frame's acknowledgement acts (R444, R448, R456). -/
def State.ackActs (s : State) (e : Sent) : State :=
  let ty := e.frame.type
  if ty = Ty.accept then
    (if s.halState = HalSt.joining then { s with hal := { s.hal with mgrSilent := 0 } }.halEnter HalSt.member else s)
  else if ty = Ty.leave then
    let s := s.halEnter HalSt.unbound
    if (s.busyOp 0x45).isSome then s.endBusy Rc.ok [] else s
  else if ty = Ty.release then (if (s.busyOp 0x41).isSome then s.endBusy Rc.ok [] else s)
  else s
/-- HALYARD_ACKNOWLEDGEMENT (R442, R444, R448): `f` names the type and sequence number of the frame it acknowledges. -/
def execHalyardAcknowledgement (f : HalFrame) (s : State) : Host.Outcome State Fault Refusal :=
  settle s (
    if !s.hierOn ∨ f.port.val ≠ s.hierPort then s else
    match s.hal.sent.find? fun e => e.frame.ty = f.ty ∧ e.frame.seq = f.seq ∧ (e.frame.dst = f.src ∨ e.frame.dst = 0) with
    | none => s
    | some e =>
      let s := { s with hal := { s.hal with sent := s.hal.sent.filter (· ≠ e) } }
      (s.alive e.who).ackActs e)

/-- MANAGER_LOST (R449): three super-ticks without a valid frame of the manager. -/
def State.managerGone (s : State) : State :=
  let s := (s.put F.HAL_STICKY_MGR_LOST true).halEnter HalSt.orphan
  let s := { s with hal := { s.hal with timeReq := none } }
  s.each [RefSlot.pri, RefSlot.alt] fun s sl => if s.refKind sl = 4 ∧ s.refQual sl then s.loseRef sl else s
/-- MANAGER_LOST (R449). -/
def execManagerLost (s : State) : Host.Outcome State Fault Refusal :=
  settle s (if s.halState = HalSt.member ∧ 3 ≤ s.hal.mgrSilent then s.managerGone else s)

/-- MEMBER_LOST (R445): three super-ticks without a TIME_REQ of a PAIRED member. -/
def execMemberLost (m : Fin 128) (s : State) : Host.Outcome State Fault Refusal :=
  settle s (
    if s.isManager ∧ 0 < m.val ∧ s.memState m.val = Mem.paired ∧ 3 ≤ (s.member m.val).silent then s.memEnter m.val Mem.lost else s)

/-! ## Retransmission (R442) -/

/-- What follows where a reliable frame stays unanswered: its receiver is lost (R442, R444, R445, R456). -/
def State.gaveUp (s : State) (e : Sent) : State :=
  let ty := e.frame.type
  let s := match e.who with
    | .member m => if s.memState m.val = Mem.absent then s else s.memEnter m.val Mem.lost
    | .manager =>
      if ty = Ty.accept ∧ s.halState = HalSt.joining then s.halEnter s.hal.before
      else if s.halState = HalSt.member then s.managerGone else s
    | _ => s
  let close (op code : Nat) (res : List Nat) : State := if (s.busyOp op).isSome then s.endBusy code res else s
  if ty = Ty.release then close 0x41 Rc.ok []
  else if ty = Ty.command then close 0x42 Rc.refused []
  else if ty = Ty.regWrite then close 0x43 Rc.refused [0]
  else if ty = Ty.leave then close 0x45 Rc.refused []
  else s
/-- RETRANSMIT (R442): the `i`th waiting frame has had no answer for 8 ticks: it is sent again, up to 16 times. -/
def execRetransmit (i : Nat) (s : State) : Host.Outcome State Fault Refusal :=
  settle s (match s.hal.sent[i]? with
    | none => s
    | some e =>
      if s.tick < e.at_ + 8 then s
      else if 16 ≤ e.tries then { s with hal := { s.hal with sent := s.hal.sent.eraseIdx i } }.gaveUp e
      else
        let s := { s with hal := { s.hal with sent := modAt s.hal.sent i fun e => { e with at_ := s.tick, tries := e.tries + 1 } } }
        if s.hierOn then (s.emit (.hal e.frame)).tal 22 1 1 else s)

/-! ## Time (R452) -/

/-- TIME_REQ_SEND (R452): a member's request at a super-tick boundary; one that had no answer has failed. -/
def execTimeReqSend (s : State) : Host.Outcome State Fault Refusal :=
  settle s (
    if !s.superTick ∨ s.halState ≠ HalSt.member ∨ !s.hierOn then s else
    let s := if s.hal.timeReq.isSome then s.put F.HAL_STICKY_TIME_INVALID true else s
    let s := { s with hal := { s.hal with timeReq := some (s.ts64, s.tick) } }
    s.halSend .manager Ty.timeReq (BitVec.ofNat 64 (s.get F.HAL_MGR)) 0 false [BitVec.ofNat 64 s.ts64])

/-- TIME_REQ (R445, R452): the manager answers with its stamps of the request's arrival and of its own answer. -/
def execTimeReq (f : HalFrame) (t2 t3 : Word) (s : State) : Host.Outcome State Fault Refusal :=
  settle s (s.halIn Ty.timeReq f fun s from_ => s.fromMember from_ f fun s m =>
    let s := s.modMember m fun r => { r with silent := 0 }
    s.halSend (memPartner m) Ty.timeResp f.src f.srcAddr.toNat false [f.payload.getD 0 0, t2, t3])

/-- The result of an exchange (R452): rtt and offset in phase units. -/
def timeResult (t1 t2 t3 t4 : Int) : Int × Int := ((t4 - t1) - (t3 - t2), ((t2 - t1) - (t4 - t3)) / 2)

/-- TIME_RESP (R65, R452): the exchange is shown; it is valid within `RTT_MAX` and in its super-tick; a valid offset whose
nearest tick is not the device's raises the count mismatch while a HALYARD reference is selected. -/
def execTimeResp (f : HalFrame) (t4 : Word) (s : State) : Host.Outcome State Fault Refusal :=
  settle s (s.halIn Ty.timeResp f fun s from_ =>
    if from_ ≠ some .manager then s.refuseFrame from_ f 1 else
    match s.hal.timeReq with
    | none => s
    | some (t1, at_) =>
      if f.word 0 ≠ t1 then s else
      let (rtt, offset) := timeResult t1 (f.word 1) (f.word 2) t4.toNat
      let s := { s with hal := { s.hal with timeReq := none } }
      let s := (s.set F.HAL_TIME_LAST_OFFSET (unsgn 16 offset)).set F.HAL_TIME_LAST_RTT (unsgn 16 rtt)
      if (s.cfg F.HAL_TIME_CFG_RTT_MAX : Int) < rtt ∨ at_ / 16 ≠ s.tick / 16 then s.put F.HAL_STICKY_TIME_INVALID true
      else
        let taken := s.refKind .pri = 4 || s.refKind .alt = 4
        if taken ∧ (offset + 4096) / 8192 ≠ 0 ∧ !s.bit F.CLK_STICKY_COUNT_MISMATCH then
          (s.put F.CLK_STICKY_COUNT_MISMATCH true).raise { src := 16, code := 3 }
        else s)

/-! ## Remote commands and writes (R453) -/

/-- Referenced bytes as payload words (PRESUMED, log 66): for each run a word with offset and length, then its bytes. -/
def runWords (runs : List (Nat × List Byte)) : List Word :=
  let chunk (bs : List Byte) : List Word :=
    (List.range (ceilDiv bs.length 8)).map fun i => BitVec.ofNat 64 (leNat ((bs.drop (8 * i)).take 8))
  runs.flatMap fun r => BitVec.ofNat 64 (r.1 * 2 ^ 32 + r.2.length) :: chunk r.2
/-- Bytes of a list of words. -/
def wordsBytes (ws : List Word) : List Byte := ws.flatMap fun w => leBytes 8 w.toNat
/-- The runs of referenced bytes are written to central SRAM; `n` bounds their number. -/
def State.takeRuns : Nat → State → List Word → State
  | 0, s, _ => s
  | _, s, [] => s
  | n + 1, s, w :: r =>
    let len := w.toNat % 2 ^ 32
    let k := ceilDiv len 8
    let at_ := w.toNat / 2 ^ 32
    let s := if at_ + len ≤ 0x3C00000 then s.wr Sp.sram at_ ((wordsBytes (r.take k)).take len) else s
    s.takeRuns n (r.drop k)

/-- A 32-bit write to a BAR0 offset by a master (R130 to R133): the answer says whether it was accepted. -/
def State.write32 (s : State) (addr master v : Nat) : Bool × State :=
  let refuse (kind : Nat) : Bool × State := (false, s.logAccess addr master kind true 15)
  if addr % 4 ≠ 0 then refuse Kind.unaligned else
  match s.target addr with
  | .reg _ => s.masterWrite addr master v
  | .sram off => match s.sramKind off 4 true with
    | some k => refuse k
    | none => (true, s.wr Sp.sram off (leBytes 4 v))
  | _ => refuse Kind.unmapped

/-- COMMAND (R453): accepted like a slot's command; a RESULT says that it is at the dip. -/
def State.commandIn (s : State) (f : HalFrame) : State :=
  let w := f.word 0
  let n := Nat.min 12 (bitsOf w 8 4)
  let args := (List.range 12).map fun i => if i < n then f.word (1 + i) % 2 ^ 32 else 0
  let s := s.takeRuns 8 (f.payload.drop (1 + n))
  let (c, s) := s.accept (.frame f) (bitsOf w 0 8) (bitsOf w 8 4) args (bitsOf w 16 16)
  s.sendResult f 1 0 c.tag args
/-- COMMAND (R449, R453). -/
def execHalCommand (f : HalFrame) (s : State) : Host.Outcome State Fault Refusal :=
  settle s (s.halIn Ty.command f fun s from_ => s.fromManager from_ f fun s => s.commandIn f)

/-- A received frame reaches `HAL_RX_SID` as one packet (R455). -/
def State.deliverFrame (s : State) (f : HalFrame) : State :=
  s.sendInternal (s.cfg F.HAL_SID_RX_SID) s.tick (packetOf (f.words.flatMap fun w => beBytes 8 w.toNat))

/-- RESULT (R453, R455, R456): delivered; a close up ends `HAL_SEND_CMD`. -/
def execHalResult (f : HalFrame) (s : State) : Host.Outcome State Fault Refusal :=
  settle s (s.halIn Ty.result f fun s from_ => match from_ with
    | some (.member m) =>
      let s := (s.answered (memPartner m.val) Ty.command).deliverFrame f
      (match s.busyOp 0x42 with
      | some b =>
        if f.word 0 % 4 = 2 ∧ s.memAddr m.val = b.cmd.arg 0 then
          s.endBusy Rc.ok (f.word 1 % 2 ^ 32 :: ((List.range 11).map fun i => f.word (2 + i) % 2 ^ 32))
        else s
      | none => s)
    | _ => s.deliverFrame f)

/-- The pairs of a REG_WRITE are applied in order up to the first refused (R453): how many were applied. -/
def State.applyPairs : State → List Word → Nat → Nat × State
  | s, [], n => (n, s)
  | s, w :: r, n =>
    let (ok, t) := s.write32 (w.toNat / 2 ^ 32) 11 (w.toNat % 2 ^ 32)
    if ok then t.applyPairs r (n + 1) else (n, t)
/-- REG_WRITE (R449, R453). -/
def execHalRegWriteFrame (f : HalFrame) (s : State) : Host.Outcome State Fault Refusal :=
  settle s (s.halIn Ty.regWrite f fun s from_ => s.fromManager from_ f fun s =>
    let (n, s) := s.applyPairs (f.payload.take 256) 0
    s.halAnswer .manager f Ty.regAck [BitVec.ofNat 64 n])
/-- REG_ACK (R453, R456). -/
def execRegAck (f : HalFrame) (s : State) : Host.Outcome State Fault Refusal :=
  settle s (s.halIn Ty.regAck f fun s from_ => s.fromMember from_ f fun s m =>
    let s := s.answered (memPartner m) Ty.regWrite
    match s.busyOp 0x43 with
    | some b => if b.cmd.arg 0 = m then s.endBusy Rc.ok [f.word 0 % 2 ^ 32] else s
    | none => s)

/-! ## Images (R454) -/

/-- Whether the member's image region takes `n` bytes at an offset: large enough, powered, and not locked. -/
def State.regionTakes (s : State) (off n : Nat) : Bool :=
  let a := s.cfg F.HAL_IMG_BASE_OFF
  decide (off + n ≤ s.cfg F.HAL_IMG_BASE_MB * 2 ^ 20) && (s.sramKind (a + off) n true).isNone && (s.busyOp 0x10).isNone
/-- The bytes that the image in the region has by its header (R219). -/
def State.pushTotal (s : State) : Nat :=
  let a := s.cfg F.HAL_IMG_BASE_OFF
  0x80 + 4 * s.rdLE Sp.sram (a + 8) 4 + s.rdLE Sp.sram (a + 12) 4 + 96
/-- A chunk's bytes are stored; a complete image runs `IMAGE_LOAD` (R454). The chunk's third word carries the image, the tile
mask, the load word address and the constant offset (PRESUMED, log 67). -/
def State.chunkIn (s : State) (f : HalFrame) : State :=
  let w := f.word 2
  let id := bitsOf w 0 16
  let off := f.word 3
  let bytes := wordsBytes (f.payload.drop 4)
  let answer (s : State) (code : Nat) : State :=
    { s with hal := { s.hal with pushIn := none } }.halAnswer .manager f Ty.imgStatus [BitVec.ofNat 64 code, BitVec.ofNat 64 id]
  let have_ : Nat := match s.hal.pushIn with | some p => if p.id = id then p.bytes else 0 | none => 0
  if off ≠ 0 ∧ off ≠ have_ then s
  else if !s.regionTakes off bytes.length then answer s Rc.badArg
  else
    let a := s.cfg F.HAL_IMG_BASE_OFF
    let s := s.wr Sp.sram (a + off) bytes
    let got := off + bytes.length
    if got < 0x80 ∨ got < s.pushTotal then { s with hal := { s.hal with pushIn := some { id := id, bytes := got } } }
    else
      let s := { s with hal := { s.hal with pushIn := none } }
      let args := [a, bitsOf w 16 8, bitsOf w 24 17, bitsOf w 41 22] ++ List.replicate 8 0
      (s.accept (.frame f) 0x10 4 args id).2
/-- IMAGE_CHUNK (R449, R454): a member whose mask bit is clear discards it. -/
def execImageChunk (f : HalFrame) (s : State) : Host.Outcome State Fault Refusal :=
  settle s (s.halIn Ty.chunk f fun s from_ => s.fromManager from_ f fun s =>
    let me := s.halAddr % 128
    if bitOf (f.word (me / 64)) (me % 64) then s.chunkIn f else s)

/-- The 128-bit mask of members as four argument words. -/
def maskWords (l : List Nat) : List Nat :=
  (List.range 4).map fun w => sumL ((l.filter (· / 32 = w)).map fun m => 2 ^ (m % 32))
/-- IMAGE_STATUS (R454, R456): the member's result; when every selected member has answered, the push closes up. -/
def execImageStatus (f : HalFrame) (s : State) : Host.Outcome State Fault Refusal :=
  settle s (s.halIn Ty.imgStatus f fun s from_ => s.fromMember from_ f fun s m =>
    match s.hal.pushOut with
    | none => s
    | some p =>
      if !p.asked.contains m ∨ p.answered.contains m then s else
      let p := { p with answered := m :: p.answered, good := if f.word 0 % 256 = 0 then m :: p.good else p.good }
      let s := { s with hal := { s.hal with pushOut := some p } }.raise { src := 837, subject := m, data := f.word 0 }
      if p.asked.all p.answered.contains ∧ (s.busyOp 0x44).isSome then
        { s with hal := { s.hal with pushOut := none } }.endBusy Rc.ok (maskWords p.good)
      else s)
/-- IMAGE_PUSH_TIMEOUT (R456): 2,000 ticks after the last chunk. -/
def execImagePushTimeout (s : State) : Host.Outcome State Fault Refusal :=
  settle s (match s.hal.pushOut, s.busyOp 0x44 with
    | some p, some _ =>
      if s.tick < p.last + 2000 then s
      else { s with hal := { s.hal with pushOut := none } }.endBusy Rc.ok (maskWords p.good)
    | _, _ => s)

/-! ## Events and software data (R455) -/

/-- EVENT (R455). -/
def execHalEvent (f : HalFrame) (s : State) : Host.Outcome State Fault Refusal :=
  settle s (s.halIn Ty.event f fun s _ => s.deliverFrame f)
/-- USER (R455). -/
def execHalUser (f : HalFrame) (s : State) : Host.Outcome State Fault Refusal :=
  settle s (s.halIn Ty.user f fun s _ => s.deliverFrame f)

/-- Records in groups that an EVENT frame carries; `n` bounds the groups. -/
def groupsOf : Nat → List (List Nat) → List (List (List Nat))
  | 0, _ => []
  | _, [] => []
  | n + 1, l => l.take 256 :: groupsOf n (l.drop 256)
/-- The records gathered are forwarded at a tick boundary by a member (R455). -/
def State.forwardEvents (s : State) : State :=
  let l := s.evt.forward
  let s := { s with evt := { s.evt with forward := [] } }
  if s.halState ≠ HalSt.member then s
  else s.each (groupsOf l.length l) fun s g =>
    s.halSend .manager Ty.event (BitVec.ofNat 64 (s.get F.HAL_MGR)) 0 false (g.flatMap fun r => r.map (BitVec.ofNat 64))

/-! ## Mailbox commands 0x40 to 0x46 (R456) -/

/-- `HAL_JOIN_OPEN`. -/
def State.joinOpenBody (s : State) (c : Cmd) : State :=
  ({ s with hal := { s.hal with joinOpen := bitOf (c.arg 0) 0 } } : State).finish c Rc.ok []
/-- HAL_JOIN_OPEN (R456). -/
def execHalJoinOpen (s : State) : Host.Outcome State Fault Refusal := settle s (s.runOp 0x40 1 State.joinOpenBody)

/-- `HAL_RELEASE`: RELEASE goes out, and the entry is ABSENT. -/
def State.halReleaseBody (s : State) (c : Cmd) : State :=
  let m := c.arg 0
  if !s.isManager then s.finish c Rc.refused []
  else if m = 0 ∨ 127 < m ∨ s.memState m = Mem.absent then s.finish c Rc.badArg []
  else
    let lost := s.memState m = Mem.lost
    let s := s.halSend (memPartner m) Ty.release (BitVec.ofNat 64 (s.memBurgee m)) (s.memAddr m) false []
    let s := s.memEnter m Mem.absent
    if lost ∨ !s.hierOn then s.finish c Rc.ok [] else s.begin c
/-- HAL_RELEASE (R448, R456). -/
def execHalRelease (s : State) : Host.Outcome State Fault Refusal := settle s (s.runOp 0x41 1 State.halReleaseBody)

/-- `HAL_SEND_CMD`: the command, with the bytes that it references, goes to the member. -/
def State.sendCmdBody (s : State) (c : Cmd) : State :=
  match s.memAt (c.arg 0) with
  | some m =>
    if !s.isManager ∨ s.memState m ≠ Mem.paired ∨ !s.hierOn then s.finish c Rc.refused [] else
    let w := c.arg 1
    let n := Nat.min 10 (bitsOf w 8 4)
    let args := (List.range n).map fun i => c.arg (2 + i)
    let far : Cmd := { c with op := bitsOf w 0 8, args := args }
    let payload := BitVec.ofNat 64 w :: args.map (BitVec.ofNat 64) ++ runWords (s.cmdBytes far)
    (s.halSend (memPartner m) Ty.command (BitVec.ofNat 64 (s.memBurgee m)) (s.memAddr m) false payload).begin c
  | none => s.finish c Rc.refused []
/-- HAL_SEND_CMD (R456). -/
def execHalSendCmd (s : State) : Host.Outcome State Fault Refusal := settle s (s.runOp 0x42 2 State.sendCmdBody)

/-- `HAL_REG_WRITE`: the pairs, each an offset and a value, go to the member. -/
def State.regWriteBody (s : State) (c : Cmd) : State :=
  let m := c.arg 0
  let n := c.arg 2
  if m = 0 ∨ 127 < m ∨ n = 0 ∨ 256 < n ∨ 0x3C00000 < c.arg 1 + 8 * n then s.finish c Rc.badArg []
  else if !s.isManager ∨ s.memState m ≠ Mem.paired ∨ !s.hierOn then s.finish c Rc.refused []
  else
    let pair (i : Nat) : Word :=
      BitVec.ofNat 64 (s.rdLE Sp.sram (c.arg 1 + 8 * i) 4 * 2 ^ 32 + s.rdLE Sp.sram (c.arg 1 + 8 * i + 4) 4)
    (s.halSend (memPartner m) Ty.regWrite (BitVec.ofNat 64 (s.memBurgee m)) (s.memAddr m) false ((List.range n).map pair)).begin c
/-- HAL_REG_WRITE (R456). -/
def execHalRegWrite (s : State) : Host.Outcome State Fault Refusal := settle s (s.runOp 0x43 3 State.regWriteBody)

/-- One chunk of a push leaves, broadcast (R454, log 67). -/
def State.sendChunk (s : State) (mask0 mask1 head off : Nat) (bs : List Byte) : State :=
  if !s.hierOn then s else
  let n := (seqOf s.hal.tx .manager Ty.chunk + 1) % 2 ^ 32
  let data := (List.range (ceilDiv bs.length 8)).map fun i => BitVec.ofNat 64 (leNat ((bs.drop (8 * i)).take 8))
  let f := s.halFrame Ty.chunk n 0 0 true
    ([BitVec.ofNat 64 mask0, BitVec.ofNat 64 mask1, BitVec.ofNat 64 head, BitVec.ofNat 64 off] ++ data)
  ({ s with hal := { s.hal with tx := setSeq s.hal.tx .manager Ty.chunk n } }.emit (.hal f)).tal 22 1 1
/-- `HAL_IMAGE_PUSH`: the image leaves in chunks of up to 1,020 words. -/
def State.imagePushBody (s : State) (c : Cmd) : State :=
  let len := c.arg 1
  let mask := c.arg 2 + c.arg 3 * 2 ^ 32 + c.arg 4 * 2 ^ 64 + c.arg 5 * 2 ^ 96
  let asked := (List.range 128).filter fun m => bitOf mask m
  if len = 0 ∨ 0x3C00000 < c.arg 0 + len ∨ asked.isEmpty ∨ 256 ≤ c.arg 6 ∨ 131072 ≤ c.arg 7 ∨ 0x400000 ≤ c.arg 8 then
    s.finish c Rc.badArg []
  else if !s.isManager ∨ !s.hierOn then s.finish c Rc.refused []
  else
    let head := s.rdLE Sp.sram (c.arg 0 + 6) 2 + c.arg 6 * 2 ^ 16 + c.arg 7 * 2 ^ 24 + c.arg 8 * 2 ^ 41
    let s := s.each (List.range (ceilDiv len 8160)) fun s i =>
      s.sendChunk (mask % 2 ^ 64) (mask / 2 ^ 64) head (8160 * i)
        (s.rdBytes Sp.sram (c.arg 0 + 8160 * i) (Nat.min 8160 (len - 8160 * i)))
    let s := { s with hal := { s.hal with pushOut := some { req := c.seq, asked := asked, last := s.tick } } }
    s.begin c
/-- HAL_IMAGE_PUSH (R454, R456). -/
def execHalImagePush (s : State) : Host.Outcome State Fault Refusal := settle s (s.runOp 0x44 9 State.imagePushBody)

/-- `HAL_LEAVE`. -/
def State.leaveBody (s : State) (c : Cmd) : State :=
  if s.halState ≠ HalSt.member ∨ !s.hierOn then s.finish c Rc.refused []
  else (s.halSend .manager Ty.leave (BitVec.ofNat 64 (s.get F.HAL_MGR)) 0 false []).begin c
/-- HAL_LEAVE (R448, R456). -/
def execHalLeave (s : State) : Host.Outcome State Fault Refusal := settle s (s.runOp 0x45 0 State.leaveBody)

/-- `HAL_QUAR_CLEAR`: partner kind and identity; of kind 1, member 0 is the manager. -/
def State.quarClearBody (s : State) (c : Cmd) : State :=
  let i := c.arg 1
  let who : Option Partner := match c.arg 0 with
    | 0 => if i < 64 then some (.line (Fin.ofNat 64 i)) else none
    | 1 => if i = 0 then some .manager else if i < 128 then some (memPartner i) else none
    | 2 => some .pair
    | 3 => some .host
    | _ => none
  match who with
  | some p => (s.quarLift p).finish c Rc.ok []
  | none => s.finish c Rc.badArg []
/-- HAL_QUAR_CLEAR (R456, R461). -/
def execHalQuarClear (s : State) : Host.Outcome State Fault Refusal := settle s (s.runOp 0x46 2 State.quarClearBody)

/-! ## Quarantines, malformed messages, links (R458 to R464) -/

/-- QUARANTINE_START (R460, R461): from the tick boundary after the strike that reached `QN`; the partner is told once. -/
def execQuarantineStart (p : Partner) (s : State) : Host.Outcome State Fault Refusal :=
  settle s (match (s.peer p).due with
    | none => s
    | some t =>
      if s.tick < t then s else
      let s := s.quarBegin p
      let note (s : State) (burgee addr : Nat) : State :=
        s.halSend p Ty.neg (BitVec.ofNat 64 burgee) addr false [4, 0]
      match p with
      | .line k => if s.on (F.LIN_DISC_CTRL_EN k.val) then (s.discSend k.val 3 0).2 else s
      | .manager => note s (s.get F.HAL_MGR) 0
      | .member m => note s (s.memBurgee m.val) (s.memAddr m.val)
      | .pair | .host => s)

/-- MALFORMED_MESSAGE (R458, R459): dropped, counted, logged and struck; in quarantine dropped and counted (R461). -/
def execMalformedMessage (p : Partner) (ty : Byte) (s : State) : Host.Outcome State Fault Refusal :=
  settle s (
    let id := match p with
      | .line k => k.val
      | .manager => s.get F.HAL_MGR
      | .member m => s.memBurgee m.val
      | .pair => s.peerBurgee
      | .host => 0
    let s := s.noteMessage p
    if s.quarantined p then
      match p with
      | .manager | .member _ => s.dropFrame s.hierPort
      | _ => s
    else s.violate p Viol.malformed ty.toNat 0 id)

/-- HALYARD_LINK_LOSS (R464). -/
def execHalyardLinkLoss (p : Fin 2) (s : State) : Host.Outcome State Fault Refusal :=
  settle s (
    if !s.bit (F.HAL_H_STATUS_LINK p.val) then s else
    let s := (s.put (F.HAL_H_STATUS_LINK p.val) false).put (F.HAL_H_STATUS_PCS_LOCK p.val) false
    (s.put (F.HAL_H_STICKY_LINK_LOST p.val) true).raise { src := 832, subject := p.val })
/-- HALYARD_LINK_RETURN (R464). -/
def execHalyardLinkReturn (p : Fin 2) (s : State) : Host.Outcome State Fault Refusal :=
  settle s (
    if s.bit (F.HAL_H_STATUS_LINK p.val) then s else
    let s := (s.put (F.HAL_H_STATUS_LINK p.val) true).put (F.HAL_H_STATUS_PCS_LOCK p.val) true
    s.raise { src := 832, subject := p.val })

/-! ## At the boundaries, and after a takeover -/

/-- A tick boundary's part of the hierarchy. -/
def State.hierTick (s : State) : State := s.sendOffers.forwardEvents
/-- A super-tick boundary's part of the hierarchy (R445, R446, R449). -/
def State.hierSuper (s : State) : State :=
  { s with hal := { s.hal with
    hail := s.hal.hail + 1, mgrSilent := s.hal.mgrSilent + 1
    members := s.hal.members.map fun (r : Member) => { r with silent := r.silent + 1 } } }

/-- A new active tells its manager (R451): an unsolicited JOIN_ACCEPT with the takeover bit, from the address it holds; a unit
that was not a member is JOINING until it is acknowledged (DEDUCED, log 68). -/
def State.hierTakeover (s : State) : State :=
  if !s.isWorker ∨ !s.hierOn then s else
  let s := if s.halState = HalSt.member then { s with hal := { s.hal with mgrSilent := 0 } }
    else { s with hal := { s.hal with before := s.halState } }.halEnter HalSt.joining
  (s.seqRestart .manager).halSend .manager Ty.accept (BitVec.ofNat 64 (s.get F.HAL_MGR)) 0 false
    [BitVec.ofNat 64 (2 ^ 32 + s.get F.HAL_STATE_CONFIG_GEN)]

end Sys2Proof.Machine
end

