-- ==== Sys2Proof/Machine/Boot.lean ====
section
/-! DEFINITION. Resets, start-up and the reach of failures (chapter 17): the reset kinds, the steps of R500, boot images and
the start script, mailbox commands 0x18 to 0x1C, the loss of a feed, of DDR channels, of a tile, of the host link. -/

namespace Sys2Proof.Machine

/-! ## Loss of spill memory (R510, R511) -/

/-- The lost bit of a DDR channel. -/
def ddrLostBit (x : Nat) : Fld := if x = 0 then F.SUP_FAULT_STATUS_DDR0_LOST else F.SUP_FAULT_STATUS_DDR1_LOST
/-- A DDR channel is lost (R510, R511, R359): its bit and event, the queues' middles in it, and, where the channel table lies
there, the freeze of the cache. -/
def State.ddrLost (s : State) (x : Nat) : State :=
  if s.bit (ddrLostBit x) then s else
  let s := (s.put (ddrLostBit x) true).raise { src := 900, subject := x }
  let s := s.spillLost x
  if s.cfg F.CHT_CFG_WHERE = x then s.put F.SUP_FAULT_STATUS_CHT_FROZEN true else s
/-- The DDR PLL has come to coast since `old` (R510): both channels are lost. -/
def State.ddrFollows (s old : State) : State :=
  if !old.bit F.CLK_STATUS_DDR_COAST ∧ s.bit F.CLK_STATUS_DDR_COAST then (s.ddrLost 0).ddrLost 1 else s

/-- DDR_CHANNEL_LOST (R510): the DDR PLL coasts, or the controller reports the loss of channel `x`. -/
def execDdrChannelLost (x : Fin 2) (why : DdrLoss) (s : State) : Host.Outcome State Fault Refusal :=
  settle s (match why with
    | .coast => if s.bit F.CLK_STATUS_DDR_COAST then (s.ddrLost 0).ddrLost 1 else s
    | .uncorrectable | .command => s.ddrLost x.val)

/-- XIN_WINDOW (R70, R72, R510). -/
def execXinWindow (count : Nat) (s : State) : Host.Outcome State Fault Refusal := settle s ((s.xinWindow count).ddrFollows s)
/-- CRYSTAL_MONITOR_TRIP (R72, R73, R510): each trip acts alike. -/
def execCrystalMonitorTrip (_why : XtalTrip) (s : State) : Host.Outcome State Fault Refusal :=
  settle s (s.crystalTrip.ddrFollows s)
/-- PLL_COAST (R76, R510). -/
def execPllCoast (p : Pll) (s : State) : Host.Outcome State Fault Refusal := settle s ((s.coast p).ddrFollows s)

/-! ## Resets (R498, R499) -/

/-- Whether a space of memory outlasts a device reset (R498): the calibration page, the NOR, the drive and the host's memory
are kept; on-chip memory is cleared; DDR content is not guaranteed and reads as unwritten memory does (log 12). -/
def spaceKept (sp : Nat) : Bool := [Sp.mtp, Sp.norA, Sp.norB, Sp.nvme, Sp.host].contains sp
/-- Fields of the fuse row and of the page's memory (R498). -/
def keptAlways : List Fld := [F.SUP_BURGEE, F.SUP_KEY_STATUS_SLOT1_SET, F.CAL_WRITES]
/-- What a device reset keeps beside them: the earlier causes, the straps as sampled, the feeds' own state (log 71). -/
def keptByDevice : List Fld :=
  [F.SUP_RESET_CAUSE_POR, F.SUP_RESET_CAUSE_PIN, F.SUP_RESET_CAUSE_COMMAND, F.SUP_RESET_CAUSE_DEBUG, F.SUP_RESET_CAUSE_SUPERVISOR,
   F.SUP_BOOT_STATUS_BOOT_MODE, F.CLK_XIN_CFG_FREQ, F.CLK_XIN_CFG_MODE, F.PRT_PAIR_STATUS_PREF, F.PWR_STATUS_FEED_A_OK, F.PWR_STATUS_FEED_B_OK]

/-- A reset with its cause (R498, R499, R516): every register at its reset value but what the reset keeps, on-chip memory
cleared, the tick generator off. A page that was being programmed holds words that the spec does not state (log 23). -/
def State.restart (s : State) (cause : Fld) (por : Bool) : State :=
  let s := if s.bit F.CAL_STATUS_BUSY then
      (s.each (List.range 512) fun s i => let (w, s) := s.draw; s.wrLE Sp.mtp (8 * i) 8 w.toNat).inc F.CAL_WRITES 1
    else s
  let kept := if por then keptAlways else keptAlways ++ keptByDevice
  let fresh : State := {
    mem := (s.dropSpaces fun sp => !spaceKept sp).mem
    clk := { xinSel := if por then 0 else s.clk.xinSel }
    pwr := { ocA := !por && s.pwr.ocA, ocB := !por && s.pwr.ocB }
    boot := { held := s.boot.held, sampled := !por && s.boot.sampled, keySlot1 := s.boot.keySlot1 }
    pins := s.pins, out := s.out, free := s.free, pending := s.pending }
  (fresh.each kept fun t f => t.set f (s.get f)).put cause true

/-- POWER_ON_RESET (R498): first power, or loss of both feeds; start-up runs from step 1. -/
def execPowerOnReset (s : State) : Host.Outcome State Fault Refusal := settle s (s.restart F.SUP_RESET_CAUSE_POR true)
/-- RESET_PIN (R498, R523): `RESET_N` is low; start-up waits for its rise. -/
def execResetPin (s : State) : Host.Outcome State Fault Refusal :=
  settle s (
    let s := s.restart F.SUP_RESET_CAUSE_PIN false
    { s with boot := { s.boot with held := true } })
/-- JTAG_RESET (R498). -/
def execJtagReset (s : State) : Host.Outcome State Fault Refusal := settle s (s.restart F.SUP_RESET_CAUSE_DEBUG false)

/-- The straps are sampled (R68, R502, R518). -/
def State.sampleStraps (s : State) (st : Straps) : State :=
  let s := (s.set F.SUP_BOOT_STATUS_BOOT_MODE st.bootMode.toNat).put F.PRT_PAIR_STATUS_PREF st.pairPref
  let x := st.xinSel.toNat
  let s := (s.set F.CLK_XIN_CFG_FREQ (3 - x - b2n (x = 0))).put F.CLK_XIN_CFG_MODE (x ≠ 0)
  { s with clk := { s.clk with xinSel := st.xinSel.toNat }, boot := { s.boot with sampled := true } }

/-- RESET_N_RISE (R518, R523). -/
def execResetNRise (st : Straps) (s : State) : Host.Outcome State Fault Refusal :=
  settle s (
    if !s.boot.held then s else
    let s := s.sampleStraps st
    { s with boot := { s.boot with held := false } })

/-! ## Feeds (R97, R99, R101) -/

/-- FEED_LOST (R95, R97, R101): the feed's bits and event; the cap of one feed; the supervisor that it fed. The loss of both
feeds waits for its power-on reset (R99). -/
def execFeedLost (f : Feed) (why : FeedTrip) (s : State) : Host.Outcome State Fault Refusal :=
  settle s (
    let pick {α : Type} (a b : α) : α := match f with | .a => a | .b => b
    let ok := pick F.PWR_STATUS_FEED_A_OK F.PWR_STATUS_FEED_B_OK
    if !s.bit ok then s else
    let s := (s.put ok false).put (pick F.PWR_STICKY_FEED_A_LOST F.PWR_STICKY_FEED_B_LOST) true
    let s := match why with
      | .uv => s
      | .ov => s.put (pick F.PWR_STICKY_FEED_A_OV F.PWR_STICKY_FEED_B_OV) true
      | .oc =>
        let s := s.put (pick F.PWR_STICKY_FEED_A_OC F.PWR_STICKY_FEED_B_OC) true
        { s with pwr := { s.pwr with ocA := s.pwr.ocA || pick true false, ocB := s.pwr.ocB || pick false true } }
    if !s.bit (pick F.PWR_STATUS_FEED_B_OK F.PWR_STATUS_FEED_A_OK) ∨ !s.boot.supDone then s else
    let s := ({ s with pwr := { s.pwr with tbStop := true, restoredAt := none } } : State).raise { src := 0, code := 0, subject := pick 0 1 }
    let s := (s.put F.PWR_STATUS_SINGLE_FEED true).showCap
    if s.get F.PWR_STATUS_SUP_ACTIVE ≠ pick 0 1 then
      { s with pwr := { s.pwr with supReload := false } }.put F.PWR_STATUS_SUP_DUAL false
    else if s.bit F.PWR_STATUS_SUP_DUAL then s.supSwitch
    else s.restart F.SUP_RESET_CAUSE_SUPERVISOR false)

/-! ## Steps 2 to 6 (R500, R501) -/

/-- SUPERVISORS_STARTED (R500, R518, R523): at the end of step 2; a power-on reset samples the straps there, unless `RESET_N`
is low. -/
def execSupervisorsStarted (st : Straps) (s : State) : Host.Outcome State Fault Refusal :=
  settle s (
    let a := s.bit F.PWR_STATUS_FEED_A_OK
    let b := s.bit F.PWR_STATUS_FEED_B_OK
    if s.boot.supDone ∨ (!a ∧ !b) ∨ (s.boot.held ∧ s.boot.sampled) then s else
    let s := if s.boot.sampled ∨ s.boot.held then s else s.sampleStraps st
    let s := { s with boot := { s.boot with supDone := true } }
    let s := s.each [112, 113, 150] fun s n => (s.setDom n Dom.on).put (F.PWR_DOM_CTRL_ON n) true
    let s := (s.set F.PWR_STATUS_SUP_ACTIVE (if a then 0 else 1)).put F.PWR_STATUS_SUP_DUAL (a && b)
    ((s.put F.PWR_STATUS_SINGLE_FEED (!(a && b))).showCap.showKeep).bootShow)

/-- The lock bit of a PLL is set (R76). -/
def State.pllLocked (s : State) : Pll → State
  | .core => s.put F.CLK_STATUS_CORE_LOCK true
  | .fabric => s.put F.CLK_STATUS_FAB_LOCK true
  | .ddr => s.put F.CLK_STATUS_DDR_LOCK true
  | .quad q => (s.orF F.CLK_STATUS_QPLL_LOCK (2 ^ q.val)).put (F.LIN_QUAD_STATUS_LOCK q.val) true
/-- A PLL of step 5 is done with (R500, R501). -/
def State.pllEnds (s : State) (i : Nat) : State :=
  if i < 3 ∧ !s.boot.pllDone.contains i then { s with boot := { s.boot with pllDone := s.boot.pllDone ++ [i] } } else s

/-- PLL_LOCK (R76, R500): effective where the PLL's input is qualified and, for a quad, its domain is powered. -/
def execPllLock (p : Pll) (s : State) : Host.Outcome State Fault Refusal :=
  settle s (
    let powered : Bool := match p with | .quad q => s.domWorks (144 + q.val) | _ => true
    if !s.pllInputOk p ∨ !powered then s else ((s.pllLocked p).pllEnds (pllIdx p)).bootShow)

/-- Clock domains that a PLL feeds move to their floor (R501). -/
def State.toFloor (s : State) (fed : List Nat) : State :=
  let src := s.get F.CLK_DOMSW_STATUS_SRC
  let move := fed.filter fun d => bitsOf src (2 * d) 2 = 0
  let s := s.set F.CLK_DOMSW_STATUS_SRC (move.foldl (fun v d => putBits v (2 * d) 2 1) src)
  { s with clk := { s.clk with coasted := s.clk.coasted ++ move } }

/-- PLL_LOCK_TIMEOUT (R501): 5 ms after step 4 a PLL of step 5 has no lock. -/
def execPllLockTimeout (p : Pll) (s : State) : Host.Outcome State Fault Refusal :=
  settle s (
    let i := pllIdx p
    if !s.bit F.CLK_STATUS_XIN_OK ∨ 3 ≤ i ∨ s.boot.pllDone.contains i then s else
    let s := match p with
      | .core => ((s.put F.CLK_STATUS_CORE_COAST true).put F.SUP_BOOT_STATUS_CORE_NOLOCK true).toFloor (List.range 8)
      | .fabric => ((s.put F.CLK_STATUS_FAB_COAST true).put F.SUP_BOOT_STATUS_FAB_NOLOCK true).toFloor [8]
      | _ => ((s.put F.SUP_BOOT_STATUS_DDR_NOLOCK true).ddrLost 0).ddrLost 1
    (s.pllEnds i).bootShow)

/-- The fields of a good calibration page are applied (R122, R120). -/
def State.calApply (s : State) : State :=
  let e := s.rdLE Sp.mtp 0x14 4
  let s := if 1 ≤ e ∧ e ≤ 65535 then s.setBoth F.PWR_SLOT_ENERGY e else s
  let s := { s with pwr := { s.pwr with sensorOffs := (List.range 12).map fun i => sgn 16 (s.rdLE Sp.mtp (0x20 + 2 * i) 2) } }
  let s := s.each (List.range 3) fun s i => s.set (F.PWR_RETIRED i) (s.rdLE Sp.mtp (0x184 + 4 * i) 4)
  s.each (List.range 8) fun s t => s.set (F.TILE_STATUS_ENG_RETIRED t) (bitsOf (s.rdLE Sp.mtp 0x184 12) (12 * t) 12)

/-- CAL_LOAD (R122, R500, R502): step 6; a host source waits from the start of step 7. -/
def execCalLoad (s : State) : Host.Outcome State Fault Refusal :=
  settle s (
    if !s.stepHolds 5 ∨ !s.boot.supDone ∨ s.boot.calDone then s else
    let s := s.tal 6 0 1
    let s := if s.calGood then s.calApply
      else ((s.put F.CAL_STATUS_CAL_INVALID true).tal 6 1 1).raise { src := 4, code := 1 }
    let s := ({ s with boot := { s.boot with calDone := true } } : State).bootShow
    if s.get F.SUP_BOOT_STATUS_BOOT_MODE = 1 then s.set F.SUP_BOOT_STATUS_STEP 14 else s)

/-! ## Boot images (R502 to R505) -/

/-- What a boot image's header says (R503): the power map, the controllers used, offsets of the script and of the signature. -/
structure BootImage where
  powerMap : Nat
  ddrUse : Nat
  scriptAt : Nat
  scriptLen : Nat
deriving DecidableEq, Repr

/-- Bytes from the start to the signature. -/
def BootImage.signed (b : BootImage) : Nat := b.scriptAt + b.scriptLen

/-- The header of the image at `a`, with `limit` bytes (R503, R504): the failure code of R516 (1 no `MAGIC`, 2 bad header), 0
where it is good. -/
def State.bootHeader (s : State) (sp a limit : Nat) : Nat × BootImage :=
  let u (o n : Nat) : Nat := s.rdLE sp (a + o) n
  let fw := u 0x8 4
  let sc := u 0xC 4
  let b : BootImage := { powerMap := u 0x10 24, ddrUse := u 0x28 4, scriptAt := 0x180 + fw, scriptLen := sc }
  let zero (o n : Nat) : Bool := (s.rdBytes sp (a + o) n).all (· = 0)
  if u 0 4 ≠ 0x544F4F42 then (1, b)
  else if u 4 2 ≠ 1 ∨ u 6 2 ≠ 0 ∨ fw % 4 ≠ 0 ∨ sc % 16 ≠ 0 ∨ 2 ^ 162 ≤ b.powerMap ∨ 4 ≤ b.ddrUse ∨ !zero 0x2C 20 ∨ !zero 0xA1 31
    ∨ !zero 0x121 95 ∨ limit < b.signed + 96 then (2, b)
  else (0, b)

/-- The key that an image names (R503). -/
def State.bootKey (s : State) (sp a : Nat) : List Byte := s.rdBytes sp (a + 0xC0) 97
/-- Whether the image's own signature is good (R503, R505). -/
def State.bootSigned (s : State) (sp a : Nat) (b : BootImage) : Bool :=
  signatureGood (s.bootKey sp a) (s.rdBytes sp a b.signed) (s.rdBytes sp (a + b.signed) 96)
/-- The hash in the active key slot (R504). -/
def State.activeKey (s : State) : List Byte := s.boot.keySlot1.getD Config.factoryKeyHash
/-- The image at `a` is verified (R504): the failure code of R516, 0 where it is accepted. -/
def State.bootJudge (s : State) (sp a limit : Nat) : Nat × BootImage :=
  let (code, b) := s.bootHeader sp a limit
  if code ≠ 0 then (code, b)
  else if sha384 (s.bootKey sp a) ≠ s.activeKey then (3, b)
  else if !s.bootSigned sp a b then (4, b) else (0, b)

/-- Step 8 has ended (R500, R507): the progress shows it, and a `BOOT_LOAD` closes up. -/
def State.bootEnds (s : State) : State :=
  if !s.bootDone then s else
  let s := s.bootShow
  match s.boot.load with
  | some c => ({ s with boot := { s.boot with load := none } } : State).finish c Rc.ok []
  | none => s

/-- An image is accepted (R500, R503, R504): step 7 is complete, and step 8 begins. -/
def State.bootAccept (s : State) (src sp a : Nat) (b : BootImage) : State :=
  let named := (List.range 162).filter fun n => bitOf b.powerMap n && !(decide (n < 96) && s.engRetired n)
  let train := (List.range 2).filter fun x => bitOf b.ddrUse x && !s.bit F.SUP_BOOT_STATUS_DDR_NOLOCK
  let s := (s.set F.SUP_BOOT_STATUS_SRC_USED src).put F.SUP_KEY_STATUS_KEY_USED s.boot.keySlot1.isSome
  let s := s.each named fun s n => s.put (F.PWR_DOM_CTRL_ON n) true
  let s := { s with boot := { s.boot with
    image := true, ddrUse := train, script := s.rdBytes sp (a + b.scriptAt) b.scriptLen, imageKey := s.rdBytes sp (a + 0x40) 97
    powerMap := named.filter fun n => s.get (F.PWR_DOM_STATUS_STATE n) ≠ Dom.on } }
  (s.set F.SUP_BOOT_STATUS_STEP s.bootStep).bootPower

/-- BOOT_VERIFY (R502, R504): the image of a NOR slot, in the order of the boot mode; when both have failed, start-up waits for
the host, or halts in mode 2. -/
def execBootVerify (src : BootSource) (readOk : Bool) (s : State) : Host.Outcome State Fault Refusal :=
  settle s (
    let mode := s.get F.SUP_BOOT_STATUS_BOOT_MODE
    let turn : Bool := match src with | .norA => s.boot.failed.isEmpty | .norB => s.boot.failed = [.norA]
    if !s.boot.calDone ∨ s.boot.image ∨ mode = 1 ∨ !turn then s else
    let sp := match src with | .norA => Sp.norA | .norB => Sp.norB
    let (code, b) := if readOk then s.bootJudge sp 0 0x1000000 else (5, { powerMap := 0, ddrUse := 0, scriptAt := 0, scriptLen := 0 })
    if code = 0 then s.bootAccept (match src with | .norA => 1 | .norB => 2) sp 0 b
    else
      let s := s.set (match src with | .norA => F.SUP_BOOT_STATUS_FAIL_A | .norB => F.SUP_BOOT_STATUS_FAIL_B) code
      let s := { s with boot := { s.boot with failed := s.boot.failed ++ [src] } }
      match src with
      | .norA => s
      | .norB => s.set F.SUP_BOOT_STATUS_STEP (if mode = 2 then 15 else 14))

/-- `BOOT_LOAD`: the staged image of the host is verified; accepted, it closes up at the end of step 8. -/
def State.bootLoadBody (s : State) (c : Cmd) : State :=
  if s.get F.SUP_BOOT_STATUS_STEP ≠ 14 then s.finish c Rc.refused []
  else if 0x780000 < c.arg 0 + c.arg 1 then s.finish c Rc.badArg []
  else
    let (code, b) := s.bootJudge Sp.sram (c.arg 0) (c.arg 1)
    if code = 0 then
      let s := s.bootAccept 3 Sp.sram (c.arg 0) b
      { s with boot := { s.boot with load := some c } }
    else (s.set F.SUP_BOOT_STATUS_FAIL_HOST code).finish c (if code ≤ 2 then Rc.badArg else Rc.auth) []
/-- BOOT_LOAD (R504, R507). -/
def execBootLoad (s : State) : Host.Outcome State Fault Refusal := settle s (s.runOp 0x18 2 State.bootLoadBody)

/-- Whether start-up is in step 8 or later (R507): its script runs, or it has ended. -/
def State.inService (s : State) : Bool := s.bootDone || s.boot.running

/-- `BOOT_KEY_PROGRAM`: the hash of the image's own key is fused where its signature is good. -/
def State.keyProgramBody (s : State) (c : Cmd) : State :=
  if !s.inService ∨ s.boot.keySlot1.isSome ∨ c.arg 1 ≠ 0x5AFE0001 then s.finish c Rc.refused []
  else
    let (code, b) := s.bootHeader Sp.sram (c.arg 0) 0x1000000
    if code ≠ 0 ∨ 0x3C00000 < c.arg 0 + b.signed + 96 then s.finish c Rc.badArg []
    else if !s.bootSigned Sp.sram (c.arg 0) b then s.finish c Rc.refused []
    else
      let s := { s with boot := { s.boot with keySlot1 := some (sha384 (s.bootKey Sp.sram (c.arg 0))) } }
      (s.put F.SUP_KEY_STATUS_SLOT1_SET true).finish c Rc.ok []
/-- BOOT_KEY_PROGRAM (R505). -/
def execBootKeyProgram (s : State) : Host.Outcome State Fault Refusal := settle s (s.runOp 0x1C 2 State.keyProgramBody)

/-! ## Step 8 (R500, R501) -/

/-- DOMAIN_ON_TIMEOUT (R501): a domain of the image's map is left OFF. -/
def execDomainOnTimeout (n : Fin 162) (s : State) : Host.Outcome State Fault Refusal :=
  settle s (
    if !s.boot.powerMap.contains n.val ∨ s.get (F.PWR_DOM_STATUS_STATE n.val) ≠ Dom.powering then s
    else (((s.setDom n.val Dom.off).put F.SUP_BOOT_STATUS_DOM_FAIL true).bootDomEnds n.val).bootShow)

/-- DDR_TRAINED (R500, R501): a controller's training completes, or fails and the channel counts as lost. -/
def execDdrTrained (x : Fin 2) (ok : Bool) (s : State) : Host.Outcome State Fault Refusal :=
  settle s (
    if !s.boot.ddrUse.contains x.val then s else
    let s := { s with boot := { s.boot with
      ddrUse := s.boot.ddrUse.filter (· ≠ x.val), trained := if ok then s.boot.trained ++ [x.val] else s.boot.trained } }
    let s := if ok then s
      else (s.put (if x.val = 0 then F.SUP_BOOT_STATUS_DDR0_TRAIN_FAIL else F.SUP_BOOT_STATUS_DDR1_TRAIN_FAIL) true).ddrLost x.val
    s.bootEnds)

/-! ## The start script (R506) -/

/-- The script has ended. -/
def State.scriptEnds (s : State) : State :=
  ({ s with boot := { s.boot with running := false, ran := true } } : State).bootEnds
/-- The script stops at entry `i`. -/
def State.scriptFails (s : State) (i : Nat) : State :=
  ((s.put F.SUP_BOOT_STATUS_SCRIPT_FAIL true).set F.SUP_BOOT_STATUS_SCRIPT_INDEX (Nat.min i 255)).scriptEnds

/-- A command of the script is accepted from the words at `a` in central SRAM. -/
def State.scriptCmd (s : State) (a : Nat) : State :=
  let w (i : Nat) : Nat := s.rdLE Sp.sram (a + 4 * i) 4
  let s := (s.accept .script (bitsOf (w 0) 0 8) (bitsOf (w 0) 8 4) ((List.range 12).map fun i => w (1 + i)) (bitsOf (w 0) 16 16)).2
  { s with boot := { s.boot with cmd := true, result := none } }

/-- The script runs on from its next entry, until it ends, fails or waits; `n` bounds the entries. -/
def State.scriptRun : Nat → State → State
  | 0, s => s.scriptEnds
  | n + 1, s =>
    let i := s.boot.entry
    if s.boot.script.length ≤ 16 * i then s.scriptEnds else
    let e := (s.boot.script.drop (16 * i)).take 16
    let u (o : Nat) : Nat := leNat ((e.drop o).take 4)
    let s := { s with boot := { s.boot with entry := i + 1 } }
    match leNat (e.take 1) with
    | 0 => s.scriptEnds
    | 1 =>
      let (ok, t) := s.write32 (u 4) 10 (u 8)
      if ok then t.scriptRun n else t.scriptFails i
    | 2 =>
      if s.boot.script.length < u 8 + u 12 ∨ (s.sramKind (u 4) (u 12) true).isSome then s.scriptFails i
      else (s.wr Sp.sram (u 4) ((s.boot.script.drop (u 8)).take (u 12))).scriptRun n
    | 3 => if (s.sramKind (u 4) 52 false).isSome then s.scriptFails i else s.scriptCmd (u 4)
    | 4 =>
      if s.ftcState = Ftc.disabled then s.scriptFails i
      else if u 4 = 0 then s.scriptRun n
      else { s with boot := { s.boot with wait := some (u 4) } }
    | _ => s.scriptFails i
/-- The script runs on. -/
def State.scriptOn (s : State) : State := s.scriptRun (s.boot.script.length / 16 + 1)

/-- START_SCRIPT (R506): after the last domain of step 8. -/
def execStartScript (s : State) : Host.Outcome State Fault Refusal :=
  settle s (
    if !s.boot.image ∨ !s.boot.powerMap.isEmpty ∨ s.boot.ran ∨ s.boot.running then s
    else ({ s with boot := { s.boot with running := true, entry := 0 } } : State).scriptOn)
/-- SCRIPT_COMMAND (R506): the script's command has closed up. -/
def execScriptCommand (s : State) : Host.Outcome State Fault Refusal :=
  settle s (
    if !s.boot.running ∨ !s.boot.cmd then s else
    match s.boot.result with
    | none => s
    | some code =>
      let s := { s with boot := { s.boot with cmd := false, result := none } }
      if code = Rc.ok then s.scriptOn else s.scriptFails (s.boot.entry - 1))
/-- SCRIPT_WAIT (R506): the wait has passed its last tick boundary. -/
def execScriptWait (s : State) : Host.Outcome State Fault Refusal :=
  settle s (
    if !s.boot.running ∨ s.boot.wait ≠ some 0 then s
    else ({ s with boot := { s.boot with wait := none } } : State).scriptOn)
/-- A tick boundary's part (R506). -/
def State.scriptTick (s : State) : State :=
  { s with boot := { s.boot with wait := s.boot.wait.map (· - 1) } }

/-! ## The channel table, resets by command (R507) -/

/-- Whether the space of the channel table is in service. -/
def State.tableUp (s : State) : Bool := match s.cfg F.CHT_CFG_WHERE with | 0 => s.ddrInService 0 | 1 => s.ddrInService 1 | _ => s.linkUp
/-- `n` bytes of a space from `a` become 0. -/
def State.zeroSpan (s : State) (sp a n : Nat) : State :=
  { s with mem := s.mem.filter fun c => !decide (memKey sp a ≤ c.1 ∧ c.1 < memKey sp a + n) }

/-- The table has been written (R500, R507): entries of the channels written leave the cache. -/
def State.tableDone (s : State) (first n : Nat) : State :=
  ({ s with boot := { s.boot with table := true }
            ctx := s.ctx.filter fun e => !decide (first ≤ e.chan ∧ e.chan < first + n) } : State).bootShow

/-- `TABLE_LOAD`. -/
def State.tableLoadBody (s : State) (c : Cmd) : State :=
  let first := c.arg 1
  let n := c.arg 2
  let spare (k : Nat) : Bool := (s.rdBytes Sp.sram (c.arg 0 + 256 * k + 40) 24).any (· ≠ 0)
  if !s.inService ∨ !s.tilesOff ∨ !s.tableUp then s.finish c Rc.refused []
  else if n = 0 ∨ 16384 < n ∨ 16384 < first + n ∨ 0x3C00000 < c.arg 0 + 256 * n ∨ (List.range n).any spare then s.finish c Rc.badArg []
  else
    let bs := s.rdBytes Sp.sram (c.arg 0) (256 * n)
    let s := s.wr s.chtSpace (s.chtAddr first 0) bs
    let s := if s.keepsCopy then s.wr s.snapSpace (s.copyAddr first 0) bs else s
    (s.tableDone first n).finish c Rc.ok []
/-- TABLE_LOAD (R507). -/
def execTableLoad (s : State) : Host.Outcome State Fault Refusal := settle s (s.runOp 0x19 3 State.tableLoadBody)

/-- `TABLE_CLEAR`. -/
def State.tableClearBody (s : State) (c : Cmd) : State :=
  if !s.inService ∨ !s.tilesOff ∨ !s.tableUp then s.finish c Rc.refused []
  else
    let s := s.zeroSpan s.chtSpace (s.chtAddr 0 0) (16384 * 256)
    let s := if s.keepsCopy then s.zeroSpan s.snapSpace (s.copyAddr 0 0) (16384 * 256) else s
    (s.tableDone 0 16384).finish c Rc.ok []
/-- TABLE_CLEAR (R507). -/
def execTableClear (s : State) : Host.Outcome State Fault Refusal := settle s (s.runOp 0x1A 0 State.tableClearBody)

/-- The reset of `DEVICE_RESET`. -/
def State.commandReset (s : State) : State := s.restart F.SUP_RESET_CAUSE_COMMAND false
/-- `DEVICE_RESET`: it closes up, and the reset follows 8 ticks later; with the tick generator off it follows at once (log 72). -/
def State.deviceResetBody (s : State) (c : Cmd) : State :=
  if c.arg 0 ≠ 0x5AFE0002 then s.finish c Rc.badArg []
  else
    let s := s.finish c Rc.ok []
    if s.ftcState = Ftc.disabled then s.commandReset
    else { s with boot := { s.boot with resetAt := some (s.tick + 8) } }
/-- DEVICE_RESET (R498, R507). -/
def execDeviceReset (s : State) : Host.Outcome State Fault Refusal := settle s (s.runOp 0x1B 1 State.deviceResetBody)

/-! ## Tiles and the host link (R513, R514) -/

/-- TILE_LOST (R157, R514): a tile fabric or tile SRAM domain that worked leaves ON without a request; the tile's domains are
off until a device reset (log 73). -/
def execTileLost (n : Fin 8) (s : State) : Host.Outcome State Fault Refusal :=
  settle s (
    if !s.domWorks (96 + n.val) ∧ !s.domWorks (104 + n.val) then s else
    let s := (s.setDom (96 + n.val) Dom.off).setDom (104 + n.val) Dom.off
    (s.orF F.SUP_FAULT_STATUS_TILE_LOST (2 ^ n.val)).tileReset n.val)

/-- HOST_LINK_DOWN (R498, R511, R513): the endpoint is reset; a channel table in host memory is frozen out of. -/
def execHostLinkDown (s : State) : Host.Outcome State Fault Refusal :=
  settle s (
    if !s.linkUp then s else
    let s := (s.put F.SUP_FAULT_STATUS_HOST_LINK_DOWN true).dropSpaces fun sp => sp = Sp.msix
    let s := s.put (F.BUS_MSTR_STATUS_DRAINING 0) true
    if s.cfg F.CHT_CFG_WHERE = 2 then s.put F.SUP_FAULT_STATUS_CHT_FROZEN true else s)
/-- HOST_LINK_UP (R500, R513): once step 3 is complete and the endpoint is powered. -/
def execHostLinkUp (s : State) : Host.Outcome State Fault Refusal :=
  settle s (
    if !s.bit F.CLK_STATUS_ITO_OK ∨ !s.domWorks 150 then s else s.put F.SUP_FAULT_STATUS_HOST_LINK_DOWN false)
/-- A tick boundary's part of `CHT_RESUME` (R513): the cache writes back its dirty entries, and the freeze ends. -/
def State.resumeTick (s : State) : State :=
  if !s.boot.resume then s else
  let s := { s with boot := { s.boot with resume := false } }
  if s.frozen then (s.put F.SUP_FAULT_STATUS_CHT_FROZEN false).ctxFlushAll else s

end Sys2Proof.Machine
end

