-- ==== Sys2Proof/Machine/PairLink.lean ====
section
/-! DEFINITION. Pair mode (R414 to R435): its states, the pair link's messages, the journal, digest agreement, start, takeover,
yield, join and resynchronisation. -/

namespace Sys2Proof.Machine

/-! ## The pair link -/

/-- Frame types of the pair link (R441). -/
def Ty.heartbeat : Nat := 0x60
def Ty.ledger : Nat := 0x61
def Ty.journal : Nat := 0x62
def Ty.journalAck : Nat := 0x63
def Ty.digest : Nat := 0x64
def Ty.snapshot : Nat := 0x65
def Ty.snapshotAck : Nat := 0x66
def Ty.yield : Nat := 0x67
def Ty.pairAccept : Nat := 0x68

/-- A pair frame arrives on `H0` (R414, R439, R441): `act` is what it does on a unit in pair mode; on a port that carries no
pair link its type is a semantic violation. -/
def State.pairIn (s : State) (ty : Nat) (act : State → State) : State :=
  if !s.on (F.HAL_H_CFG_ENABLE 0) then s
  else if !s.on (F.HAL_H_CFG_PAIR 0) then s.countViolation 1 0 Viol.semantic ty 3 0
  else if s.pairState = PairSt.off then s
  else act (s.tal 22 0 1)
/-- A frame of a type without repeats (R442). -/
def State.pairNote (s : State) (ty n : Nat) (act : State → State) : State := s.pairIn ty fun s => act (s.pairSeq ty n)

/-! ## States (R415) -/

/-- A command of pair mode that waits, in execution or set aside. -/
def State.heldCmd (s : State) (op : Nat) : Option Busy :=
  match s.busyOp op, s.mbox.aside with
  | some b, _ => some b
  | none, some b => if b.cmd.op = op then some b else none
  | none, none => none
/-- A command of pair mode that waits closes up. -/
def State.endHeld (s : State) (op code : Nat) (res : List Nat) : State :=
  match s.busyOp op, s.mbox.aside with
  | some _, _ => s.endBusy code res
  | none, some b =>
    if b.cmd.op = op then ({ s with mbox := { s.mbox with aside := none } } : State).finish b.cmd code res else s
  | none, none => s

/-- Whether a state follows an active unit (R417, R418). -/
def follows (st : Nat) : Bool := decide (PairSt.joinConfig ≤ st ∧ st ≤ PairSt.standby)

/-- The pair state changes (R415): `EV_PAIR_STATE`; the references follow R417; a `PAIR_START` that waits closes up in ACTIVE
and JOIN_CONFIG, a `PAIR_RESYNC` in STANDBY (R434). -/
def State.pairEnter (s : State) (st : Nat) : State :=
  if s.pairState = st then s else
  let t := (s.set F.PRT_PAIR_STATUS_STATE st).raise { src := 800 }
  let t := if follows st = follows s.pairState then t else t.clkCommitted s
  let t := if st = PairSt.active ∨ st = PairSt.joinConfig then t.endHeld 0x30 Rc.ok [st] else t
  if st = PairSt.standby then t.endHeld 0x32 Rc.ok [] else t

/-- The tick generator is enabled where it is not (R57). -/
def State.pairClock (s : State) : State :=
  if s.ftcState ≠ Ftc.disabled then s else
  let s := (s.put F.CLK_FTC_CTRL_ENABLE true).ftcStart.startStreamGates
  { s with pair := { s.pair with hbTick := s.pair.hbTick.map fun _ => s.tick } }

/-- A unit enters ACTIVE from STARTING or CLAIMING (R426): it enables its tick generator and is unprotected. -/
def State.pairActive (s : State) : State :=
  let s := { s with pair := { s.pair with claim := 0, wait := none, t0 := none, jnext := 1 } }
  ((s.pairEnter PairSt.active).pairClock).put F.PRT_PAIR_STICKY_UNPROTECTED true

/-- Held line input is stamped under R268: each unit with the tick in which it arrived. -/
def State.stampHeld (s : State) : State :=
  let mine := s.lin.held
  let s := { s with lin := { s.lin with held := [], quota := [] } }
  let s := s.each mine fun s h => s.unitIn h.src h.tick h.unit
  if mine.isEmpty then s else s.settleTick (s.tick - 1)
/-- Stamping by the ledger begins with this tick (R416). -/
def State.ledgerStart (s : State) : State := { s with lin := { s.lin with held := [], quota := [], settled := s.tick } }

/-- The unit enters JOIN_CONFIG (R430): what it joins with comes from the active; it holds no hoist and no image of its own,
and its journal starts anew (log 75). -/
def State.joinEnter (s : State) : State :=
  let s := s.each s.hoists fun s h => s.hoistRemove h
  let s := { s with
    images := [], lin := { s.lin with held := [], quota := [], logging := false, log := [] }
    pair := { s.pair with
      jnext := 1, gap := false, journal := [], heldClk := [], mine := [], peers := [], dis := [], good := 0, claim := 0
      wait := none, yieldAt := none, accepted := false, fault := false, t0 := none, parts := [], partNext := 1, copied := false
      loaded := false, resync := false, diverged := false, noBreach := 0 } }
  (s.put F.PRT_PAIR_STATUS_QUALIFIED false).pairEnter PairSt.joinConfig
/-- The unit goes to JOIN_STATE; phase 2 starts at the next super-tick boundary (R422, R428, R430, R432). -/
def State.joinAgain (s : State) : State :=
  let s := { s with pair := { s.pair with resync := true, copied := false, loaded := false, diverged := false, parts := [], good := 0 } }
  (s.put F.PRT_PAIR_STATUS_QUALIFIED false).pairEnter PairSt.joinState
/-- Phase 2 starts (R430, R432): T0 is this super-tick boundary; line input goes to the log. -/
def State.joinPhase2 (s : State) : State :=
  { s with
    pair := { s.pair with t0 := some s.tick, resync := false, copied := false, loaded := false, parts := [], noBreach := 0 }
    lin := { s.lin with logging := true, log := [] } }

/-! ## Heartbeats (R414, R422, R424, R426, R428) -/

/-- The unit's own heartbeat. -/
def State.heartbeat (s : State) : Heartbeat :=
  { tick := s.tick, state := Fin.ofNat 8 s.pairState, pref := s.bit F.PRT_PAIR_STATUS_PREF
    qualified := s.bit F.PRT_PAIR_STATUS_QUALIFIED, pennant := s.bit F.PWR_STATUS_PENNANT || s.bit F.PWR_STATUS_PENNANT_PENDING
    burgee := BitVec.ofNat 64 s.burgee, jseq := BitVec.ofNat 32 (s.pair.jnext + 2 ^ 32 - 1) }

/-- A claim is withdrawn (R426): the guard reads holding at a sample. -/
def State.claimConflict (s : State) : State :=
  let n := (if s.bit F.PRT_PAIR_STATUS_PREF then 1 else 3) + s.burgee % 8
  let s := { s with pair := { s.pair with claim := 0, wait := some n } }
  ((s.put F.PRT_PAIR_STATUS_GUARD_IN true).pairEnter PairSt.starting).put F.PRT_PAIR_STICKY_CLAIM_CONFLICT true

/-- HEARTBEAT_SEND (R414, R426): a heartbeat period begins; the guard is read as well. -/
def execHeartbeatSend (guardLow : Bool) (s : State) : Host.Outcome State Fault Refusal :=
  settle s (
    if s.pairState = PairSt.off ∨ (s.ftcState ≠ Ftc.disabled ∧ s.tick % 8 ≠ 0) then s else
    let h := s.heartbeat
    let s := (s.pairSend Ty.heartbeat fun n => .heartbeat n h).put F.PRT_PAIR_STATUS_GUARD_IN (!guardLow)
    let claims := s.pairState = PairSt.claiming
    let s := { s with pair := { s.pair with
      silent := s.pair.silent + 1, claim := if claims then s.pair.claim + 1 else 0, wait := s.pair.wait.map (· - 1) } }
    if claims ∧ !guardLow then s.claimConflict
    else if s.pairState = PairSt.starting ∧ 3 ≤ s.pair.silent ∧ !guardLow then
      s.put F.PRT_PAIR_STICKY_PEER_SILENT_HOLDING true
    else s)

/-- A heartbeat settles the roles of a unit that starts (R426). -/
def State.heartbeatStart (s : State) (h : Heartbeat) : State :=
  match h.state.val with
  | 3 => s.joinEnter
  | 1 | 2 =>
    let mine := s.bit F.PRT_PAIR_STATUS_PREF
    let win : Bool := if mine ≠ h.pref then mine else decide (h.burgee.toNat < s.burgee)
    if win then ({ s with pair := { s.pair with claim := 0 } } : State).pairEnter PairSt.starting else s.joinEnter
  | 4 => s.pairActive
  | _ => s

/-- What a heartbeat tells an active of its peer (R418, R426, R430): `old` is the state that the peer showed before. -/
def State.heartbeatActive (s : State) (old : Option Nat) (h : Heartbeat) : State :=
  let now := h.state.val
  if old = some now then s
  else if now = PairSt.joinConfig then
    { s with pair := { s.pair with
      jnext := 1, t0 := none, copied := false, journal := s.pair.journal.map fun (w : JWait) => { w with acked := true } } }
  else if now = PairSt.joinState then
    (if s.pair.t0.isNone then { s with pair := { s.pair with copied := true } } else s)
  else if now = PairSt.standby then
    ({ s with pair := { s.pair with t0 := none } } : State).put F.PRT_PAIR_STICKY_UNPROTECTED false
  else s

/-- What a heartbeat tells a unit that follows: the tick count before its tick generator runs (R417), and, after a loss, the
way back into step (R428). -/
def State.heartbeatFollow (s : State) (back : Bool) (h : Heartbeat) : State :=
  let s := if s.ftcState = Ftc.disabled ∧ h.state.val = PairSt.active then (s.set F.CLK_FTC_SET h.tick).pairClock else s
  if !back ∨ s.pairState = PairSt.joinConfig then s
  else if s.pair.gap ∨ (h.jseq.toNat + 1) % 2 ^ 32 ≠ s.pair.jnext then s.joinEnter
  else s.ledgerStart.joinAgain

/-- A heartbeat that passes (R422, R424, R436): what it says of the peer is shown, and the state follows. -/
def State.heartbeatIn (s : State) (h : Heartbeat) : State :=
  let old := if s.pair.lost then none else s.pair.peer.map fun p => p.state.val
  let back := s.pair.lost
  let s := { s with pair := { s.pair with peer := some h, hbTick := some s.tick, silent := 0, lost := false } }
  let s := ((s.put F.PRT_PAIR_STATUS_HB_OK true).set F.PRT_PAIR_PEER h.burgee.toNat).put F.PRT_PAIR_STATUS_PEER_PREF h.pref
  let s := s.put F.PRT_PAIR_STATUS_PEER_QUALIFIED h.qualified
  match s.pairState with
  | 1 | 2 => s.heartbeatStart h
  | 3 => s.heartbeatActive old h
  | 4 | 5 | 6 => s.heartbeatFollow back h
  | _ => s

/-- HEARTBEAT (R414, R426, R428, R459, R460): one beyond one in a tick is dropped; one with the device's own burgee is refused. -/
def execHeartbeat (n : BitVec 32) (h : Heartbeat) (s : State) : Host.Outcome State Fault Refusal :=
  settle s (s.pairNote Ty.heartbeat n.toNat fun s =>
    if s.ftcState ≠ Ftc.disabled ∧ s.pair.hbTick = some s.tick then s.rateExcess .pair Ty.heartbeat s.pairId
    else if h.burgee.toNat = s.burgee then s.pairRefuse Ty.heartbeat n.toNat 6
    else s.heartbeatIn h)

/-- LEDGER (R416): the active's ledger for a tick. -/
def execLedger (n : BitVec 32) (l : LedgerMsg) (s : State) : Host.Outcome State Fault Refusal :=
  settle s (s.pairNote Ty.ledger n.toNat fun s => if s.ledgerMode then s.ledgerIn l else s)

/-! ## The journal (R418, R419) -/

/-- What a mailbox command does, by its opcode. -/
def cmdBody : Nat → State → Cmd → State
  | 0x10 => State.imageLoadBody
  | 0x11 => State.imageUnloadBody
  | 0x13 => State.reimageBody
  | 0x18 => State.bootLoadBody
  | 0x19 => State.tableLoadBody
  | 0x1A => State.tableClearBody
  | 0x1B => State.deviceResetBody
  | 0x1C => State.keyProgramBody
  | 0x20 => State.hoistLoadBody
  | 0x21 => State.hoistUnloadBody
  | 0x22 => State.chanCommitBody
  | 0x23 => State.pennantClearBody
  | 0x24 => State.twinSetBody
  | 0x25 => State.twinClearBody
  | 0x26 => State.hoistMoveBody
  | 0x27 => State.ctxFlushBody
  | 0x40 => State.joinOpenBody
  | 0x41 => State.halReleaseBody
  | 0x42 => State.sendCmdBody
  | 0x43 => State.regWriteBody
  | 0x44 => State.imagePushBody
  | 0x45 => State.leaveBody
  | 0x46 => State.quarClearBody
  | 0x50 => State.recStartBody
  | 0x51 => State.recStopBody
  | 0x52 => State.recFlushBody
  | 0x53 => State.recReadBody
  | _ => fun s c => s.finish c Rc.unknown []

/-- A journaled register write is applied (R417, R418): a unit that follows holds the `CLK` writes. -/
def State.journalWrite (s : State) (addr : Nat) (v : Reg) : State :=
  let key := s.keyOf addr
  if follows s.pairState ∧ blockOf key = 1 then { s with pair := { s.pair with heldClk := s.pair.heldClk ++ [(addr, v)] } }
  else (s.writeReg addr 0 (aliasOf addr) key v.toNat).2

/-- A command of the peer's journal runs (R419): its referenced bytes go to central SRAM first; a slot's command in execution is
set aside. The commands that wait for another device are the active's alone (R451, log 76). -/
def State.journalRun (s : State) (op : Nat) (args : List Reg) (sram : List (Nat × List Byte)) : State :=
  if !s.pairSpeaks ∧ 0x42 ≤ op ∧ op ≤ 0x45 then s else
  let s := s.each sram fun s r => if r.1 + r.2.length ≤ 0x3C00000 then s.wr Sp.sram r.1 r.2 else s
  let c : Cmd := { src := .journal, seq := 0, op := op, argWords := args.length, args := args.map (·.toNat), tag := 0 }
  let s := if s.mbox.busy.isSome then { s with mbox := { s.mbox with busy := none, aside := s.mbox.busy } } else s
  let s := cmdBody op s c
  if s.mbox.busy.isNone then { s with mbox := { s.mbox with busy := s.mbox.aside, aside := none } } else s

/-- An entry of the journal comes to its boundary (R418, R419): the answer says whether it has been applied. The unit's own
command needs the standby's acknowledgement; a command of the peer's waits for the one before it. -/
def State.journalOne (s : State) (w : JWait) : Bool × State :=
  match w.entry with
  | .reg addr v at_ => if s.tick < at_ then (false, s) else (true, s.journalWrite addr.toNat v)
  | .cmd op args sram at_ =>
    if s.tick < at_ then (false, s) else
    match s.mbox.busy with
    | none => (true, s.journalRun op.toNat args sram)
    | some b =>
      if b.jseq = some w.seq then
        (if w.acked then (true, cmdBody b.cmd.op { s with mbox := { s.mbox with busy := none } } b.cmd) else (false, s))
      else if b.cmd.src = .journal then (false, s)
      else (true, s.journalRun op.toNat args sram)

/-- The journal's part of a boundary (R418): the entries due, in order. -/
def State.journalDue (s : State) : State :=
  let (left, s) := s.pair.journal.foldl (fun (r : List JWait × State) w =>
    let (ok, s) := r.2.journalOne w
    if ok then (r.1, (s.set F.PRT_PAIR_JSEQ w.seq).tal 21 3 1) else (r.1 ++ [w], s)) ([], s)
  { s with pair := { s.pair with journal := left } }

/-- JOURNAL_APPLY (R418, R419). -/
def execJournalApply (s : State) : Host.Outcome State Fault Refusal := settle s s.journalDue

/-- The boundary of a journal entry. -/
def entryAt : JEntry → Nat
  | .reg _ _ t => t
  | .cmd _ _ _ t => t

/-- An acknowledgement of a journal entry leaves (R419, R442). -/
def State.journalAnswer (s : State) (seq : Nat) : State := s.pairSend Ty.journalAck fun n => .journalAck n seq
/-- JOURNAL (R418, R419, R442, R459): the entry expected joins the journal and is acknowledged; a repeat is acknowledged again;
an entry after a gap is not applied. One that comes after its boundary is late. -/
def execJournal (seq : BitVec 32) (e : JEntry) (s : State) : Host.Outcome State Fault Refusal :=
  settle s (s.pairIn Ty.journal fun s =>
    if !follows s.pairState then s.pairRefuse Ty.journal seq.toNat 3
    else if seq.toNat = s.pair.jnext then
      let s := { s with pair := { s.pair with
        jnext := (s.pair.jnext + 1) % 2 ^ 32
        journal := s.pair.journal ++ [({ seq := seq.toNat, entry := e, acked := true } : JWait)] } }
      let s := s.journalAnswer seq.toNat
      if entryAt e ≤ s.tick ∧ s.ftcState ≠ Ftc.disabled then
        (s.put F.PRT_PAIR_STICKY_JOURNAL_LATE true).put F.PRT_PAIR_STATUS_QUALIFIED false
      else s
    else
      let s := s.violate .pair Viol.sequence Ty.journal 0 s.pairId
      if (seq.toNat + 1) % 2 ^ 32 = s.pair.jnext then s.journalAnswer seq.toNat
      else { s with pair := { s.pair with gap := true } })

/-- JOURNAL_ACK (R419). -/
def execJournalAck (n seq : BitVec 32) (s : State) : Host.Outcome State Fault Refusal :=
  settle s (s.pairNote Ty.journalAck n.toNat fun s =>
    if s.pairState ≠ PairSt.active then s.pairRefuse Ty.journalAck n.toNat 3
    else { s with pair := { s.pair with
      journal := s.pair.journal.map fun (w : JWait) => if w.seq = seq.toNat then { w with acked := true } else w } })

/-! ## Digest agreement (R421, R422) -/

/-- Whether comparisons are made (R421): while the standby is in STANDBY. -/
def State.compares (s : State) : Bool :=
  s.pairState = PairSt.standby ||
    (s.pairState = PairSt.active && !s.pair.lost && s.pair.peer.any fun h => h.state.val = PairSt.standby)
/-- Disagreeing ticks of the second that tick `w` lies in (R422). -/
def State.disInSecond (s : State) (w : Nat) : Nat := (s.pair.dis.filter fun t => t / 8000 = w / 8000).length

/-- Units disagree at ticks (R421): their bits, the first of them, the count of ticks, the event; the standby loses its
qualification when more than `DIS_MAX` ticks of a second disagree (R422). -/
def State.disagrees (s : State) (bad : List (Nat × Nat)) : State :=
  match bad with
  | [] => s
  | (u0, t0) :: _ =>
    let s := s.each bad fun s p => s.orF (F.PRT_PDIS (p.1 / 32)) (2 ^ (p.1 % 32))
    let s := if s.bit F.PRT_PAIR_STICKY_DISAGREE then s
      else ((s.put F.PRT_PAIR_STICKY_DISAGREE true).set F.PRT_PAIR_DIS_FIRST u0).set F.PRT_PAIR_DIS_TICK (t0 % 2 ^ 32)
    let ticks := ((bad.map (·.2)).eraseDups).filter fun t => !s.pair.dis.contains t
    let s := (s.inc F.PRT_PAIR_DIS_TOTAL ticks.length).tal 21 2 ticks.length
    let s := if s.pair.disNow then s else s.raise { src := 801 }
    let s := { s with pair := { s.pair with dis := ticks ++ s.pair.dis, disNow := true, good := 0 } }
    if s.pairState = PairSt.standby ∧ ticks.any (fun t => s.cfg F.PRT_PAIR_CFG_DIS_MAX < s.disInSecond t) then
      let s := (s.put F.PRT_PAIR_STATUS_QUALIFIED false).put F.PRT_PAIR_STICKY_DIVERGED true
      { s with pair := { s.pair with diverged := true } }
    else s

end Sys2Proof.Machine

namespace Sys2Proof

/-- The counterpart of an entry. -/
def DigestEntry.pairs (a b : DigestEntry) : Bool := a.unit = b.unit && a.tick = b.tick

end Sys2Proof

namespace Sys2Proof.Machine

/-- The comparison store at a tick boundary (R421): the entries closed are sent and kept, old ones leave, and those present on
both sides are compared once. -/
def State.compareTick (s : State) : State :=
  let new := s.offered.reverse
  let s := { s with offered := [] }
  let s := if new.isEmpty ∨ s.pairState < PairSt.active ∨ s.pairState = PairSt.stopped then s
    else s.pairSend Ty.digest fun n => .digests n new
  let young (e : DigestEntry) : Bool := decide (s.tick ≤ e.tick + 127)
  let mine := (s.pair.mine ++ new).filter young
  let theirs := s.pair.peers.filter young
  let s := { s with pair := { s.pair with disNow := false, dis := s.pair.dis.filter fun t => decide (s.tick ≤ t + 16000) } }
  if !s.compares then { s with pair := { s.pair with mine := mine, peers := theirs } }
  else
    let both := mine.filterMap fun a => (theirs.find? a.pairs).map fun b => (a, b)
    let s := { s with pair := { s.pair with
      mine := mine.filter fun a => !theirs.any a.pairs, peers := theirs.filter fun b => !mine.any b.pairs } }
    s.disagrees ((both.filter fun p => p.1.value ≠ p.2.value || p.1.incomplete ≠ p.2.incomplete).map fun p =>
      (p.1.unit.val, p.1.tick))

/-- DIGEST (R421): the peer's entries reach the comparison store. -/
def execDigest (n : BitVec 32) (es : List DigestEntry) (s : State) : Host.Outcome State Fault Refusal :=
  settle s (s.pairNote Ty.digest n.toNat fun s =>
    { s with pair := { s.pair with peers := s.pair.peers ++ es.filter fun e => decide (s.tick ≤ e.tick + 127) } })

/-- DIGEST_MISSING (R421): entries whose counterpart is still absent `CMP_WIN` ticks on. -/
def execDigestMissing (s : State) : Host.Outcome State Fault Refusal :=
  settle s (
    if !s.compares then s else
    let due (e : DigestEntry) : Bool := decide (e.tick + s.cfg F.PRT_PAIR_CFG_CMP_WIN ≤ s.tick)
    let alone (l : List DigestEntry) (e : DigestEntry) : Bool := due e && !l.any e.pairs
    let bad := s.pair.mine.filter (alone s.pair.peers) ++ s.pair.peers.filter (alone s.pair.mine)
    let t := { s with pair := { s.pair with
      mine := s.pair.mine.filter fun e => !alone s.pair.peers e, peers := s.pair.peers.filter fun e => !alone s.pair.mine e } }
    t.disagrees (bad.map fun e => (e.unit.val, e.tick)))

/-- PAIR_QUALIFY (R422): `QUAL` consecutive ticks in STANDBY. -/
def execPairQualify (s : State) : Host.Outcome State Fault Refusal :=
  settle s (
    if s.pairState = PairSt.standby ∧ !s.pair.lost ∧ s.cfg F.PRT_PAIR_QUAL_QUAL ≤ s.pair.good
    then s.put F.PRT_PAIR_STATUS_QUALIFIED true else s)

/-! ## Loss, the guard, claims (R424 to R428) -/

/-- A yield is cancelled (R429, R435). -/
def State.yieldFails (s : State) : State :=
  if s.pair.yieldAt.isNone then s else
  let s := { s with pair := { s.pair with yieldAt := none, accepted := false, fault := false, outs := [] } }
  if s.pairState = PairSt.active then (s.put F.PRT_PAIR_STICKY_YIELD_FAILED true).endHeld 0x31 Rc.refused [] else s

/-- HEARTBEAT_LOSS (R424, R428, R435): 25 ticks have passed since the tick of the latest heartbeat. -/
def execHeartbeatLoss (s : State) : Host.Outcome State Fault Refusal :=
  settle s (
    let due : Bool := match s.pair.hbTick with | some t => decide (t + 25 ≤ s.tick) | none => false
    if !due ∨ s.pair.lost ∨ s.ftcState = Ftc.disabled ∨ s.pairState < PairSt.active ∨ s.pairState = PairSt.stopped then s else
    let qual := s.bit F.PRT_PAIR_STATUS_QUALIFIED
    let holding := s.bit F.PRT_PAIR_STATUS_GUARD_IN
    let s := (if follows s.pairState then s.stampHeld else s).put F.PRT_PAIR_STATUS_HB_OK false
    let s := ({ s with pair := { s.pair with lost := true, wasQual := qual, good := 0 } } : State).yieldFails
    if s.pairState = PairSt.active then
      let s := { s with pair := { s.pair with
        journal := s.pair.journal.map fun (w : JWait) => { w with acked := true }, t0 := none, copied := false } }
      (s.put F.PRT_PAIR_STICKY_UNPROTECTED true).raise { src := 802 }
    else
      let s := s.put F.PRT_PAIR_STATUS_QUALIFIED false
      if holding then (s.put F.PRT_PAIR_STICKY_PEER_SILENT_HOLDING true).raise { src := 802 } else s)

/-- GUARD_FAULT (R425): the guard has contradicted the heartbeat for 16 ticks. -/
def execGuardFault (s : State) : Host.Outcome State Fault Refusal :=
  settle s (
    let away : Bool := s.pair.peer.any fun h => h.state.val ≠ PairSt.active
    let bad : Bool := s.bit F.PRT_PAIR_STATUS_HB_OK &&
      ((s.pairState = PairSt.active && away && decide (16 ≤ s.pair.high)) || (follows s.pairState && !away && decide (16 ≤ s.pair.low)))
    if bad then (s.put F.PRT_PAIR_STICKY_GUARD_FAULT true).raise { src := 802 } else s)

/-- CLAIM_START (R426): three periods without a heartbeat, and the guard reads yielded. -/
def execClaimStart (s : State) : Host.Outcome State Fault Refusal :=
  settle s (
    if s.pairState = PairSt.starting ∧ 3 ≤ s.pair.silent ∧ s.pair.wait.isNone ∧ !s.bit F.PRT_PAIR_STATUS_GUARD_IN then
      ({ s with pair := { s.pair with claim := 0 } } : State).pairEnter PairSt.claiming
    else s)
/-- CLAIM_COMPLETE (R426): two periods in CLAIMING with the guard yielded throughout. -/
def execClaimComplete (s : State) : Host.Outcome State Fault Refusal :=
  settle s (
    if s.pairState = PairSt.claiming ∧ 2 ≤ s.pair.claim ∧ !s.bit F.PRT_PAIR_STATUS_GUARD_IN then s.pairActive else s)
/-- CLAIM_RETRY (R426): the wait after a withdrawn claim has passed. -/
def execClaimRetry (s : State) : Host.Outcome State Fault Refusal :=
  settle s (
    if s.pairState = PairSt.starting ∧ s.pair.wait = some 0 then { s with pair := { s.pair with wait := none } } else s)
/-- GUARD_READS_HOLDING (R426): a sample of the guard during a claim. -/
def execGuardReadsHolding (s : State) : Host.Outcome State Fault Refusal :=
  settle s (if s.pairState = PairSt.claiming then s.claimConflict else s)

/-! ## Takeover (R427, R433) -/

/-- The held `CLK` writes are adopted, under BUILDOUT (R417, R427). -/
def State.adoptClk (s : State) : State :=
  let l := s.pair.heldClk
  let s := { s with pair := { s.pair with heldClk := [] } }
  let s := s.each l fun s p => (s.writeReg p.1 0 (aliasOf p.1) (s.keyOf p.1) p.2.toNat).2
  if !s.regs.armed.contains 1 then s
  else { s with regs := { s.regs with armed := s.regs.armed.filter (· ≠ 1) } }.commitNow 1

/-- The unit becomes the active of the pair at a boundary (R427, R429, R451): its input is stamped under R268, its held `CLK`
writes act, its own journal starts. -/
def State.becomeActive (s : State) : State :=
  let s := s.stampHeld.adoptClk
  let s := { s with pair := { s.pair with
    jnext := 1, gap := false, yieldAt := none, accepted := false, fault := false, t0 := none, copied := false, resync := false
    diverged := false, parts := [], outs := [] } }
  let s := (s.put F.PRT_PAIR_STATUS_QUALIFIED false).pairEnter PairSt.active
  let s := { s with clk := { s.clk with takeOffset := s.clk.takeOffset || s.activeRef.isSome } }
  (s.endHeld 0x32 Rc.refused []).hierTakeover

/-- A hoist as it was loaded, to start at a later boundary (R433). -/
def Hoist.fresh (h : Hoist) (since : Nat) : Hoist :=
  { num := h.num, cls := h.cls, lat := h.lat, typ := h.typ, wc := h.wc, tmin := h.tmin, emerg := h.emerg, pennantAt := h.pennantAt
    members := h.members, at_ := h.at_, suspended := h.suspended, since := since, w := since - 2, img := h.img }

/-- Channels with a byte listed in a table at `base` of a space. -/
def State.tableChans (s : State) (sp base : Nat) : List Nat :=
  let a := memKey sp base
  ((s.mem.filter fun c => decide (a ≤ c.1 ∧ c.1 < a + 16384 * 256)).map fun c => (c.1 - a) / 256).eraseDups
/-- Every channel entry is reloaded from the configuration copy (R433). -/
def State.reloadTable (s : State) : State :=
  let chans := (s.tableChans s.chtSpace (s.chtAddr 0 0) ++ s.tableChans s.snapSpace (s.copyAddr 0 0)).eraseDups
  let s := s.each chans fun s c => s.wr s.chtSpace (s.chtAddr c 0) (s.rdBytes s.snapSpace (s.copyAddr c 0) 256)
  { s with ctx := s.ctx.map fun (e : CtxEntry) =>
      { e with dirty := false, words := (List.range e.words.length).map fun i =>
          BitVec.ofNat 64 (s.rdLE s.snapSpace (s.copyAddr e.chan i) 8) } }

/-- A selector returns to W (R433). -/
def State.selRestart (s : State) (n : Nat) : State :=
  let s := if s.on (F.PRT_SEL_CFG_PT n) ∧ s.bit (F.PRT_SEL_STATUS_SEL n) then s.selSource n false else s
  ((s.put (F.PRT_SEL_STATUS_SEL n) false).set (F.PRT_SEL_STATUS_REQ n) 0).put (F.PRT_SEL_STATUS_WTR_RUN n) false
/-- A queue is emptied (R433): a stream's gate stands at this tick, a program's starts with its writer's first work tick. -/
def State.queRestart (s : State) (q : Nat) : State :=
  let stream := !s.on (F.QUE_W_CFG_WRITER q)
  let s := s.modQueue q fun e => { num := e.num, gate := if stream then some s.tick else none, accept := if stream then s.tick else 0 }
  ((s.put (F.QUE_W_STATUS_FLUSH_PENDING q) false).set (F.QUE_W_GATE q) (if stream then s.tick % 2 ^ 32 else 0)).showQueue q

/-- A cold takeover (R433): entries from the configuration copy, local data 0, queues empty, check units at `INIT`, selectors on
W; hoists wait for the next super-tick boundary. -/
def State.coldStart (s : State) : State :=
  let s := s.reloadTable
  let s := { s with lin := { s.lin with logging := false, log := [], waiting := [] }, marks := [] }
  let s := s.each s.hoists fun s h => s.clearLocal h.num
  let s := s.each s.queues fun s e => s.queRestart e.num
  let s := s.each s.ckus fun s u => ((s.modCku u.num fun c => { c with chain := none, tick := s.tick }).ckReset u.num).put
    (F.CK_STATUS_OPEN u.num) false
  let s := s.each s.sels fun s e => s.selRestart e.num
  { s with
    sels := s.sels.map fun e => { num := e.num }
    hoists := s.hoists.map fun h => h.fresh s.tick
    pair := { s.pair with restart := true, t0 := some s.tick, loaded := false } }
/-- The hoists of a cold takeover start at the first super-tick boundary after it (R433). -/
def State.restartSuper (s : State) : State :=
  if !s.pair.restart ∨ !s.pair.t0.any (fun t => decide (t < s.tick)) then s
  else { s with
    hoists := s.hoists.map fun (h : Hoist) => { h with w := s.tick - 2 }
    pair := { s.pair with restart := false, t0 := none } }

/-- TAKEOVER (R427, R433, R435): loss declared, and the guard yielded for the 16 ticks before. -/
def execTakeover (s : State) : Host.Outcome State Fault Refusal :=
  settle s (
    if !s.pair.lost ∨ s.pair.low < 16 ∨ !follows s.pairState then s
    else if s.pairState = PairSt.joinConfig then
      (s.put F.PRT_PAIR_STICKY_JOIN_ABORTED true).endHeld 0x32 Rc.refused []
    else
      let warm := s.pair.wasQual && s.pairState = PairSt.standby
      let s := s.journalDue.becomeActive
      let s := if warm then s.put F.PRT_PAIR_STICKY_TAKEOVER_WARM true else s.coldStart.put F.PRT_PAIR_STICKY_COLD_TAKEOVER true
      (s.put F.PRT_PAIR_STICKY_UNPROTECTED true).raise { src := 800, code := 1 })

/-! ## Yield (R429) -/

/-- YIELD_MESSAGE (R429, R460): a standby takes the boundary named and accepts. -/
def execYieldMessage (n : BitVec 32) (t : Nat) (s : State) : Host.Outcome State Fault Refusal :=
  settle s (s.pairNote Ty.yield n.toNat fun s =>
    if s.pairState ≠ PairSt.standby ∨ t ≤ s.tick then s.pairRefuse Ty.yield n.toNat 3
    else ({ s with pair := { s.pair with yieldAt := some t, yieldFrom := s.tick, accepted := true } } : State).pairSend
      Ty.pairAccept fun k => .accept k)

/-- ACCEPT (R429): it counts up to tick T − 1. -/
def execAccept (n : BitVec 32) (s : State) : Host.Outcome State Fault Refusal :=
  settle s (s.pairNote Ty.pairAccept n.toNat fun s =>
    match s.pair.yieldAt with
    | some t =>
      if s.pairState ≠ PairSt.active then s.pairRefuse Ty.pairAccept n.toNat 3
      else if s.tick < t then { s with pair := { s.pair with accepted := true } } else s
    | none => s.pairRefuse Ty.pairAccept n.toNat 3)

/-- The peer's state as a handover makes it. -/
def State.peerIs (s : State) (st : Nat) : State :=
  { s with pair := { s.pair with peer := s.pair.peer.map fun (h : Heartbeat) => { h with state := Fin.ofNat 8 st } } }
/-- YIELD_HANDOVER (R429): at T the active that has the accept becomes the standby, and the standby the active; without it the
yield has failed. -/
def execYieldHandover (s : State) : Host.Outcome State Fault Refusal :=
  settle s (
    if !s.pair.yieldAt.any (fun t => decide (t ≤ s.tick)) then s
    else if s.pairState = PairSt.standby then s.becomeActive.peerIs PairSt.standby
    else if s.pairState ≠ PairSt.active then s
    else if !s.pair.accepted then s.yieldFails
    else
      let fault := s.pair.fault
      let s := { s with pair := { s.pair with
        jnext := 1, gap := false, yieldAt := none, accepted := false, fault := false, outs := [], good := 0, t0 := none, copied := false
        diverged := fault } }
      let s := (((s.put F.PRT_PAIR_STATUS_QUALIFIED false).pairEnter PairSt.standby).ledgerStart).peerIs PairSt.active
      let s := if fault then s.put F.PRT_PAIR_STICKY_DIVERGED true else s
      s.endHeld 0x31 Rc.ok [])

/-! ## Join (R430 to R432) -/

/-- JOIN_CONFIG_COMPLETE (R430): everything applied; phase 2 starts at the first super-tick boundary after it. -/
def execJoinConfigComplete (s : State) : Host.Outcome State Fault Refusal :=
  settle s (
    if s.pairState = PairSt.joinConfig ∧ s.pair.copied ∧ s.superTick then
      ((s.ledgerStart.pairEnter PairSt.joinState)).joinPhase2
    else s)

/-- A register word of phase 1, stored or in force (R430): stored as it is; a unit that follows holds the `CLK` words. -/
def State.joinReg (s : State) (addr : Nat) (v : Reg) (inForce : Bool) : State :=
  let key := s.keyOf addr
  if !journaled key then s
  else if blockOf key = 1 then
    (if inForce then s else { s with pair := { s.pair with heldClk := s.pair.heldClk ++ [(addr, v)] } })
  else if inForce then s.setLive key v.toNat
  else let t := s.setWord key v.toNat; s.follow t key
/-- The words of a channel entry of phase 1, in the entry and the configuration copy (R431). -/
def State.joinChan (s : State) (c : Nat) (ws : List Word) : State :=
  s.each (ws.take 32).zipIdx fun s p =>
    (s.setChan c p.2 p.1.toNat).wr s.snapSpace (s.copyAddr c p.2) (leBytes 8 p.1.toNat)
/-- A part of phase 1 is applied (R430). -/
def State.joinPart (s : State) : SnapPart → State
  | .reg addr v live => s.joinReg addr.toNat v live
  | .prog t a bs => if a + bs.length ≤ 4 * 131072 then s.wr (Sp.prog t.val) a bs else s
  | .tileMem t a bs => if a + bs.length ≤ 0x300000 then s.wr (Sp.tile t.val) a bs else s
  | .sram a bs => if a + bs.length ≤ 0x3C00000 then s.wr Sp.sram a bs else s
  | .image t i b cw co kw fe cl =>
    { s with images := s.images ++ [⟨t.val, i, b, cw, co, kw, fe, cl⟩] }
  | .chan c ws => s.joinChan c.val ws
  | .hoist bs => match parseDescriptor bs with | some h => s.hoistPlace h | none => s
  | .locals _ _ | .queue _ _ _ | .unit _ _ _ | .selector _ _ _ _ _ | .last => s

/-- A part of the snapshot is loaded (R431, R432); `t0` is T0. -/
def State.loadPart (t0 : Nat) (s : State) : SnapPart → State
  | .locals k bs => s.wr Sp.locals (localAddr k.val 0) (bs.take 2048)
  | .chan c ws => s.each (ws.take 32).zipIdx fun s p => s.setChan c.val p.2 p.1.toNat
  | .queue q ws bit =>
    (s.modQueue q.val fun e => { e with
      words := ws.map fun p => { data := p.1.data, tag := p.1.tag, arr := p.2 }
      gate := some t0, accept := t0, bit := bit, open_ := false, flush := none, flushWords := none, incomplete := [] }).showQueue q.val
  | .unit n run ring =>
    let s := (s.set (F.CK_RUN n.val) run.toNat).modCku n.val fun c => { c with held := [], bytes := 0, failed := false, tick := t0 }
    s.each ring fun s r =>
      let i := r.1 % 16
      let s := (s.set (F.CK_DIG n.val i) r.2.2.1.toNat).set (F.CK_DIG_TICK n.val i) (r.2.1 % 2 ^ 32)
      ((s.put (F.CK_DIG_FLAGS_VALID n.val i) (bitOf r.2.2.2 0)).put (F.CK_DIG_FLAGS_INCOMPLETE n.val i) (bitOf r.2.2.2 1)).put
        (F.CK_DIG_FLAGS_PARITY n.val i) (bitOf r.2.2.2 2)
  | .selector n p wtr runs hold =>
    (s.put (F.PRT_SEL_STATUS_SEL n.val) p).modSel n.val fun e => { e with
      sfW := runs.getD 0 0, sdW := runs.getD 1 0, sfP := runs.getD 2 0, sdP := runs.getD 3 0, wtr := wtr, prev := hold, w := none, p := none }
  | .reg _ _ _ | .prog _ _ _ | .tileMem _ _ _ | .sram _ _ | .image _ _ _ _ _ _ _ _ | .hoist _ | .last => s

/-- The standby acknowledges the transfer (R430). -/
def State.snapshotAnswer (s : State) : State := s.pairSend Ty.snapshotAck fun n => .snapshotAck n
/-- SNAPSHOT (R430, R431, R442): in JOIN_CONFIG a part is applied, in JOIN_STATE it is staged; the last part completes the copy
and is acknowledged (log 35). -/
def execSnapshot (seq : BitVec 32) (p : SnapPart) (s : State) : Host.Outcome State Fault Refusal :=
  settle s (s.pairIn Ty.snapshot fun s =>
    let cfg := s.pairState = PairSt.joinConfig
    if !(cfg ∨ s.pairState = PairSt.joinState) then s.pairRefuse Ty.snapshot seq.toNat 3
    else if seq.toNat ≠ s.pair.partNext then
      let s := s.violate .pair Viol.sequence Ty.snapshot 0 s.pairId
      if (seq.toNat + 1) % 2 ^ 32 = s.pair.partNext ∧ s.pair.copied then s.snapshotAnswer else s
    else
      let s := { s with pair := { s.pair with partNext := (s.pair.partNext + 1) % 2 ^ 32 } }
      if p = .last then ({ s with pair := { s.pair with copied := true } } : State).snapshotAnswer
      else if cfg then s.joinPart p
      else { s with pair := { s.pair with parts := s.pair.parts ++ [p] } })

/-- SNAPSHOT_ACK (R430): after phase 1 the snapshot is due at the next super-tick boundary; after phase 2 the transfer ends. -/
def execSnapshotAck (n : BitVec 32) (s : State) : Host.Outcome State Fault Refusal :=
  settle s (s.pairNote Ty.snapshotAck n.toNat fun s =>
    if s.pairState ≠ PairSt.active then s.pairRefuse Ty.snapshotAck n.toNat 3
    else if s.pair.t0.isSome then { s with pair := { s.pair with t0 := none } }
    else if s.pair.peer.any fun h => h.state.val = PairSt.joinConfig then { s with pair := { s.pair with copied := true } }
    else s)

/-- SNAPSHOT_LOAD (R432): at the next super-tick boundary after the copy is complete; each hoist starts at work tick T0. -/
def execSnapshotLoad (s : State) : Host.Outcome State Fault Refusal :=
  settle s (match s.pair.t0 with
    | none => s
    | some t0 =>
      if s.pairState ≠ PairSt.joinState ∨ !s.pair.copied ∨ s.pair.loaded ∨ !s.superTick ∨ s.tick ≤ t0 then s else
      let s := s.each s.pair.parts (State.loadPart t0)
      { s with
        marks := []
        hoists := s.hoists.map fun h => { h.fresh (t0 + 1) with w := t0 - 1 }
        pair := { s.pair with loaded := true, parts := [], noBreach := 0, breached := false } })

/-- CATCH_UP_COMPLETE (R430): 16 consecutive ticks without a RELEASE breach. -/
def execCatchUpComplete (s : State) : Host.Outcome State Fault Refusal :=
  settle s (
    if s.pairState = PairSt.joinState ∧ s.pair.loaded ∧ 16 ≤ s.pair.noBreach then
      ({ s with pair := { s.pair with good := 0, t0 := none } } : State).pairEnter PairSt.standby
    else s)

/-- LOG_FULL (R432, R434): phase 2 starts again with `AUTO_RESYNC`, else the unit waits for `PAIR_RESYNC`. -/
def execLogFull (s : State) : Host.Outcome State Fault Refusal :=
  settle s (
    if s.pairState ≠ PairSt.joinState ∨ !s.lin.logging then s else
    let s := s.put F.PRT_PAIR_STICKY_LOG_FULL true
    let s := { s with
      lin := { s.lin with logging := false, log := [] }
      pair := { s.pair with loaded := false, copied := false, parts := [], t0 := none, resync := s.on F.PRT_PAIR_CFG_AUTO_RESYNC } }
    s.endHeld 0x32 Rc.refused [])

/-! ## Mailbox commands (R434) -/

/-- `PAIR_START`: in OFF, with the tick generator disabled and `H0` enabled. -/
def State.pairStartBody (s : State) (c : Cmd) : State :=
  if s.pairState ≠ PairSt.off ∨ s.bit F.CLK_FTC_CTRL_ENABLE ∨ !s.on (F.HAL_H_CFG_ENABLE 0) then s.finish c Rc.refused []
  else
    let s := s.seqRestart .pair
    let s := { s with pair := { s.pair with jnext := 1, partNext := 1, silent := 0, peer := none, hbTick := none, lost := false } }
    (s.begin c).pairEnter PairSt.starting
/-- PAIR_START (R426, R434). -/
def execPairStart (s : State) : Host.Outcome State Fault Refusal := settle s (s.runOp 0x30 0 State.pairStartBody)

/-- `PAIR_YIELD`: in ACTIVE with a qualified standby; a yield already decided absorbs it (R435). -/
def State.pairYieldBody (s : State) (c : Cmd) : State :=
  if !s.standbyQualified then s.finish c Rc.refused []
  else
    let s := s.begin c
    if s.pair.yieldAt.isSome then s else s.yieldDecide false
/-- PAIR_YIELD (R429, R434). -/
def execPairYield (s : State) : Host.Outcome State Fault Refusal := settle s (s.runOp 0x31 0 State.pairYieldBody)

/-- `PAIR_RESYNC`: in JOIN_STATE and STANDBY; it acts at the next tick boundary. -/
def State.pairResyncBody (s : State) (c : Cmd) : State :=
  if s.pairState ≠ PairSt.joinState ∧ s.pairState ≠ PairSt.standby then s.finish c Rc.refused []
  else (s.begin c).busyCount 1
/-- PAIR_RESYNC (R434). -/
def execPairResync (s : State) : Host.Outcome State Fault Refusal := settle s (s.runOp 0x32 1 State.pairResyncBody)
/-- A tick boundary's part of `PAIR_RESYNC`. -/
def State.resyncTick (s : State) : State :=
  match s.heldCmd 0x32 with
  | none => s
  | some b =>
    if b.n ≠ 1 then s else
    let once : Busy → Busy := fun (x : Busy) => if x.cmd.op = 0x32 then { x with n := 0 } else x
    let s := { s with mbox := { s.mbox with busy := s.mbox.busy.map once, aside := s.mbox.aside.map once } }
    if bitOf (b.cmd.arg 0) 0 then s.joinEnter else s.joinAgain

/-- `PAIR_STOP`: in any state but OFF and ACTIVE. -/
def State.pairStopBody (s : State) (c : Cmd) : State :=
  if s.pairState = PairSt.off ∨ s.pairState = PairSt.active then s.finish c Rc.refused []
  else (s.pairEnter PairSt.stopped).finish c Rc.ok []
/-- PAIR_STOP (R434). -/
def execPairStop (s : State) : Host.Outcome State Fault Refusal := settle s (s.runOp 0x33 0 State.pairStopBody)

/-! ## At the boundaries -/

/-- Pair mode's part of a tick boundary (R422, R425, R430, R438): the guard, the counts, the journal's and the store's parts
are taken before. -/
def State.pairTick (s : State) (guardLow : Bool) : State :=
  if s.pairState = PairSt.off then s else
  let s := s.put F.PRT_PAIR_STATUS_GUARD_IN (!guardLow)
  let p := s.pair
  let catching := s.pairState = PairSt.joinState ∧ p.loaded
  let inStep := s.pairState = PairSt.standby ∧ !p.lost ∧ !p.disNow
  let s := { s with pair := { p with
    low := if guardLow then p.low + 1 else 0, high := if guardLow then 0 else p.high + 1
    good := if inStep then p.good + 1 else 0
    noBreach := if catching ∧ !p.breached then p.noBreach + 1 else 0, breached := false } }
  let lag := maxL (s.hoists.map fun h => if h.suspended then 0 else s.tick - 2 - h.w)
  let s : State := s.set F.PRT_PAIR_STATUS_BEHIND (if follows s.pairState then Nat.min 65535 lag else 0)
  let s := if s.pairState = PairSt.standby ∧ s.pair.diverged ∧ s.on F.PRT_PAIR_CFG_AUTO_RESYNC then s.joinAgain else s
  s.resyncTick
/-- Pair mode's part of a super-tick boundary (R430 to R433): a resynchronisation starts phase 2, an active sends the snapshot
that is due, hoists start after a cold takeover. -/
def State.pairSuper (s : State) : State :=
  let s := s.restartSuper
  if s.pairState = PairSt.joinState ∧ s.pair.resync then s.joinPhase2
  else if s.pairState = PairSt.active ∧ s.pair.copied then
    let t := s.tick
    ({ s with pair := { s.pair with copied := false, t0 := some t } } : State).pairSend Ty.snapshot fun _ => .snapshot t
  else s

end Sys2Proof.Machine
end

