-- ==== Sys2Proof/Machine/Tick.lean ====
section
/-! DEFINITION. The tick boundary and the super-tick boundary (R10, R52): what every block does there, in order. -/

namespace Sys2Proof.Machine

/-- The active sends the ledger of the tick that ended (R414, R416). -/
def State.ledgerSend (s : State) (t : Nat) : State :=
  if s.pairState ≠ PairSt.active then s else
  let l := s.ledgerOf t
  s.pairSend Ty.ledger fun n => .ledger n l

/-- COMMIT_COPY (R140): the blocks with an armed commit, in the order of their arming. -/
def State.commitsTick (s : State) : State :=
  let l := s.regs.armed.reverse
  let s := { s with regs := { s.regs with armed := [] } }
  s.each l State.commitNow

/-- The samples of the tick that ended are over (R33, R405): a channel is sampled once a tick, and a member's values that met no
evaluation are dropped. -/
def State.samplesTick (s : State) : State :=
  { s with sampled := [], sels := s.sels.map fun e => { e with w := none, p := none } }

/-- A reset that `DEVICE_RESET` has announced comes due (R507). -/
def State.resetTick (s : State) : State :=
  if s.boot.resetAt.any fun t => decide (t ≤ s.tick) then s.commandReset else s

/-- The new tick begins (R52): the count, the journal's writes and then the commits, the sources' closing of the tick that
ended, the budget, the commands that act at a tick boundary, the partners, the recorder, the voice groups, pair mode, start-up. -/
def State.tickBoundary (s : State) (m : Meas) : State :=
  let s := s.raiseGathered.advanceTick m
  let s := ((s.ledgerSend (s.tick - 1)).journalDue).commitsTick
  let s := (s.closeSources.unitsTick).drainWaiting.logTick
  let s := ((s.samplesTick.budget m).commandsTick).hierTick
  let s := s.peersTick.recTick.vpFollow
  let s := s.compareTick.pairTick m.guardLow
  s.scriptTick.resumeTick.resetTick

/-- TICK_BOUNDARY (R52, R53): only while the tick generator runs. -/
def execTickBoundary (m : Meas) (s : State) : Host.Outcome State Fault Refusal :=
  settle s (if s.ftcState = Ftc.disabled then s else s.tickBoundary m)

/-- The keeper set written takes effect (R106). -/
def State.keepersSuper (s : State) : State :=
  ({ s with pwr := { s.pwr with keepers := s.cfg F.PWR_KEEPER_SET } } : State).showKeep

/-- SUPER_TICK_BOUNDARY (R10): at a tick that is a multiple of 16. -/
def execSuperTickBoundary (s : State) : Host.Outcome State Fault Refusal :=
  settle s (if s.superTick then ((s.drainDomains.commandsSuper).keepersSuper).discSuper.hierSuper.pairSuper else s)

end Sys2Proof.Machine
end

