-- ==== Sys2Proof/Machine/Dispatch.lean ====
section
/-! DEFINITION. `exec`: what every command does, one arm per constructor of `Instr`, each a direct call of its meaning. -/

namespace Sys2Proof.Machine

/-- The effect of a command on everything but the queue. -/
def exec (i : Instr) (s : State) : Host.Outcome State Fault Refusal :=
  match i with
  | .tickBoundary m => Sys2Proof.Machine.execTickBoundary m s
  | .superTickBoundary => Sys2Proof.Machine.execSuperTickBoundary s
  | .creditShortExpiry => Sys2Proof.Machine.execCreditShortExpiry s
  | .creditCauseClear => Sys2Proof.Machine.execCreditCauseClear s
  | .pennantModeStart => Sys2Proof.Machine.execPennantModeStart s
  | .pennantPlacementMove => Sys2Proof.Machine.execPennantPlacementMove s
  | .pennantEnterCmd v => Sys2Proof.Machine.execPennantEnterCmd v s
  | .pennantExit v => Sys2Proof.Machine.execPennantExit v s
  | .pennantExitComplete => Sys2Proof.Machine.execPennantExitComplete s
  | .releaseSample c => Sys2Proof.Machine.execReleaseSample c s
  | .streamBeat sid line ws => Sys2Proof.Machine.execStreamBeat sid line ws s
  | .tickCloseMarker sid => Sys2Proof.Machine.execTickCloseMarker sid s
  | .gateDeadline q => Sys2Proof.Machine.execGateDeadline q s
  | .threadReady k => Sys2Proof.Machine.execThreadReady k s
  | .gateStallEnd k => Sys2Proof.Machine.execGateStallEnd k s
  | .contextRefill tile c => Sys2Proof.Machine.execContextRefill tile c s
  | .add k w => Sys2Proof.Machine.execAdd k w s
  | .sub k w => Sys2Proof.Machine.execSub k w s
  | .and k w => Sys2Proof.Machine.execAnd k w s
  | .or k w => Sys2Proof.Machine.execOr k w s
  | .xor k w => Sys2Proof.Machine.execXor k w s
  | .min k w => Sys2Proof.Machine.execMin k w s
  | .max k w => Sys2Proof.Machine.execMax k w s
  | .adds k w => Sys2Proof.Machine.execAdds k w s
  | .minS k w => Sys2Proof.Machine.execMinS k w s
  | .maxS k w => Sys2Proof.Machine.execMaxS k w s
  | .addsS k w => Sys2Proof.Machine.execAddsS k w s
  | .ext k w => Sys2Proof.Machine.execExt k w s
  | .ins k w => Sys2Proof.Machine.execIns k w s
  | .rot k w => Sys2Proof.Machine.execRot k w s
  | .popc k w => Sys2Proof.Machine.execPopc k w s
  | .clz k w => Sys2Proof.Machine.execClz k w s
  | .get k w => Sys2Proof.Machine.execGet k w s
  | .peek k w => Sys2Proof.Machine.execPeek k w s
  | .put k w => Sys2Proof.Machine.execPut k w s
  | .skip k w => Sys2Proof.Machine.execSkip k w s
  | .align k w => Sys2Proof.Machine.execAlign k w s
  | .hunt k w => Sys2Proof.Machine.execHunt k w s
  | .matchBits k w => Sys2Proof.Machine.execMatchBits k w s
  | .cmp k w => Sys2Proof.Machine.execCmp k w s
  | .tst k w => Sys2Proof.Machine.execTst k w s
  | .br k w => Sys2Proof.Machine.execBr k w s
  | .call k w => Sys2Proof.Machine.execCall k w s
  | .ret k w => Sys2Proof.Machine.execRet k w s
  | .yield k w => Sys2Proof.Machine.execYield k w s
  | .waitt k w => Sys2Proof.Machine.execWaitt k w s
  | .halt k w => Sys2Proof.Machine.execHalt k w s
  | .ldc k w => Sys2Proof.Machine.execLdc k w s
  | .stc k w => Sys2Proof.Machine.execStc k w s
  | .nextc k w => Sys2Proof.Machine.execNextc k w s
  | .enq k w => Sys2Proof.Machine.execEnq k w s
  | .deq k w => Sys2Proof.Machine.execDeq k w s
  | .qstat k w => Sys2Proof.Machine.execQstat k w s
  | .ptri k w => Sys2Proof.Machine.execPtri k w s
  | .bipa k w => Sys2Proof.Machine.execBipa k w s
  | .cmpd k w => Sys2Proof.Machine.execCmpd k w s
  | .ilv k w => Sys2Proof.Machine.execIlv k w s
  | .dilv k w => Sys2Proof.Machine.execDilv k w s
  | .ckfReset k w => Sys2Proof.Machine.execCkfReset k w s
  | .ckfPrefix k w => Sys2Proof.Machine.execCkfPrefix k w s
  | .ckfFeed k w => Sys2Proof.Machine.execCkfFeed k w s
  | .ckfSuffix k w => Sys2Proof.Machine.execCkfSuffix k w s
  | .ckfRead k w => Sys2Proof.Machine.execCkfRead k w s
  | .ckfCheck k w => Sys2Proof.Machine.execCkfCheck k w s
  | .raise k w => Sys2Proof.Machine.execRaise k w s
  | .pen k w => Sys2Proof.Machine.execPen k w s
  | .tickWork k w => Sys2Proof.Machine.execTickWork k w s
  | .tickRef k w => Sys2Proof.Machine.execTickRef k w s
  | .tickLive k w => Sys2Proof.Machine.execTickLive k w s
  | .classify k w => Sys2Proof.Machine.execClassify k w s
  | .ftcSnap v => Sys2Proof.Machine.execFtcSnap v s
  | .ftcEnable v => Sys2Proof.Machine.execFtcEnable v s
  | .referenceLoss sl => Sys2Proof.Machine.execReferenceLoss sl s
  | .referenceSwitch => Sys2Proof.Machine.execReferenceSwitch s
  | .referenceQualify sl => Sys2Proof.Machine.execReferenceQualify sl s
  | .revertWaitExpiry => Sys2Proof.Machine.execRevertWaitExpiry s
  | .acquireLock => Sys2Proof.Machine.execAcquireLock s
  | .itoQualify => Sys2Proof.Machine.execItoQualify s
  | .xinWindow count => Sys2Proof.Machine.execXinWindow count s
  | .xinQualifyTimeout => Sys2Proof.Machine.execXinQualifyTimeout s
  | .crystalMonitorTrip why => Sys2Proof.Machine.execCrystalMonitorTrip why s
  | .clockRetry => Sys2Proof.Machine.execClockRetry s
  | .pllCoast p => Sys2Proof.Machine.execPllCoast p s
  | .pllRestore p => Sys2Proof.Machine.execPllRestore p s
  | .domainSwitchRequest v => Sys2Proof.Machine.execDomainSwitchRequest v s
  | .domainSwitchDone d => Sys2Proof.Machine.execDomainSwitchDone d s
  | .domainSwitchForce d => Sys2Proof.Machine.execDomainSwitchForce d s
  | .forcedDomainResume d => Sys2Proof.Machine.execForcedDomainResume d s
  | .fmStart n v => Sys2Proof.Machine.execFmStart n v s
  | .fmGateClose n count => Sys2Proof.Machine.execFmGateClose n count s
  | .fmTimeout n count => Sys2Proof.Machine.execFmTimeout n count s
  | .feedLost f why => Sys2Proof.Machine.execFeedLost f why s
  | .feedRestored f => Sys2Proof.Machine.execFeedRestored f s
  | .feedRetry v => Sys2Proof.Machine.execFeedRetry v s
  | .supervisorReload => Sys2Proof.Machine.execSupervisorReload s
  | .supervisorMismatch activeOk standbyOk => Sys2Proof.Machine.execSupervisorMismatch activeOk standbyOk s
  | .pwrDomOn n v => Sys2Proof.Machine.execPwrDomOn n v s
  | .pwrDomOff n v => Sys2Proof.Machine.execPwrDomOff n v s
  | .domainPowered n => Sys2Proof.Machine.execDomainPowered n s
  | .keeperSetWrite v => Sys2Proof.Machine.execKeeperSetWrite v s
  | .agingMeasure slow => Sys2Proof.Machine.execAgingMeasure slow s
  | .engineRetire v => Sys2Proof.Machine.execEngineRetire v s
  | .retireAct => Sys2Proof.Machine.execRetireAct s
  | .calProgram v => Sys2Proof.Machine.execCalProgram v s
  | .calProgramDone ok => Sys2Proof.Machine.execCalProgramDone ok s
  | .registerWrite a => Sys2Proof.Machine.execRegisterWrite a s
  | .setAliasWrite a => Sys2Proof.Machine.execSetAliasWrite a s
  | .clearAliasWrite a => Sys2Proof.Machine.execClearAliasWrite a s
  | .toggleAliasWrite a => Sys2Proof.Machine.execToggleAliasWrite a s
  | .commitGo b v => Sys2Proof.Machine.execCommitGo b v s
  | .sramWindowWrite off bs => Sys2Proof.Machine.execSramWindowWrite off bs s
  | .scrubPass flips => Sys2Proof.Machine.execScrubPass flips s
  | .parityClear v => Sys2Proof.Machine.execParityClear v s
  | .mboxSubmit slot v => Sys2Proof.Machine.execMboxSubmit slot v s
  | .mboxRelease slot v => Sys2Proof.Machine.execMboxRelease slot v s
  | .nop => Sys2Proof.Machine.execNop s
  | .identify => Sys2Proof.Machine.execIdentify s
  | .unknownCommand => Sys2Proof.Machine.execUnknownCommand s
  | .imageLoad => Sys2Proof.Machine.execImageLoad s
  | .imageUnload => Sys2Proof.Machine.execImageUnload s
  | .imageQuery => Sys2Proof.Machine.execImageQuery s
  | .hoistReimage => Sys2Proof.Machine.execHoistReimage s
  | .bootLoad => Sys2Proof.Machine.execBootLoad s
  | .tableLoad => Sys2Proof.Machine.execTableLoad s
  | .tableClear => Sys2Proof.Machine.execTableClear s
  | .deviceReset => Sys2Proof.Machine.execDeviceReset s
  | .bootKeyProgram => Sys2Proof.Machine.execBootKeyProgram s
  | .hoistLoad => Sys2Proof.Machine.execHoistLoad s
  | .hoistUnload => Sys2Proof.Machine.execHoistUnload s
  | .chanCommit => Sys2Proof.Machine.execChanCommit s
  | .pennantClear => Sys2Proof.Machine.execPennantClear s
  | .twinSet => Sys2Proof.Machine.execTwinSet s
  | .twinClear => Sys2Proof.Machine.execTwinClear s
  | .hoistMove => Sys2Proof.Machine.execHoistMove s
  | .ctxFlush => Sys2Proof.Machine.execCtxFlush s
  | .pairStart => Sys2Proof.Machine.execPairStart s
  | .pairYield => Sys2Proof.Machine.execPairYield s
  | .pairResync => Sys2Proof.Machine.execPairResync s
  | .pairStop => Sys2Proof.Machine.execPairStop s
  | .halJoinOpen => Sys2Proof.Machine.execHalJoinOpen s
  | .halRelease => Sys2Proof.Machine.execHalRelease s
  | .halSendCmd => Sys2Proof.Machine.execHalSendCmd s
  | .halRegWrite => Sys2Proof.Machine.execHalRegWrite s
  | .halImagePush => Sys2Proof.Machine.execHalImagePush s
  | .halLeave => Sys2Proof.Machine.execHalLeave s
  | .halQuarClear => Sys2Proof.Machine.execHalQuarClear s
  | .recStart => Sys2Proof.Machine.execRecStart s
  | .recStop => Sys2Proof.Machine.execRecStop s
  | .recFlush => Sys2Proof.Machine.execRecFlush s
  | .recRead => Sys2Proof.Machine.execRecRead s
  | .busHoldRelease m => Sys2Proof.Machine.execBusHoldRelease m s
  | .masterDrainComplete m => Sys2Proof.Machine.execMasterDrainComplete m s
  | .ctxRead v => Sys2Proof.Machine.execCtxRead v s
  | .tileDisable n v => Sys2Proof.Machine.execTileDisable n v s
  | .laneEnable l v => Sys2Proof.Machine.execLaneEnable l v s
  | .ethernetFrameReceive l bytes => Sys2Proof.Machine.execEthernetFrameReceive l bytes s
  | .txUnderrun t => Sys2Proof.Machine.execTxUnderrun t s
  | .txOverrun t => Sys2Proof.Machine.execTxOverrun t s
  | .bundleFrameReceive b bytes => Sys2Proof.Machine.execBundleFrameReceive b bytes s
  | .bundleFrameTransmit b status mgmt slots => Sys2Proof.Machine.execBundleFrameTransmit b status mgmt slots s
  | .laneLockLoss l => Sys2Proof.Machine.execLaneLockLoss l s
  | .laneLockRegain l => Sys2Proof.Machine.execLaneLockRegain l s
  | .dpClockStop d => Sys2Proof.Machine.execDpClockStop d s
  | .dpClockReturn d => Sys2Proof.Machine.execDpClockReturn d s
  | .dpClockGlitch d => Sys2Proof.Machine.execDpClockGlitch d s
  | .dpRateWindow d edges => Sys2Proof.Machine.execDpRateWindow d edges s
  | .discoveryHailTimer => Sys2Proof.Machine.execDiscoveryHailTimer s
  | .lineHail k m => Sys2Proof.Machine.execLineHail k m s
  | .lineAnsweringPennant k m => Sys2Proof.Machine.execLineAnsweringPennant k m s
  | .negativeAnsweringPennant k m => Sys2Proof.Machine.execNegativeAnsweringPennant k m s
  | .discoveryTimeout k => Sys2Proof.Machine.execDiscoveryTimeout k s
  | .discClear k v => Sys2Proof.Machine.execDiscClear k v s
  | .setPhase w => Sys2Proof.Machine.execSetPhase w s
  | .resetPhase w => Sys2Proof.Machine.execResetPhase w s
  | .setRate w => Sys2Proof.Machine.execSetRate w s
  | .xcChange slot => Sys2Proof.Machine.execXcChange slot s
  | .ptPointerAdjust slot adj => Sys2Proof.Machine.execPtPointerAdjust slot adj s
  | .queueEnable v => Sys2Proof.Machine.execQueueEnable v s
  | .queueDisable v => Sys2Proof.Machine.execQueueDisable v s
  | .queueFlush v => Sys2Proof.Machine.execQueueFlush v s
  | .flushApply q => Sys2Proof.Machine.execFlushApply q s
  | .watermarkClear t v => Sys2Proof.Machine.execWatermarkClear t v s
  | .unitEnable n v => Sys2Proof.Machine.execUnitEnable n v s
  | .unitDisable n v => Sys2Proof.Machine.execUnitDisable n v s
  | .runLoHold n v => Sys2Proof.Machine.execRunLoHold n v s
  | .runLoad n v => Sys2Proof.Machine.execRunLoad n v s
  | .swap n v => Sys2Proof.Machine.execSwap n v s
  | .vpEnable n v => Sys2Proof.Machine.execVpEnable n v s
  | .service n v => Sys2Proof.Machine.execService n v s
  | .stop n v => Sys2Proof.Machine.execStop n v s
  | .rampDownEnd n => Sys2Proof.Machine.execRampDownEnd n s
  | .vpClockStop n => Sys2Proof.Machine.execVpClockStop n s
  | .vpClockReturn n => Sys2Proof.Machine.execVpClockReturn n s
  | .vpRateResult n count => Sys2Proof.Machine.execVpRateResult n count s
  | .vpRxFrame n f => Sys2Proof.Machine.execVpRxFrame n f s
  | .vpTxBlock n ws => Sys2Proof.Machine.execVpTxBlock n ws s
  | .vpTxFrame n => Sys2Proof.Machine.execVpTxFrame n s
  | .xcBundleEmit => Sys2Proof.Machine.execXcBundleEmit s
  | .selectorEnable n v => Sys2Proof.Machine.execSelectorEnable n v s
  | .selectorWtrExpiry n => Sys2Proof.Machine.execSelectorWtrExpiry n s
  | .heartbeatSend guardLow => Sys2Proof.Machine.execHeartbeatSend guardLow s
  | .heartbeat n h => Sys2Proof.Machine.execHeartbeat n h s
  | .ledger n l => Sys2Proof.Machine.execLedger n l s
  | .ledgerLate => Sys2Proof.Machine.execLedgerLate s
  | .journal seq e => Sys2Proof.Machine.execJournal seq e s
  | .journalAck n seq => Sys2Proof.Machine.execJournalAck n seq s
  | .journalApply => Sys2Proof.Machine.execJournalApply s
  | .digest n es => Sys2Proof.Machine.execDigest n es s
  | .digestMissing => Sys2Proof.Machine.execDigestMissing s
  | .pairQualify => Sys2Proof.Machine.execPairQualify s
  | .heartbeatLoss => Sys2Proof.Machine.execHeartbeatLoss s
  | .guardFault => Sys2Proof.Machine.execGuardFault s
  | .claimStart => Sys2Proof.Machine.execClaimStart s
  | .claimComplete => Sys2Proof.Machine.execClaimComplete s
  | .claimRetry => Sys2Proof.Machine.execClaimRetry s
  | .takeover => Sys2Proof.Machine.execTakeover s
  | .yieldMessage n t => Sys2Proof.Machine.execYieldMessage n t s
  | .accept n => Sys2Proof.Machine.execAccept n s
  | .yieldHandover => Sys2Proof.Machine.execYieldHandover s
  | .joinConfigComplete => Sys2Proof.Machine.execJoinConfigComplete s
  | .snapshot seq p => Sys2Proof.Machine.execSnapshot seq p s
  | .snapshotAck n => Sys2Proof.Machine.execSnapshotAck n s
  | .snapshotLoad => Sys2Proof.Machine.execSnapshotLoad s
  | .catchUpComplete => Sys2Proof.Machine.execCatchUpComplete s
  | .logFull => Sys2Proof.Machine.execLogFull s
  | .halyardPortEnable p v => Sys2Proof.Machine.execHalyardPortEnable p v s
  | .managerHailTimer => Sys2Proof.Machine.execManagerHailTimer s
  | .hail f => Sys2Proof.Machine.execHail f s
  | .answeringPennant f => Sys2Proof.Machine.execAnsweringPennant f s
  | .negPennant f => Sys2Proof.Machine.execNegPennant f s
  | .joinOffer f => Sys2Proof.Machine.execJoinOffer f s
  | .joinAccept f => Sys2Proof.Machine.execJoinAccept f s
  | .leave f => Sys2Proof.Machine.execLeave f s
  | .halReleaseFrame f => Sys2Proof.Machine.execHalReleaseFrame f s
  | .timeReqSend => Sys2Proof.Machine.execTimeReqSend s
  | .timeReq f t2 t3 => Sys2Proof.Machine.execTimeReq f t2 t3 s
  | .timeResp f t4 => Sys2Proof.Machine.execTimeResp f t4 s
  | .halCommand f => Sys2Proof.Machine.execHalCommand f s
  | .halResult f => Sys2Proof.Machine.execHalResult f s
  | .halRegWriteFrame f => Sys2Proof.Machine.execHalRegWriteFrame f s
  | .regAck f => Sys2Proof.Machine.execRegAck f s
  | .imageChunk f => Sys2Proof.Machine.execImageChunk f s
  | .imageStatus f => Sys2Proof.Machine.execImageStatus f s
  | .halEvent f => Sys2Proof.Machine.execHalEvent f s
  | .halUser f => Sys2Proof.Machine.execHalUser f s
  | .retransmit n => Sys2Proof.Machine.execRetransmit n s
  | .managerLost => Sys2Proof.Machine.execManagerLost s
  | .memberLost m => Sys2Proof.Machine.execMemberLost m s
  | .autoFtcEnable => Sys2Proof.Machine.execAutoFtcEnable s
  | .unbind v => Sys2Proof.Machine.execUnbind v s
  | .quarantineStart p => Sys2Proof.Machine.execQuarantineStart p s
  | .quarantineEnd p => Sys2Proof.Machine.execQuarantineEnd p s
  | .overflowRecord => Sys2Proof.Machine.execOverflowRecord s
  | .vectorArm w v => Sys2Proof.Machine.execVectorArm w v s
  | .msixUnmask vec => Sys2Proof.Machine.execMsixUnmask vec s
  | .evtEnable v => Sys2Proof.Machine.execEvtEnable v s
  | .recSourceEnable k v => Sys2Proof.Machine.execRecSourceEnable k v s
  | .recordWrite => Sys2Proof.Machine.execRecordWrite s
  | .nvmeCompletion ok => Sys2Proof.Machine.execNvmeCompletion ok s
  | .recFlushPeriod => Sys2Proof.Machine.execRecFlushPeriod s
  | .driveLost why => Sys2Proof.Machine.execDriveLost why s
  | .recResume => Sys2Proof.Machine.execRecResume s
  | .tallySnapshot => Sys2Proof.Machine.execTallySnapshot s
  | .tagEnable v => Sys2Proof.Machine.execTagEnable v s
  | .powerOnReset => Sys2Proof.Machine.execPowerOnReset s
  | .resetPin => Sys2Proof.Machine.execResetPin s
  | .jtagReset => Sys2Proof.Machine.execJtagReset s
  | .hostLinkDown => Sys2Proof.Machine.execHostLinkDown s
  | .chtResume v => Sys2Proof.Machine.execChtResume v s
  | .supervisorsStarted st => Sys2Proof.Machine.execSupervisorsStarted st s
  | .pllLock p => Sys2Proof.Machine.execPllLock p s
  | .pllLockTimeout p => Sys2Proof.Machine.execPllLockTimeout p s
  | .calLoad => Sys2Proof.Machine.execCalLoad s
  | .bootVerify src readOk => Sys2Proof.Machine.execBootVerify src readOk s
  | .ddrTrained x ok => Sys2Proof.Machine.execDdrTrained x ok s
  | .startScript => Sys2Proof.Machine.execStartScript s
  | .scriptCommand => Sys2Proof.Machine.execScriptCommand s
  | .scriptWait => Sys2Proof.Machine.execScriptWait s
  | .ddrChannelLost x why => Sys2Proof.Machine.execDdrChannelLost x why s
  | .tileLost n => Sys2Proof.Machine.execTileLost n s
  | .guardReadsHolding => Sys2Proof.Machine.execGuardReadsHolding s
  | .vpClockGlitch n => Sys2Proof.Machine.execVpClockGlitch n s
  | .halyardLinkLoss p => Sys2Proof.Machine.execHalyardLinkLoss p s
  | .halyardLinkReturn p => Sys2Proof.Machine.execHalyardLinkReturn p s
  | .hostLinkUp => Sys2Proof.Machine.execHostLinkUp s
  | .laneSignalLoss l => Sys2Proof.Machine.execLaneSignalLoss l s
  | .resetNRise st => Sys2Proof.Machine.execResetNRise st s
  | .domainOnTimeout n => Sys2Proof.Machine.execDomainOnTimeout n s
  | .imagePushTimeout => Sys2Proof.Machine.execImagePushTimeout s
  | .halyardAcknowledgement f => Sys2Proof.Machine.execHalyardAcknowledgement f s
  | .malformedMessage p ty => Sys2Proof.Machine.execMalformedMessage p ty s

end Sys2Proof.Machine
end

