-- ==== Sys2Proof/Safety.lean ====
section
/-! DEFINITION. The terms in which statements speak of a run: a command completes, a state is in order, a run is safe; and what a
command leaves alone. -/

namespace Sys2Proof.Machine

/-- A command of a mailbox slot names one of the 16 slots (R147). -/
def Cmd.slotOk (c : Cmd) : Bool := match c.src with | .slot n => decide (n < 16) | _ => true
/-- Every record of the state is numbered within its table: queues (R142), check units (R362), selectors (R403), voice ports
(R383), hoists with their placements (R166), and the slots of commands that wait. In other states, which no run reaches, registers
of two records coincide. -/
abbrev State.InTables (s : State) : Prop :=
  (∀ e ∈ s.queues, e.num < 32768) ∧ (∀ u ∈ s.ckus, u.num < 256) ∧ (∀ e ∈ s.sels, e.num < 4096) ∧ (∀ p ∈ s.vox.ports, p.num < 16)
    ∧ (∀ h ∈ s.hoists, h.num < 1536 ∧ h.at_ < 1536 ∧ ∀ p ∈ h.pennantAt, p < 1536)
    ∧ ∀ c ∈ s.mbox.queue ++ (s.mbox.busy.map (·.cmd)).toList ++ (s.mbox.aside.map (·.cmd)).toList ++ s.boot.load.toList, c.slotOk = true

/-- Command `c` completes at state `s`, whose records are numbered within their tables (an invariant): `exec` answers a next
state, and `post` holds of it. -/
def Completes (c : Instr) (s : State) (post : State → Prop) : Prop := s.InTables → ∃ t, exec c s = .next t ∧ post t

/-- The pins are at the levels that the pending events and their routes give (R474, R71, R415). -/
def State.PinsSettled (s : State) : Prop := s.pins = s.pinsNow
/-- The byte memories are in canonical form. -/
def State.MemCanonical (s : State) : Prop := Memory.wf s.mem = true

/-- A run is safe for `n` steps: it ends in no fault and no refusal. -/
def RunsSafely (n : Nat) (s : State) : Prop := ∃ t, Sys2Proof.core.run n s = .next t

/-- The register words of other blocks than `blks`, every byte outside host memory and the MSI-X table, and the part of the state
that `own` keeps are as before. -/
def FrameHolds (blks : List Nat) (own : State → State) (s t : State) : Prop :=
  (∀ k, blockOf k ∉ blks → t.word k = s.word k)
    ∧ (∀ sp a, sp ≠ Sp.host → sp ≠ Sp.msix → t.rd sp a = s.rd sp a) ∧ own t = own s
/-- The state without its registers, bytes, event unit, output and pins: what no event touches. -/
def State.beyondEvents (s : State) : State := { s with regs := {}, mem := [], evt := {}, out := [], pins := {} }
/-- Every byte of every memory reads as before. -/
def BytesKept (s t : State) : Prop := ∀ sp a, t.rd sp a = s.rd sp a
/-- An event of source `src` has been raised since `s`: where the source is enabled, its pending bit is 1 (R468). -/
def Signalled (src : Nat) (s t : State) : Prop :=
  s.on (F.EVT_ROUTE_ENABLE src) = true → bitOf (t.get (F.EVT_PEND (src / 32))) (src % 32) = true

/-- Whether a write by the host takes effect at once on a register that R418 journals: the device takes part alone, the host is
not locked out (R449), and no standby takes the journal (R418, R420). -/
abbrev State.HostActs (s : State) : Prop :=
  s.pairSpeaks = true ∧ s.journaling = false ∧ ¬ (s.halState = HalSt.member ∧ s.bit F.HAL_CTRL_LOCAL_LOCK = true)

/-- What a plain write of `v` to register `key` would do (R135, R136). -/
def State.plain (s : State) (key : Nat) (v : Reg) : Judged :=
  match rowOf key with
  | some (row, wi) => judge row key wi 0 (s.word key) v.toNat
  | none => { new := s.word key, act := 0, clr := 0, hChange := false, odd := false }
/-- The state with the word that a plain write would store. -/
def State.stored (s : State) (key : Nat) (v : Reg) : State := s.setWord key (s.plain key v).new
/-- Whether a plain write of the host to register `key` is accepted and acts at once: its journal (R418, R420), its H fields
(R139), its block's own rules (R146). -/
abbrev State.TakesWrite (s : State) (key : Nat) (v : Reg) : Prop :=
  (journaled key = true → s.HostActs) ∧ ((s.plain key v).hChange = true → s.halted key = true)
    ∧ s.refusedWrite (s.stored key v) key (s.plain key v).act = false

/-- A plain write of `v` to register `key` is accepted, and turns the one-bit field `f` of it on or off, in a block that no freeze
holds (R139, R143). -/
abbrev State.Turns (s : State) (key : Nat) (f : Fld) (v : Reg) (on : Bool) : Prop :=
  s.TakesWrite key v ∧ s.heldOf key = none ∧ s.bit f = !on ∧ v.getLsbD f.lo = on
/-- The queue that the queue window shows (R360). -/
def State.shown (s : State) : Nat := s.get F.QUE_SEL_QUEUE

/-- The command that a `SUBMIT` on slot `n` would accept (R147). -/
def State.slotCmd (s : State) (n : Nat) : Cmd :=
  { src := .slot n, seq := s.mbox.next, op := s.get (F.SUP_MBOX_CMD_OPCODE n), argWords := s.get (F.SUP_MBOX_CMD_ARG_WORDS n)
    args := (List.range 12).map fun a => s.get (F.SUP_MBOX_ARG n a), tag := s.get (F.SUP_MBOX_CMD_TAG n) }
/-- The state with the oldest accepted mailbox command taken from the queue. -/
def State.popped (s : State) : State := { s with mbox := { s.mbox with queue := s.mbox.queue.tail } }
/-- Whether the oldest accepted mailbox command is `c`, of opcode `op`, and executes now with its argument words in order and
nothing in the device's state that bars it, takes it to the journal or has it wait (R148, R150, R419, R420, R500). -/
abbrev State.MayRun (s : State) (op need : Nat) (c : Cmd) : Prop :=
  s.mbox.busy = none ∧ s.mbox.queue.head? = some c ∧ c.op = op ∧ need ≤ c.argWords ∧ c.argWords ≤ 12
    ∧ s.popped.cmdBarred c = false ∧ (s.popped.journaling && cmdJournaled op) = false
/-- Slot `n` is close up with a result code, and `SUP_MBOX_DONE` shows the command's number (R147, R149). -/
def ClosedUp (n : Nat) (c : Cmd) (code : Nat) (t : State) : Prop :=
  t.slotState n = 2 ∧ t.get (F.SUP_MBOX_RESULT_CODE n) = code ∧ t.get F.SUP_MBOX_DONE = c.seq % 2 ^ 16
/-- Command `c` is in execution since tick `began`, and waits for its boundary (R148). -/
def InExecution (c : Cmd) (began : Nat) (t : State) : Prop := t.mbox.busy = some { cmd := c, began := began }

/-- Frames of the pair link reach the unit: its port is enabled, carries the pair link, and pair mode is not OFF (R414, R439). -/
abbrev State.OnPairLink (s : State) : Prop :=
  s.on (F.HAL_H_CFG_ENABLE 0) = true ∧ s.on (F.HAL_H_CFG_PAIR 0) = true ∧ s.pairState ≠ PairSt.off
/-- A frame of a type without repeats comes on the pair link with the number expected (R442). -/
abbrev State.NextPair (s : State) (ty : Nat) (n : BitVec 32) : Prop :=
  s.OnPairLink ∧ n.toNat = (seqOf s.hal.rx .pair ty + 1) % 2 ^ 32
/-- One more violation of a class by a partner of a kind has been counted (R462). -/
def Counted (kind cls : Nat) (s t : State) : Prop :=
  t.get (F.HAL_VCNT kind cls) = (s.get (F.HAL_VCNT kind cls) + 1) % 2 ^ (F.HAL_VCNT kind cls).w

/-- A frame's VLAN identifier is the port's (R439). -/
def State.vidOk (s : State) (f : HalFrame) : Bool :=
  match f.vid with
  | none => !s.on (F.HAL_H_CFG_TAGGED f.port.val)
  | some v => s.on (F.HAL_H_CFG_TAGGED f.port.val) && v.toNat = s.cfg (F.HAL_H_CFG_VID f.port.val)
/-- A frame's sender, `from_`, is within its rate; one with an entry is in no quarantine and sends the number expected (R442,
R458, R461). -/
def State.partnerTakes (s : State) (from_ : Option Partner) (f : HalFrame) : Bool :=
  match from_ with
  | some q => !s.quarantined q && decide (f.num = (seqOf s.hal.rx q f.type + 1) % 2 ^ 32)
      && decide ((s.peer q).msgs < s.cfg (F.HAL_VIOL_CFG_RATE q.kind))
  | none => decide (s.hal.strangers.getD f.port.val 0 < s.cfg (F.HAL_VIOL_CFG_RATE 1))
/-- A frame of type `ty` from sender `from_` reaches the hierarchy agent and is acted on (R439 to R442, R451, R458 to R461). -/
abbrev State.HalTakes (s : State) (ty : Nat) (f : HalFrame) (from_ : Option Partner) : Prop :=
  f.type = ty ∧ s.on (F.HAL_H_CFG_ENABLE f.port.val) = true ∧ f.etype.toNat = s.cfg F.HAL_CFG_ETYPE ∧ s.vidOk f = true
    ∧ s.on (F.HAL_H_CFG_PAIR f.port.val) = false ∧ s.role ≠ 0 ∧ s.hierPort = f.port.val ∧ s.pairSpeaks = true
    ∧ (f.dst.toNat = 0 ∨ f.dst.toNat = s.burgee) ∧ f.src.toNat ≠ s.burgee ∧ s.sender f = from_ ∧ s.partnerTakes from_ f = true
/-- A frame comes from its sender's own address, or from one that no entry holds (R460). -/
abbrev State.OwnAddress (s : State) (f : HalFrame) : Prop :=
  ((s.memAt f.srcAddr.toNat).all fun k => s.memBurgee k = f.src.toNat) = true
/-- The newest frame that has left is a halyard frame of type `ty` to burgee `dst` with payload `ws` (R440, R441). -/
def SentFrame (t : State) (ty : Nat) (dst : Word) (ws : List Word) : Prop :=
  ∃ g : HalFrame, t.out.head? = some (.hal g) ∧ g.type = ty ∧ g.dst = dst ∧ g.payload = ws
/-- A reliable frame of type `ty` to partner `p` waits for its answer (R442). -/
def Awaits (t : State) (p : Partner) (ty : Nat) : Prop := ∃ e ∈ t.hal.sent, e.who = p ∧ e.frame.type = ty
/-- Command `c` of opcode `op` is in execution, and waits for no journal (R148, R419). -/
abbrev State.Executing (s : State) (op : Nat) (c : Cmd) : Prop := (s.busyOp op).map (·.cmd) = some c

/-- A 32-bit write of the host to an address of BAR0, all bytes enabled. -/
def hostWord (addr : Nat) (v : Reg) : Access :=
  { addr := BitVec.ofNat 27 addr, bytes := 4, be := 15, write := true, master := 0, value := v.setWidth _ }

/-- Whether the word that a read names is the first of a 64-bit pair (R133). -/
def pairAt (key : Nat) : Bool := match rowOf key with | some (r, w) => r.pair && w = 0 | none => false
/-- An access to a register whose address, length and byte enables a read may have (R131 to R133). -/
def State.readsRegister (s : State) (a : Access) : Bool :=
  match s.target a.addr.toNat with
  | .reg key => (readKind a.addr.toNat a.bytes a.be.toNat (pairAt key)).isNone
  | _ => false

/-- Whether a PLL coasts, and whether it is locked (R76). -/
def State.coasting (s : State) : Pll → Bool
  | .core => s.bit F.CLK_STATUS_CORE_COAST
  | .fabric => s.bit F.CLK_STATUS_FAB_COAST
  | .ddr => s.bit F.CLK_STATUS_DDR_COAST
  | .quad q => bitOf (s.get F.CLK_STATUS_QPLL_COAST) q.val
def State.locked (s : State) : Pll → Bool
  | .core => s.bit F.CLK_STATUS_CORE_LOCK
  | .fabric => s.bit F.CLK_STATUS_FAB_LOCK
  | .ddr => s.bit F.CLK_STATUS_DDR_LOCK
  | .quad q => bitOf (s.get F.CLK_STATUS_QPLL_LOCK) q.val
/-- The source that a clock domain runs from (R77, R78). -/
def State.domSource (s : State) (d : Nat) : Nat := bitsOf (s.get F.CLK_DOMSW_STATUS_SRC) (2 * d) 2
/-- The domain and the source that a write to `CLK_DOMSW_CTRL` names; a value the field's table does not list acts as its reset
value 0 (R13, R77). -/
def domOf (v : Reg) : Nat := if bitsOf v.toNat 0 4 ≤ 10 then bitsOf v.toNat 0 4 else 0
def srcOf (v : Reg) : Nat := if bitsOf v.toNat 4 2 ≤ 2 then bitsOf v.toNat 4 2 else 0
/-- The bit that shows that a PLL of step 5 has no lock (R501, R516). -/
def noLockBit : Pll → Fld
  | .core => F.SUP_BOOT_STATUS_CORE_NOLOCK
  | .fabric => F.SUP_BOOT_STATUS_FAB_NOLOCK
  | _ => F.SUP_BOOT_STATUS_DDR_NOLOCK
/-- State of a power domain (R104). -/
def State.domState (s : State) (n : Nat) : Nat := s.get (F.PWR_DOM_STATUS_STATE n)
/-- Whether a feed is connected, and whether it waits for `RETRY_x` (R95, R96). -/
def State.feedOk (s : State) : Feed → Bool
  | .a => s.bit F.PWR_STATUS_FEED_A_OK
  | .b => s.bit F.PWR_STATUS_FEED_B_OK
def State.feedOpened (s : State) : Feed → Bool
  | .a => s.pwr.ocA
  | .b => s.pwr.ocB
def feedOther : Feed → Feed
  | .a => .b
  | .b => .a
/-- The supervisor that a feed supplies (R101). -/
def feedSup : Feed → Nat
  | .a => 0
  | .b => 1
/-- The start script's next entry ends it (R506): there is none, or it is an END. -/
def State.scriptAtEnd (s : State) : Bool :=
  decide (s.boot.script.length ≤ 16 * s.boot.entry) || leNat ((s.boot.script.drop (16 * s.boot.entry)).take 1) = 0

/-! ## AFI instructions (chapters 6 and 7) -/

/-- Code words that an instruction takes (R211). -/
def wordsOf (a : AfiWord) : Nat := if a.pfx.isSome then 2 else 1
/-- Whether an instruction's place or prefix makes it ILLEGAL (R211, R216). -/
def State.badPair (s : State) (h : Hoist) (a : AfiWord) : Bool :=
  match a.pfx with
  | some p => pfxBad p || h.pc % 2 = 1 || !isFormatI (fOp (AfiBits a))
  | none => s.pairSecond h h.pc
/-- Thread `k`, as `h`, fetches instruction `a` whole from its code segment and may issue it (R195, R211, R216). -/
abbrev State.Fetches (s : State) (k : Nat) (a : AfiWord) (h : Hoist) : Prop :=
  s.issuing k = some h ∧ a.ecc = false ∧ s.inCode h h.pc = true ∧ s.inCode h (h.pc + wordsOf a - 1) = true
/-- Thread `k`, as `h`, issues instruction `a`: its predicate holds, its pair is in order, and its worst case is not reached. -/
abbrev State.Issues (s : State) (k : Nat) (a : AfiWord) (h : Hoist) : Prop :=
  s.Fetches k a h ∧ h.pr (fPred (AfiBits a)) ≠ fNeg (AfiBits a) ∧ s.badPair h a = false ∧ h.issued < h.wc
/-- The state beyond one thread: its record, and what an issue slot's counters and tag records may touch, left out (R489 to
R491). -/
def State.beyondThread (k : Nat) (s : State) : State :=
  { s with regs := {}, mem := [], evt := {}, out := [], pins := {}, free := 0, tally := {}, hoists := s.hoists.filter (·.num ≠ k) }
/-- The thread of hoist `h` is, after one issue of `a`, `f` of its record; nothing beyond it has changed but event and counter
registers, and bytes that tag records and events write. -/
def OnlyThread (h : Hoist) (a : AfiWord) (f : Hoist → Hoist) (s t : State) : Prop :=
  t.hoist h.num = some (f (h.issued1 (wordsOf a))) ∧ t.beyondThread h.num = s.beyondThread h.num
    ∧ (∀ k, blockOf k ≠ 4 → blockOf k ≠ 5 → t.word k = s.word k)
    ∧ (∀ sp a, sp ≠ Sp.host → sp ≠ Sp.msix → sp ≠ Sp.sram → t.rd sp a = s.rd sp a)

/-- A register operand as a word. -/
def Hoist.word (h : Hoist) (i : Nat) : Word := BitVec.ofNat 64 (h.reg i)
/-- The immediate of an I-format instruction as a word: sign- or zero-extended (R225). -/
def immWord (a : AfiWord) (signed : Bool) : Word := BitVec.ofNat 64 (immOf a signed)

/-- One ALU instruction: its command, minor function, immediate opcode and the immediate's sign, and its operation (R230,
R231). -/
structure AluRow where
  cmd : Fin 1536 → AfiWord → Instr
  fn : Nat
  opI : Option Nat
  signed : Bool
  op : Word → Word → Word
/-- The ALU instructions as R230 and R231 list them. -/
def aluTable : List AluRow :=
  [⟨.add, 0, some 1, true, fun a b => a + b⟩, ⟨.sub, 1, some 2, true, fun a b => a - b⟩,
   ⟨.and, 2, some 3, false, fun a b => a &&& b⟩, ⟨.or, 3, some 4, false, fun a b => a ||| b⟩,
   ⟨.xor, 4, some 5, false, fun a b => a ^^^ b⟩, ⟨.min, 5, some 6, false, fun a b => if a.ult b then a else b⟩,
   ⟨.max, 6, some 7, false, fun a b => if a.ult b then b else a⟩,
   ⟨.adds, 7, none, false, fun a b => if a.toNat + b.toNat < 2 ^ 64 then a + b else BitVec.allOnes 64⟩,
   ⟨.minS, 8, none, false, fun a b => if b.slt a then b else a⟩, ⟨.maxS, 9, none, false, fun a b => if a.slt b then b else a⟩,
   ⟨.addsS, 10, none, false, fun a b =>
     if a.toInt + b.toInt < -(2 ^ 63) then BitVec.intMin 64 else if 2 ^ 63 ≤ a.toInt + b.toInt then BitVec.intMax 64 else a + b⟩]

/-- Byte `n` of a thread's scratch window in the order of R248: the first byte of a word is its bits [63:56]. -/
def State.scratchByte (s : State) (h : Hoist) (n : Nat) : Byte := s.rd (Sp.tile h.tile) (scratchBase h + 8 * (n / 8) + (7 - n % 8))
/-- The AFI instructions of the table. -/
def afiRows : List (Fin 1536 → AfiWord → Instr) :=
  [.add, .sub, .and, .or, .xor, .min, .max, .adds, .minS, .maxS, .addsS, .ext, .ins, .rot, .popc, .clz, .get, .peek, .put, .skip,
   .align, .hunt, .matchBits, .cmp, .tst, .br, .call, .ret, .yield, .waitt, .halt, .ldc, .stc, .nextc, .enq, .deq, .qstat, .ptri,
   .bipa, .cmpd, .ilv, .dilv, .ckfReset, .ckfPrefix, .ckfFeed, .ckfSuffix, .ckfRead, .ckfCheck, .raise, .pen, .tickWork,
   .tickRef, .tickLive, .classify]

/-- Thread `k`, as `h`, issues the `CKF` operation of code `op` on unit `n` (R249, R250). -/
abbrev State.Ckf (s : State) (k : Nat) (a : AfiWord) (h : Hoist) (n op : Nat) : Prop :=
  s.Issues k a h ∧ fOp (AfiBits a) = 0x33 ∧ fSpace (AfiBits a) = 0 ∧ bitsOf (AfiBits a) 10 3 = op ∧ bitsOf (AfiBits a) 6 4 = 0
    ∧ s.ckfUnit h.num h.cur = .inl n
/-- A unit's running value after more bytes, by its parameters (R363). -/
def State.crcOver (s : State) (n : Nat) (bytes : List Nat) : Nat :=
  bytes.foldl (fun r b => crcBits (s.ckWidth n) (s.cfg (F.CK_POLY n)) r (byteBits (s.on (F.CK_CFG_REFIN n)) b) % 2 ^ s.ckWidth n)
    (s.ckRun n)

/-- The facts of `CLASS`, by the immediate (R254). -/
def State.factOf (s : State) (h : Hoist) (imm : Nat) : Nat :=
  match imm with
  | 0 => h.cls + h.lat * 2 ^ 8 + b2n h.emerg * 2 ^ 16
  | 1 => b2n (s.pennantAt (h.w + 1)) + 2 * b2n (s.placedAt (h.w + 1) && h.pennantAt.isSome && s.runsInPennant h)
  | _ => h.num + h.hx * 2 ^ 16 + h.members.length * 2 ^ 24

/-- The condition of `CMP` by its code (R237), on words. -/
def condHolds (code : Nat) (a b : Word) : Bool :=
  match code with
  | 0 => a == b
  | 1 => a != b
  | 2 => a.ult b
  | 3 => !a.ult b
  | 4 => a.slt b
  | 5 => !a.slt b
  | 6 => a.ule b
  | _ => b.ult a
/-- What a compare leaves in its predicate, by the combination code (R237). -/
def combined (code : Nat) (old r : Bool) : Bool := match code with | 0 => r | 1 => old && r | _ => old || r

end Sys2Proof.Machine
end

