-- ==== Sys2Proof/Certificates/Slice0/Obligations.lean ====
section
/-! DEFINITION. The statements about the device that provers settle: what a step is, what every command does and leaves alone, by
family of commands, and what every step keeps. -/

open Sys2Proof Sys2Proof.Machine

/-! ## Steps, reset, invariants -/

/-- A step with a command in front of the queue is that command's effect over the rest of the queue. On an empty queue the device
idles: nothing but the count of XIN cycles of the tick moves, and by one at most (the model's choice, log 3). -/
def Obligations.StepRunsFrontCommand : Prop :=
  (∀ (s : State) (c : Instr) (rest : List Instr), s.pending = c :: rest → step s = exec c { s with pending := rest })
  ∧ (∀ s : State, s.pending = [] → ∃ t, step s = .next t
    ∧ ({ t with clk := { t.clk with xin := s.clk.xin } } : State) = s ∧ s.clk.xin ≤ t.clk.xin ∧ t.clk.xin ≤ s.clk.xin + 1
    ∧ (s.ftcState = Ftc.disabled → t = s))

/-- After reset the cause is a power-on reset, the tick generator is off, every other register holds its reset value, nothing is
loaded or waits, the pins are settled, and the byte memories are in canonical form. -/
def Obligations.ResetLeavesDeviceIdle : Prop :=
  State.reset.bit F.SUP_RESET_CAUSE_POR = true ∧ State.reset.ftcState = Ftc.disabled
    ∧ (∀ k, k ≠ R.SUP_RESET_CAUSE → State.reset.word k = resetWord k % 2 ^ 32)
    ∧ State.reset.hoists = [] ∧ State.reset.queues = [] ∧ State.reset.pending = [] ∧ State.reset.linkUp = false
    ∧ State.reset.PinsSettled ∧ State.reset.MemCanonical

/-- From every state, with or without settled pins, a step on a waiting command settles the pins; a step on an empty queue keeps
them settled. -/
def Obligations.EveryStepKeepsPinsSettled : Prop :=
  ∀ s t : State, step s = .next t → (s.PinsSettled ∨ s.pending ≠ []) → t.PinsSettled

/-- Every step keeps the records of the state numbered within their tables; they are so after reset. -/
def Obligations.EveryStepKeepsTheTables : Prop :=
  State.reset.InTables ∧ ∀ s t : State, step s = .next t → s.InTables → t.InTables

/-- From every state, a run of `n` steps ends in a next state: it takes the first `n` commands of the queue, in order, and keeps
the pins settled. -/
def Obligations.RunsConsumeQueueInOrder : Prop :=
  ∀ (n : Nat) (s : State), ∃ t : State, Sys2Proof.core.run n s = .next t
    ∧ t.pending = s.pending.drop n ∧ (s.PinsSettled → t.PinsSettled)

/-! ## The tick generator and its references (chapter 2) -/

/-- `FTC_SNAP` latches the time; `FTC_ENABLE` starts the count at `CLK_FTC_SET`; a tick boundary advances it by one. -/
def Obligations.TickGeneratorCounts : Prop :=
  (∀ (s : State) (v : Reg), v.getLsbD 0 = true →
    Completes (.ftcSnap v) s fun t => t.get F.CLK_FTC_SNAPV = s.ts64 ∧ t.clk = s.clk)
  ∧ (∀ (s : State) (v : Reg), s.HostActs → s.ftcState = Ftc.disabled → s.bit F.CLK_FTC_CTRL_ENABLE = false → v.getLsbD 0 = true →
    Completes (.ftcEnable v) s fun t =>
      t.clk.tick = s.cfg F.CLK_FTC_SET ∧ t.clk.xin = 0 ∧ t.bit F.CLK_FTC_CTRL_ENABLE = true ∧ t.ftcState ≠ Ftc.disabled)
  ∧ (∀ (s : State) (m : Meas), s.ftcState ≠ Ftc.disabled → s.boot.resetAt = none →
    Completes (.tickBoundary m) s fun t => t.clk.tick = s.clk.tick + 1)
  ∧ (∀ (s : State) (m : Meas), s.ftcState = Ftc.disabled → Completes (.tickBoundary m) s fun t => t.clk = s.clk ∧ t.regs = s.regs)
  ∧ (∀ s : State, s.superTick = true → Completes .superTickBoundary s fun t =>
      t.clk.tick = s.clk.tick ∧ t.pwr.keepers = s.cfg F.PWR_KEEPER_SET)

/-- The loss of a reference, its switch, its qualification, the end of the wait to restore, and lock. -/
def Obligations.ReferencesFollowTheirRules : Prop :=
  (∀ (s : State) (sl : RefSlot), s.refKind sl ≠ 0 → (s.refKind sl = 1 → 8 ≤ s.refMiss sl) →
    Completes (.referenceLoss sl) s fun t =>
      t.bit (match sl with | .pri => F.CLK_STICKY_PRI_LOST | .alt => F.CLK_STICKY_ALT_LOST) = true
        ∧ t.refQual sl = false ∧ t.refTicks sl = 0
        ∧ t.clk.lossAt = (if s.activeRef = some sl then some s.tick else s.clk.lossAt))
  ∧ (∀ (s : State) (sl : RefSlot) (a : Nat), s.clk.lossAt = some a → a < s.tick → s.activeRef = some sl →
      (s.ftcState = Ftc.locked ∨ s.ftcState = Ftc.acquire) →
    Completes .referenceSwitch s fun t =>
      (s.refQual (refOther sl) = true → t.activeRef = some (refOther sl) ∧ t.ftcState = Ftc.acquire)
        ∧ (s.refQual (refOther sl) = false → t.activeRef = none ∧ t.ftcState = Ftc.holdover
            ∧ t.bit F.CLK_STICKY_HOLDOVER_SEEN = true))
  ∧ (∀ (s : State) (sl : RefSlot), s.refPresent (s.refKind sl) = true → s.refQual sl = false →
      s.cfg F.CLK_FTC_CTRL_QUAL * 1024 ≤ s.refTicks sl →
    Completes (.referenceQualify sl) s fun t => t.refQual sl = true
      ∧ (s.ftcState = Ftc.freerun ∨ s.ftcState = Ftc.holdover → t.activeRef = some sl ∧ t.ftcState = Ftc.acquire))
  ∧ (∀ s : State, s.activeRef = some .alt → s.clk.priQual = true → s.on F.CLK_FTC_CTRL_REVERT = true →
      s.cfg F.CLK_FTC_CTRL_WTR * 1024 ≤ s.clk.wtrTicks →
    Completes .revertWaitExpiry s fun t => t.activeRef = some .pri ∧ t.ftcState = Ftc.acquire
      ∧ t.bit F.CLK_STICKY_REF_SWITCHED = true)
  ∧ (∀ s : State, s.ftcState = Ftc.acquire → 64 ≤ s.clk.lockTicks →
    Completes .acquireLock s fun t => t.ftcState = Ftc.locked ∧ t.activeRef = s.activeRef)

/-! ## Oscillators and PLLs (chapter 2) -/

/-- ITO qualification, the windows of XIN, its time-out, the crystal monitor and its retry. -/
def Obligations.OscillatorsQualifyAndFail : Prop :=
  (∀ s : State, s.bit F.CLK_STATUS_ITO_OK = false → s.clk.oscOn = true → s.boot.supDone = true → s.boot.held = false →
    Completes .itoQualify s fun t =>
      t.bit F.CLK_STATUS_ITO_OK = true ∧ t.bit F.CLK_STATUS_CAL_TRIM_DEFAULT = !s.calGood ∧ t.clk.windows = 0)
  ∧ (∀ (s : State) (count : Nat), s.bit F.CLK_STATUS_ITO_OK = true → s.clk.oscOn = true → s.bit F.CLK_STATUS_XIN_OK = false →
    Completes (.xinWindow count) s fun t =>
      t.get F.CLK_XIN_MEAS_COUNT = Nat.min count 65535
        ∧ t.bit F.CLK_STATUS_XIN_OK = (s.xinInBand count && s.xinSpanOk ((count :: s.clk.counts).take 8)))
  ∧ (∀ (s : State) (count : Nat), s.bit F.CLK_STATUS_ITO_OK = true → s.clk.oscOn = true → s.bit F.CLK_STATUS_XIN_OK = true →
      s.xinInBand count = false → 1 ≤ s.clk.badCounts →
    Completes (.xinWindow count) s fun t =>
      t.bit F.CLK_STATUS_XIN_OK = false ∧ t.bit F.CLK_STICKY_XIN_LOST = true ∧ Signalled 16 s t
        ∧ (s.ftcState ≠ Ftc.disabled → t.ftcState = Ftc.itoHoldover))
  ∧ (∀ s : State, s.bit F.CLK_STATUS_XIN_OK = false → s.bit F.CLK_STATUS_ITO_OK = true → 64 ≤ s.clk.windows →
    Completes .xinQualifyTimeout s fun t => t.bit F.CLK_STATUS_CLKFAIL = true ∧ t.pins.clkfail = true)
  ∧ (∀ (s : State) (why : XtalTrip), s.boot.supDone = true → s.bit F.CLK_STATUS_ITO_OK = false →
    Completes (.crystalMonitorTrip why) s fun t =>
      t.bit F.CLK_STATUS_CLKFAIL = true ∧ t.clk.oscOn = false ∧ t.clk.trips = s.clk.trips + 1)
  ∧ (∀ (s : State) (why : XtalTrip), s.boot.supDone = true → s.bit F.CLK_STATUS_ITO_OK = true → s.bit F.CLK_STATUS_XIN_OK = true →
    Completes (.crystalMonitorTrip why) s fun t => t.bit F.CLK_STATUS_XIN_OK = false ∧ t.bit F.CLK_STICKY_XIN_LOST = true)
  ∧ (∀ s : State, s.clk.oscOn = false →
    Completes .clockRetry s fun t => t.clk.oscOn = true ∧ t.clk.windows = 0 ∧ t.clk.counts = [] ∧ t.regs = s.regs)

/-- A PLL coasts, is restored, locks, or times out in step 5; a DDR channel is lost. -/
def Obligations.PllsCoastLockAndReturn : Prop :=
  (∀ (s : State) (p : Pll), s.coasting p = false →
    Completes (.pllCoast p) s fun t => t.coasting p = true ∧ t.locked p = false ∧ Signalled 16 s t)
  ∧ (∀ (s : State) (p : Pll), s.pllInputOk p = true → 1024 ≤ s.clk.pllHeld.getD (pllIdx p) 0 →
    Completes (.pllRestore p) s fun t => t.coasting p = false)
  ∧ (∀ (s : State) (p : Pll), s.pllInputOk p = true → (∀ q, p = .quad q → s.domWorks (144 + q.val) = true) →
    Completes (.pllLock p) s fun t => t.locked p = true ∧ (pllIdx p < 3 → pllIdx p ∈ t.boot.pllDone))
  ∧ (∀ (s : State) (p : Pll), s.bit F.CLK_STATUS_XIN_OK = true → pllIdx p < 3 → pllIdx p ∉ s.boot.pllDone →
    Completes (.pllLockTimeout p) s fun t => pllIdx p ∈ t.boot.pllDone
      ∧ t.bit (noLockBit p) = true)
  ∧ (∀ (s : State) (x : Fin 2) (why : DdrLoss), why ≠ .coast → s.bit (ddrLostBit x.val) = false →
    Completes (.ddrChannelLost x why) s fun t => t.bit (ddrLostBit x.val) = true ∧ Signalled 900 s t
      ∧ (s.cfg F.CHT_CFG_WHERE = x.val → t.bit F.SUP_FAULT_STATUS_CHT_FROZEN = true))
  ∧ (∀ (s : State) (x : Fin 2), s.bit F.CLK_STATUS_DDR_COAST = true →
    Completes (.ddrChannelLost x .coast) s fun t => t.bit (ddrLostBit 0) = true ∧ t.bit (ddrLostBit 1) = true)

/-- Clock domains switch on request, are forced and resume; the frequency meters start and end. -/
def Obligations.ClockDomainsAndMeters : Prop :=
  (∀ (s : State) (v : Reg), v.getLsbD 8 = true →
      s.domReject (domOf v) (srcOf v) = false →
    Completes (.domainSwitchRequest v) s fun t =>
      (domOf v, srcOf v) ∈ t.clk.switching ∧ t.bit F.CLK_DOMSW_STATUS_BUSY = true)
  ∧ (∀ (s : State) (v : Reg), v.getLsbD 8 = true →
      s.domReject (domOf v) (srcOf v) = true →
    Completes (.domainSwitchRequest v) s fun t =>
      t.clk = s.clk ∧ t.bit F.CLK_DOMSW_STATUS_REJECTED = true ∧ Signalled 961 s t)
  ∧ (∀ (s : State) (d : Fin 11) (p : Nat × Nat), s.clk.switching.find? (·.1 = d.val) = some p → p.2 < 4 →
    Completes (.domainSwitchDone d) s fun t => t.domSource d.val = p.2 ∧ (∀ x ∈ t.clk.switching, x.1 ≠ d.val)
      ∧ (∀ d' < 11, d' ≠ d.val → t.domSource d' = s.domSource d'))
  ∧ (∀ (s : State) (d : Fin 11) (p : Nat × Nat), s.clk.switching.find? (·.1 = d.val) = some p → p.2 < 4 →
    Completes (.domainSwitchForce d) s fun t => t.domSource d.val = p.2 ∧ d.val ∈ t.clk.forced
      ∧ t.bit F.CLK_DOMSW_STATUS_FORCED = true ∧ t.bit F.CLK_STICKY_SW_FORCED = true ∧ Signalled 16 s t)
  ∧ (∀ (s : State) (d : Fin 11), d.val ∈ s.clk.forced →
    Completes (.forcedDomainResume d) s fun t => t.clk.forced = s.clk.forced.filter (· ≠ d.val) ∧ t.regs = s.regs)
  ∧ (∀ (s : State) (n : Fin 32) (v : Reg), s.bit (F.CLK_FM_CTRL_VOX_OWNED n.val) = false → v.getLsbD 16 = true →
    Completes (.fmStart n v) s fun t => n.val ∈ t.clk.metering ∧ t.get (F.CLK_FM_CTRL_CLK_SEL n.val) = bitsOf v.toNat 0 8)
  ∧ (∀ (s : State) (n : Fin 32) (count : Nat), n.val ∈ s.clk.metering →
    Completes (.fmGateClose n count) s fun t =>
      t.get (F.CLK_FM_RESULT_COUNT n.val) = Nat.min count (2 ^ 32 - 1) ∧ t.bit (F.CLK_FM_RESULT_VALID n.val) = true
        ∧ t.bit (F.CLK_FM_RESULT_TIMEOUT n.val) = false
        ∧ t.get (F.CLK_FM_RESULT_SEQ n.val) = (s.get (F.CLK_FM_RESULT_SEQ n.val) + 1) % 2 ^ 16
        ∧ (n.val ∈ t.clk.metering ↔ s.on (F.CLK_FM_CTRL_CONT n.val) = true))
  ∧ (∀ (s : State) (n : Fin 32) (count : Nat), n.val ∈ s.clk.metering →
    Completes (.fmTimeout n count) s fun t =>
      t.bit (F.CLK_FM_RESULT_TIMEOUT n.val) = true ∧ t.bit (F.CLK_FM_RESULT_VALID n.val) = true ∧ n.val ∉ t.clk.metering)

/-! ## Power (chapter 3) -/

/-- Feeds are lost, restored and retried; the supervisors reload, and differ as R102's table says. -/
def Obligations.FeedsAndSupervisors : Prop :=
  (∀ (s : State) (f : Feed) (why : FeedTrip), s.feedOk f = true → s.feedOk (feedOther f) = true → s.boot.supDone = true →
      (s.get F.PWR_STATUS_SUP_ACTIVE ≠ feedSup f ∨ s.bit F.PWR_STATUS_SUP_DUAL = true) →
    Completes (.feedLost f why) s fun t => t.feedOk f = false ∧ t.feedOk (feedOther f) = true
      ∧ t.bit F.PWR_STATUS_SINGLE_FEED = true ∧ t.bit F.PWR_STATUS_SUP_DUAL = false ∧ t.pwr.tbStop = true ∧ Signalled 0 s t
      ∧ t.get F.PWR_STATUS_SUP_ACTIVE ≠ feedSup f)
  ∧ (∀ (s : State) (f : Feed) (why : FeedTrip), s.feedOk f = true → s.feedOk (feedOther f) = true → s.boot.supDone = true →
      s.get F.PWR_STATUS_SUP_ACTIVE = feedSup f → s.bit F.PWR_STATUS_SUP_DUAL = false →
    Completes (.feedLost f why) s fun t => t.bit F.SUP_RESET_CAUSE_SUPERVISOR = true ∧ t.boot.supDone = false
      ∧ t.hoists = [] ∧ t.feedOk f = false ∧ t.feedOk (feedOther f) = true)
  ∧ (∀ (s : State) (f : Feed), s.feedOk f = false → s.feedOpened f = false →
    Completes (.feedRestored f) s fun t => t.feedOk f = true
      ∧ (s.boot.supDone = true → t.pwr.restoredAt = some s.tick ∧ Signalled 0 s t))
  ∧ (∀ (s : State) (v : Reg), Completes (.feedRetry v) s fun t =>
      t.pwr.ocA = (s.pwr.ocA && !v.getLsbD 0) ∧ t.pwr.ocB = (s.pwr.ocB && !v.getLsbD 1))
  ∧ (∀ s : State, s.pwr.supReload = true → s.pwr.supHeld = false → (s.superTick = true ∨ s.ftcState = Ftc.disabled) →
    Completes .supervisorReload s fun t => t.bit F.PWR_STATUS_SUP_DUAL = true ∧ t.pwr.supReload = false)
  ∧ (∀ (s : State) (a b : Bool), s.feedOk .a = true → s.feedOk .b = true → s.bit F.PWR_STATUS_SUP_DUAL = true →
    Completes (.supervisorMismatch a b) s fun t => t.bit F.PWR_STICKY_SUP_MISMATCH = true ∧ Signalled 1 s t
      ∧ ((a || b) = true → t.bit F.PWR_STATUS_SUP_DUAL = false)
      ∧ (a = true → t.get F.PWR_STATUS_SUP_ACTIVE = s.get F.PWR_STATUS_SUP_ACTIVE)
      ∧ (a = false → b = true → t.get F.PWR_STATUS_SUP_ACTIVE = 1 - s.get F.PWR_STATUS_SUP_ACTIVE)
      ∧ (a = true → b = true → t.pwr.supReload = true) ∧ (a ≠ b → t.pwr.supHeld = true)
      ∧ (a = false → b = false → t.bit F.PWR_PENNANT_STATUS_SUP_PARITY = true
          ∧ bitOf (t.get F.PWR_PENNANT_STATUS_CAUSE) Cause.parity = true))

/-- Power domains switch on and off; the keeper set; aging. -/
def Obligations.PowerDomainsSwitch : Prop :=
  (∀ (s : State) (n : Fin 162) (v : Reg), s.TakesWrite (R.PWR_DOM_CTRL n.val) v → s.heldOf (R.PWR_DOM_CTRL n.val) = none →
      v.getLsbD 0 = true → s.domState n.val = Dom.off → s.bit (F.PWR_DOM_STATUS_PENNANT_GATED n.val) = false →
      (n.val < 96 → s.engRetired n.val = false) →
      (96 ≤ n.val → n.val < 112 → bitOf (s.get F.SUP_FAULT_STATUS_TILE_LOST) (n.val % 8) = false) →
    Completes (.pwrDomOn n v) s fun t => t.domState n.val = Dom.powering ∧ t.bit (F.PWR_DOM_CTRL_ON n.val) = true
      ∧ (∀ m < 162, m ≠ n.val → t.domState m = s.domState m))
  ∧ (∀ (s : State) (n : Fin 162) (v : Reg), s.TakesWrite (R.PWR_DOM_CTRL n.val) v → s.heldOf (R.PWR_DOM_CTRL n.val) = none →
      v.getLsbD 0 = false → s.domState n.val = Dom.on →
    Completes (.pwrDomOff n v) s fun t =>
      ((s.stored (R.PWR_DOM_CTRL n.val) v).showKeep.domStays n.val = false → t.domState n.val = Dom.draining)
        ∧ ((s.stored (R.PWR_DOM_CTRL n.val) v).showKeep.domStays n.val = true →
            t.domState n.val = Dom.on ∧ t.bit (F.PWR_DOM_STATUS_REJECTED n.val) = true))
  ∧ (∀ (s : State) (n : Fin 162), s.domState n.val = Dom.powering →
    Completes (.domainPowered n) s fun t => t.domState n.val = Dom.on ∧ t.bit (F.PWR_DOM_STATUS_PENNANT_GATED n.val) = false
      ∧ n.val ∉ t.boot.powerMap)
  ∧ (∀ (s : State) (n : Fin 162), n.val ∈ s.boot.powerMap → s.domState n.val = Dom.powering →
    Completes (.domainOnTimeout n) s fun t => t.domState n.val = Dom.off ∧ t.bit F.SUP_BOOT_STATUS_DOM_FAIL = true
      ∧ n.val ∉ t.boot.powerMap)
  ∧ (∀ (s : State) (v : Reg), s.TakesWrite R.PWR_KEEPER_SET v →
    Completes (.keeperSetWrite v) s fun t => t.get F.PWR_KEEPER_SET = v.toNat % 256 ∧ t.pwr.keepers = s.pwr.keepers)
  ∧ (∀ (s : State) (slow : List (BitVec 20)), Completes (.agingMeasure slow) s fun t =>
      (∀ i < 8, t.get (F.PWR_AGE i) = (slow.getD i 0).toNat)
        ∧ ((∃ i < 8, s.cfg F.PWR_AGE_WARN < (slow.getD i 0).toNat) → t.bit F.PWR_STICKY_AGING_WARN = true ∧ Signalled 4 s t))

/-- The retirement of an engine, and the calibration page. -/
def Obligations.RetirementAndCalibration : Prop :=
  (∀ (s : State) (v : Reg), s.HostActs → v.getLsbD 8 = true →
    Completes (.engineRetire v) s fun t => t.pwr.retire = some (if v.toNat % 128 < 96 then v.toNat % 128 else 0, s.tick))
  ∧ (∀ (s : State) (e a : Nat) (moves : List (Hoist × Nat)), e < 96 → s.pwr.retire = some (e, a) → s.superTick = true →
      a + 2 ≤ s.tick → ¬ (e % 12 = 0 ∧ bitOf s.pwr.keepers (e / 12) = true) →
      ({ s with pwr := { s.pwr with retire := none } } : State).retirePlan s.hoists
        ((s.hoists.filter (·.num / 16 = e)).foldr insertByNum []) = some moves →
    Completes .retireAct s fun t => t.pwr.retire = none ∧ t.engRetired e = true ∧ t.domState e = Dom.off
      ∧ t.bit F.PWR_STICKY_RETIRE_DONE = true)
  ∧ (∀ (s : State) (e a : Nat), s.pwr.retire = some (e, a) → s.superTick = true → a + 2 ≤ s.tick →
      e % 12 = 0 → bitOf s.pwr.keepers (e / 12) = true →
    Completes .retireAct s fun t => t.pwr.retire = none ∧ t.bit F.PWR_STICKY_RETIRE_REJECTED = true ∧ t.hoists = s.hoists)
  ∧ (∀ (s : State) (v : Reg), v.getLsbD 16 = false → Completes (.calProgram v) s fun t =>
      t.pwr.keyArmed = decide (v.toNat % 2 ^ 16 = 0x5AFE) ∧ t.bit F.CAL_STATUS_BUSY = s.bit F.CAL_STATUS_BUSY)
  ∧ (∀ (s : State) (v : Reg), v.getLsbD 16 = true → s.pwr.keyArmed = true → s.get F.CAL_WRITES < 1000 →
      s.bit F.CAL_STATUS_BUSY = false → pageCrcGood s.calStaged = true →
    Completes (.calProgram v) s fun t => t.bit F.CAL_STATUS_BUSY = true ∧ t.pwr.keyArmed = false)
  ∧ (∀ (s : State) (v : Reg), v.getLsbD 16 = true →
      (s.pwr.keyArmed = false ∨ 1000 ≤ s.get F.CAL_WRITES ∨ s.bit F.CAL_STATUS_BUSY = true ∨ pageCrcGood s.calStaged = false) →
    Completes (.calProgram v) s fun t => t.get F.CAL_STATUS_RESULT = 2 ∧ t.bit F.CAL_STATUS_BUSY = s.bit F.CAL_STATUS_BUSY)
  ∧ (∀ (s : State) (ok : Bool), s.bit F.CAL_STATUS_BUSY = true →
    Completes (.calProgramDone ok) s fun t => t.bit F.CAL_STATUS_BUSY = false
      ∧ t.get F.CAL_WRITES = (s.get F.CAL_WRITES + 1) % 2 ^ F.CAL_WRITES.w
      ∧ t.get F.CAL_STATUS_RESULT = (if ok then 1 else 3) ∧ (ok = true → t.rdBytes Sp.mtp 0 4096 = s.calStaged))

/-- Pennant Mode: its causes, its entry, the move of the placements, its exit. -/
def Obligations.PennantModeEntersAndLeaves : Prop :=
  (∀ s : State, 4 ≤ s.pwr.shortRuns → Completes .creditShortExpiry s fun t =>
      bitOf (t.get F.PWR_PENNANT_STATUS_CAUSE) Cause.credit = true ∧ bitOf (t.get F.PWR_PENNANT_STATUS_ACTIVE_CAUSES) Cause.credit = true
        ∧ (s.bit F.PWR_STATUS_PENNANT = false → t.bit F.PWR_STATUS_PENNANT_PENDING = true)
        ∧ (s.bit F.PWR_STATUS_PENNANT = false → s.bit F.PWR_STATUS_PENNANT_PENDING = false →
            t.pwr.spells.head? = some { entry := s.tick + 1 } ∧ Signalled 3 s t))
  ∧ (∀ s : State, 64 ≤ s.pwr.notShort → Completes .creditCauseClear s fun t =>
      t.get F.PWR_PENNANT_STATUS_ACTIVE_CAUSES = putBits (s.get F.PWR_PENNANT_STATUS_ACTIVE_CAUSES) Cause.credit 1 0)
  ∧ (∀ (s : State) (v : Reg), s.HostActs → v.getLsbD 0 = true → Completes (.pennantEnterCmd v) s fun t =>
      bitOf (t.get F.PWR_PENNANT_STATUS_CAUSE) Cause.command = true
        ∧ (t.bit F.PWR_STATUS_PENNANT || t.bit F.PWR_STATUS_PENNANT_PENDING) = true)
  ∧ (∀ (s : State) (v : Reg), s.HostActs → v.getLsbD 0 = false → v.getLsbD 1 = true →
      (s.bit F.PWR_STATUS_PENNANT || s.bit F.PWR_STATUS_PENNANT_PENDING) = true → s.pwr.exitAccepted = false →
    Completes (.pennantExit v) s fun t =>
      (s.get F.PWR_PENNANT_STATUS_ACTIVE_CAUSES = 0 → t.pwr.exitAccepted = true
        ∧ ∀ n < 162, s.bit (F.PWR_DOM_STATUS_PENNANT_GATED n) = true → t.domState n = Dom.powering)
      ∧ (s.get F.PWR_PENNANT_STATUS_ACTIVE_CAUSES ≠ 0 → t.pwr.exitAccepted = false
        ∧ t.bit F.PWR_PENNANT_STATUS_EXIT_REJECTED = true))
  ∧ (∀ (s : State) (p : Spell), s.spell = some p → s.bit F.PWR_STATUS_PENNANT = false → p.entry ≤ s.tick →
    Completes .pennantModeStart s fun t => t.bit F.PWR_STATUS_PENNANT = true
      ∧ ∀ h ∈ t.hoists, s.runsInPennant h = false → h.suspended = true ∧ h.ready = false)
  ∧ (∀ (s : State) (p : Spell), s.spell = some p → s.bit F.PWR_STATUS_PENNANT = true → s.bit F.PWR_STATUS_PENNANT_PENDING = true →
      s.superTick = true → p.entry ≤ s.tick → s.pwr.exitAccepted = false →
    Completes .pennantPlacementMove s fun t => t.bit F.PWR_STATUS_PENNANT_PENDING = false ∧ t.bit F.PWR_STATUS_PENNANT = true
      ∧ t.pwr.spells.head? = some { p with moved := some s.tick }
      ∧ ∀ h ∈ t.hoists, s.runsInPennant h = true → h.at_ = h.pennantAt.getD h.num)
  ∧ (∀ (s : State) (p : Spell), s.spell = some p → s.pwr.exitAccepted = true → s.superTick = true → p.entry ≤ s.tick →
      (∀ n < 162, s.bit (F.PWR_DOM_STATUS_PENNANT_GATED n) = false) →
    Completes .pennantExitComplete s fun t => t.bit F.PWR_STATUS_PENNANT = false ∧ t.bit F.PWR_STATUS_PENNANT_PENDING = false
      ∧ t.get F.PWR_PENNANT_STATUS_CAUSE = 0 ∧ t.pwr.exitAccepted = false ∧ Signalled 3 s t
      ∧ ∀ h ∈ t.hoists, h.at_ = h.num ∧ h.suspended = false)

/-! ## Resets and start-up (chapter 17) -/

/-- The resets: what they leave of the registers and the memories, and the causes. -/
def Obligations.ResetsClearTheDevice : Prop :=
  (∀ s : State, Completes .powerOnReset s fun t => t.bit F.SUP_RESET_CAUSE_POR = true ∧ t.hoists = [] ∧ t.queues = []
      ∧ t.clk.tick = 0 ∧ t.boot.supDone = false ∧ t.mbox = {}
      ∧ (∀ k, k ≠ R.SUP_BURGEE → k ≠ R.SUP_BURGEE + 4 → k ≠ R.SUP_KEY_STATUS → k ≠ R.CAL_WRITES → k ≠ R.SUP_RESET_CAUSE →
          t.word k = resetWord k % 2 ^ 32)
      ∧ t.get F.SUP_BURGEE = s.get F.SUP_BURGEE
      ∧ (∀ sp a, spaceKept sp = false → t.rd sp a = unlisted)
      ∧ (s.bit F.CAL_STATUS_BUSY = false → ∀ sp a, spaceKept sp = true → t.rd sp a = s.rd sp a))
  ∧ (∀ s : State, Completes .resetPin s fun t => t.bit F.SUP_RESET_CAUSE_PIN = true ∧ t.boot.held = true
      ∧ t.bit F.SUP_RESET_CAUSE_POR = s.bit F.SUP_RESET_CAUSE_POR ∧ t.hoists = [] ∧ t.clk.tick = 0)
  ∧ (∀ s : State, Completes .jtagReset s fun t => t.bit F.SUP_RESET_CAUSE_DEBUG = true
      ∧ t.bit F.SUP_RESET_CAUSE_POR = s.bit F.SUP_RESET_CAUSE_POR ∧ t.hoists = [] ∧ t.clk.tick = 0)
  ∧ (∀ (s : State) (st : Straps), s.boot.held = true →
    Completes (.resetNRise st) s fun t => t.boot.held = false ∧ t.get F.SUP_BOOT_STATUS_BOOT_MODE = st.bootMode.toNat
      ∧ t.clk.xinSel = st.xinSel.toNat ∧ t.bit F.PRT_PAIR_STATUS_PREF = st.pairPref)
  ∧ (∀ (s : State) (st : Straps), s.boot.supDone = false → (s.feedOk .a || s.feedOk .b) = true → s.boot.held = false →
    Completes (.supervisorsStarted st) s fun t => t.boot.supDone = true
      ∧ (∀ n ∈ [112, 113, 150], t.domState n = Dom.on)
      ∧ t.bit F.PWR_STATUS_SINGLE_FEED = (!(s.feedOk .a && s.feedOk .b)) ∧ t.bit F.PWR_STATUS_SUP_DUAL = (s.feedOk .a && s.feedOk .b)
      ∧ t.get F.PWR_STATUS_SUP_ACTIVE = (if s.feedOk .a then 0 else 1))

/-- Steps 6 to 8 of start-up: calibration, the boot image, training, the start script. -/
def Obligations.StartUpRunsItsSteps : Prop :=
  (∀ s : State, s.stepHolds 5 = true → s.boot.supDone = true → s.boot.calDone = false →
    Completes .calLoad s fun t => t.boot.calDone = true
      ∧ (s.calGood = false → t.bit F.CAL_STATUS_CAL_INVALID = true ∧ Signalled 4 s t)
      ∧ (s.calGood = true → t.get (F.PWR_RETIRED 0) = s.rdLE Sp.mtp 0x184 4))
  ∧ (∀ (s : State) (b : BootImage), s.boot.calDone = true → s.boot.image = false → s.get F.SUP_BOOT_STATUS_BOOT_MODE ≠ 1 →
      s.boot.failed = [] → s.bootJudge Sp.norA 0 0x1000000 = (0, b) →
    Completes (.bootVerify .norA true) s fun t => t.boot.image = true ∧ t.get F.SUP_BOOT_STATUS_SRC_USED = 1
      ∧ t.boot.imageKey = s.rdBytes Sp.norA 0x40 97)
  ∧ (∀ s : State, s.boot.calDone = true → s.boot.image = false → s.get F.SUP_BOOT_STATUS_BOOT_MODE ≠ 1 → s.boot.failed = [] →
    Completes (.bootVerify .norA false) s fun t => t.get F.SUP_BOOT_STATUS_FAIL_A = 5 ∧ t.boot.failed = [.norA]
      ∧ t.boot.image = false)
  ∧ (∀ s : State, s.boot.calDone = true → s.boot.image = false → s.get F.SUP_BOOT_STATUS_BOOT_MODE ≠ 1 → s.boot.failed = [.norA] →
    Completes (.bootVerify .norB false) s fun t => t.get F.SUP_BOOT_STATUS_FAIL_B = 5
      ∧ t.get F.SUP_BOOT_STATUS_STEP = (if s.get F.SUP_BOOT_STATUS_BOOT_MODE = 2 then 15 else 14))
  ∧ (∀ (s : State) (x : Fin 2) (ok : Bool), x.val ∈ s.boot.ddrUse →
    Completes (.ddrTrained x ok) s fun t => x.val ∉ t.boot.ddrUse ∧ (ok = true → x.val ∈ t.boot.trained)
      ∧ (ok = false → t.bit (ddrLostBit x.val) = true))
  ∧ (∀ s : State, s.boot.image = true → s.boot.powerMap = [] → s.boot.ran = false → s.boot.running = false →
      ({ s with boot := { s.boot with entry := 0 } } : State).scriptAtEnd = true →
    Completes .startScript s fun t => t.boot.ran = true ∧ t.boot.running = false)
  ∧ (∀ (s : State) (n : Nat), s.boot.image = true → s.boot.powerMap = [] → s.boot.ran = false → s.boot.running = false →
      16 ≤ s.boot.script.length → s.boot.script.take 8 = [4, 0, 0, 0] ++ leBytes 4 n → 0 < n → n < 2 ^ 32 →
      s.ftcState ≠ Ftc.disabled →
    Completes .startScript s fun t => t.boot.running = true ∧ t.boot.wait = some n ∧ t.boot.entry = 1)
  ∧ (∀ (s : State) (code : Nat), s.boot.running = true → s.boot.cmd = true → s.boot.result = some code → code ≠ 0 →
    Completes .scriptCommand s fun t => t.bit F.SUP_BOOT_STATUS_SCRIPT_FAIL = true
      ∧ t.get F.SUP_BOOT_STATUS_SCRIPT_INDEX = Nat.min (s.boot.entry - 1) 255 ∧ t.boot.running = false)
  ∧ (∀ s : State, s.boot.running = true → s.boot.cmd = true → s.boot.result = some 0 → s.scriptAtEnd = true →
    Completes .scriptCommand s fun t => t.boot.ran = true ∧ t.boot.running = false ∧ t.boot.cmd = false)
  ∧ (∀ s : State, s.boot.running = true → s.boot.wait = some 0 → s.scriptAtEnd = true →
    Completes .scriptWait s fun t => t.boot.ran = true ∧ t.boot.running = false ∧ t.boot.wait = none)

/-- Failures that a part of the device survives: a tile, the host link, a frozen channel table. -/
def Obligations.FailuresStayContained : Prop :=
  (∀ (s : State) (n : Fin 8), (s.domWorks (96 + n.val) || s.domWorks (104 + n.val)) = true →
    Completes (.tileLost n) s fun t => bitOf (t.get F.SUP_FAULT_STATUS_TILE_LOST) n.val = true
      ∧ t.domState (96 + n.val) = Dom.off ∧ t.domState (104 + n.val) = Dom.off
      ∧ (∀ h ∈ t.hoists, h.at_ / 192 = n.val → h.ready = false) ∧ t.hoists.length = s.hoists.length)
  ∧ (∀ s : State, s.linkUp = true → Completes .hostLinkDown s fun t => t.linkUp = false
      ∧ (s.cfg F.CHT_CFG_WHERE = 2 → t.frozen = true) ∧ (∀ a, t.rd Sp.msix a = unlisted))
  ∧ (∀ s : State, s.bit F.CLK_STATUS_ITO_OK = true → s.domWorks 150 = true →
    Completes .hostLinkUp s fun t => t.linkUp = true ∧ t.frozen = s.frozen)
  ∧ (∀ (s : State) (v : Reg), v.getLsbD 0 = true → s.linkUp = true → (s.frozen = true → s.cfg F.CHT_CFG_WHERE = 2) →
    Completes (.chtResume v) s fun t => t.boot.resume = true ∧ t.frozen = s.frozen)

/-! ## Register accesses and the bus matrix (chapter 4) -/

/-- A 32-bit access of the host to a mailbox argument word of an EMPTY slot stores, sets, clears and toggles, by its alias; a
16-bit write there changes no register but the log's; an access to central SRAM writes the enabled bytes. -/
def Obligations.AliasesStoreSetClearToggle : Prop :=
  (∀ (s : State) (n : Fin 16) (i : Fin 12) (v : Reg), s.slotState n.val = 0 →
    Completes (.registerWrite (hostWord (R.SUP_MBOX_ARG n.val i.val) v)) s fun t =>
      t.get (F.SUP_MBOX_ARG n.val i.val) = v.toNat ∧ (∀ k, k ≠ R.SUP_MBOX_ARG n.val i.val → t.word k = s.word k))
  ∧ (∀ (s : State) (n : Fin 16) (i : Fin 12) (v : Reg), s.slotState n.val = 0 →
    Completes (.setAliasWrite (hostWord (R.SUP_MBOX_ARG n.val i.val) v)) s fun t =>
      t.get (F.SUP_MBOX_ARG n.val i.val) = s.get (F.SUP_MBOX_ARG n.val i.val) ||| v.toNat)
  ∧ (∀ (s : State) (n : Fin 16) (i : Fin 12) (v : Reg), s.slotState n.val = 0 →
    Completes (.clearAliasWrite (hostWord (R.SUP_MBOX_ARG n.val i.val) v)) s fun t =>
      BitVec.ofNat 32 (t.get (F.SUP_MBOX_ARG n.val i.val)) = BitVec.ofNat 32 (s.get (F.SUP_MBOX_ARG n.val i.val)) &&& ~~~v)
  ∧ (∀ (s : State) (n : Fin 16) (i : Fin 12) (v : Reg), s.slotState n.val = 0 →
    Completes (.toggleAliasWrite (hostWord (R.SUP_MBOX_ARG n.val i.val) v)) s fun t =>
      t.get (F.SUP_MBOX_ARG n.val i.val) = s.get (F.SUP_MBOX_ARG n.val i.val) ^^^ v.toNat)
  ∧ (∀ (s : State) (n : Fin 16) (i : Fin 12) (v : Reg), s.slotState n.val ≠ 0 →
    Completes (.registerWrite (hostWord (R.SUP_MBOX_ARG n.val i.val) v)) s fun t =>
      t.get (F.SUP_MBOX_ARG n.val i.val) = s.get (F.SUP_MBOX_ARG n.val i.val) ∧ Signalled 961 s t)
  ∧ (∀ (s : State) (n : Fin 16) (i : Fin 12) (v : Reg),
    Completes (.registerWrite { hostWord (R.SUP_MBOX_ARG n.val i.val) v with bytes := 2, be := 3 }) s fun t =>
      t.get (F.SUP_MBOX_ARG n.val i.val) = s.get (F.SUP_MBOX_ARG n.val i.val)
        ∧ t.get (F.BUS_ERRLOG_INFO_KIND (s.get F.BUS_ERRLOG_COUNT % 16)) = Kind.narrowWrite ∧ Signalled 961 s t)
  ∧ (∀ (s : State) (off : BitVec 26) (bs : List (Option Byte)), s.sramKind off.toNat bs.length true = none →
    Completes (.sramWindowWrite off bs) s fun t => t.regs = s.regs
      ∧ (∀ i < bs.length, t.rd Sp.sram (off.toNat + i) = (bs.getD i none).getD (s.rd Sp.sram (off.toNat + i)))
      ∧ (∀ sp a, sp ≠ Sp.sram ∨ a % 2 ^ 64 < off.toNat ∨ off.toNat + bs.length ≤ a % 2 ^ 64 → t.rd sp a = s.rd sp a))
  ∧ (∀ (s : State) (off : BitVec 26) (bs : List (Option Byte)) (k : Nat), s.sramKind off.toNat bs.length true = some k →
    Completes (.sramWindowWrite off bs) s fun t => Signalled 961 s t
      ∧ t.get (F.BUS_ERRLOG_INFO_KIND (s.get F.BUS_ERRLOG_COUNT % 16)) = k ∧ (∀ a, t.rd Sp.sram a = s.rd Sp.sram a))

/-- A write of the host to a journaled register on a unit that does not take part alone is refused: the register keeps its word,
and the log tells (R146, R420). -/
def Obligations.RefusedWritesLeaveRegisters : Prop :=
  ∀ (s : State) (addr : Nat) (v : Reg), journaled (s.keyOf addr) = true → s.pairSpeaks = false → blockOf (s.keyOf addr) ≠ 3 →
      blockOf (s.keyOf addr) ≠ 4 → blockOf (s.keyOf addr) ≠ 5 →
    (s.hostWrite addr 0 v.toNat).1 = false ∧ (s.hostWrite addr 0 v.toNat).2.word (s.keyOf addr) = s.word (s.keyOf addr)
      ∧ (s.hostWrite addr 0 v.toNat).2.get (F.BUS_ERRLOG_INFO_KIND (s.get F.BUS_ERRLOG_COUNT % 16)) = Kind.refused
      ∧ (s.hostWrite addr 0 v.toNat).2.beyondEvents = s.beyondEvents

/-- Commits wait for the tick boundary, or copy at once with the tick generator off; parity faults are found and cleared; the bus
matrix grants and releases. -/
def Obligations.CommitsParityAndBus : Prop :=
  (∀ (s : State) (b : CommitBlock) (v : Reg), (b ≠ .hal → s.HostActs) → v.getLsbD 0 = true → s.ftcState ≠ Ftc.disabled →
    Completes (.commitGo b v) s fun t => t.regs.armed = blockOf (commitReg b) :: s.regs.armed.filter (· ≠ blockOf (commitReg b))
      ∧ t.regs.live = s.regs.live)
  ∧ (∀ (s : State) (b : CommitBlock) (v : Reg), (b ≠ .hal → s.HostActs) → v.getLsbD 0 = true → s.ftcState = Ftc.disabled →
    Completes (.commitGo b v) s fun t => t.regs.armed = s.regs.armed
      ∧ ∀ k, blockOf k = blockOf (commitReg b) → hasFrame k = true → t.liveWord k = s.word k)
  ∧ (∀ (s : State) (flips : List ParityFlip), Completes (.scrubPass flips) s fun t =>
      t.get F.BUS_SCRUB_PASSES = (s.get F.BUS_SCRUB_PASSES + 1) % 2 ^ F.BUS_SCRUB_PASSES.w)
  ∧ (∀ (s : State) (k : Nat), s.regs.bad = [(k, false)] → s.blockPowered (blockOf k) = true → s.regs.reported = [] →
    Completes (.scrubPass []) s fun t => t.bit F.BUS_PAR_STATUS_PENDING = true ∧ Signalled 960 s t
      ∧ (s.bit F.BUS_PAR_STATUS_PENDING = false → t.get F.BUS_PAR_STATUS_FIRST_BLOCK = blockOf k))
  ∧ (∀ (s : State) (v : Reg), v.getLsbD 0 = true →
      (∀ h ∈ s.regs.held, h.blk ∉ [2, 3, 18] ∧ ∀ k, blockOf k = h.blk ∨ k ∈ h.vals.map (·.1) →
        (Sparse.get (BitVec.ofNat 32 (resetWord k)) h.vals k).toNat = s.word k ∧ blockOf k = h.blk) →
    Completes (.parityClear v) s fun t => t.bit F.BUS_PAR_STATUS_PENDING = false ∧ t.get F.BUS_PAR_STATUS_COUNT = 0
      ∧ t.regs.held = [] ∧ t.get F.BUS_PAR_HOLD = 0
      ∧ bitOf (t.get F.PWR_PENNANT_STATUS_ACTIVE_CAUSES) Cause.parity = false)
  ∧ (∀ (s : State) (m : Fin 13), s.bit (F.BUS_MSTR_STATUS_HELD m.val) = true → Completes (.busHoldRelease m) s fun t =>
      t.bit (F.BUS_MSTR_STATUS_HELD m.val) = false ∧ t.get (F.BUS_MSTR_STATUS_HOLD_WHY m.val) = 0)
  ∧ (∀ (s : State) (m : Fin 13), s.bit (F.BUS_MSTR_STATUS_DRAINING m.val) = true → Completes (.masterDrainComplete m) s fun t =>
      t.bit (F.BUS_MSTR_STATUS_DRAINING m.val) = false ∧ t.get (F.BUS_MSTR_STATUS_RD_OUT m.val) = 0
        ∧ t.get (F.BUS_MSTR_STATUS_WR_OUT m.val) = 0)

/-! ## The mailbox and its commands (chapters 4, 5 and 17) -/

/-- A slot is submitted and released; a command executes in its turn and closes up; IDENTIFY, IMAGE_QUERY, CTX_FLUSH and an
unknown code answer at once. -/
def Obligations.MailboxSlotsAndPlainCommands : Prop :=
  (∀ (s : State) (n : Fin 16) (v : Reg), v.getLsbD 0 = true → v.getLsbD 1 = false → s.slotState n.val = 0 →
      (s.noteMessage .host).quarantined .host = false → (s.noteMessage .host).overRate .host = false →
    Completes (.mboxSubmit n v) s fun t => t.slotState n.val = 1 ∧ t.get (F.SUP_MBOX_SEQ n.val) = s.mbox.next % 2 ^ 16
      ∧ t.mbox.next = (s.mbox.next + 1) % 65536
      ∧ t.mbox.queue = s.mbox.queue ++ [s.slotCmd n.val])  ∧ (∀ (s : State) (n : Fin 16) (v : Reg), v.getLsbD 0 = true → s.slotState n.val ≠ 0 → (v.getLsbD 1 = false ∨ s.slotState n.val = 1) →
    Completes (.mboxSubmit n v) s fun t => t.slotState n.val = s.slotState n.val ∧ t.mbox = s.mbox ∧ Signalled 961 s t)
  ∧ (∀ (s : State) (n : Fin 16) (v : Reg), v.getLsbD 1 = true → v.getLsbD 0 = false → s.slotState n.val = 2 →
    Completes (.mboxRelease n v) s fun t => t.slotState n.val = 0 ∧ t.mbox = s.mbox
      ∧ ∀ m < 16, m ≠ n.val → t.slotState m = s.slotState m)
  ∧ (∀ (s : State) (n : Fin 16) (c : Cmd), s.MayRun 0x00 0 c → c.src = .slot n.val →
    Completes .nop s fun t => ClosedUp n.val c 0 t ∧ t.mbox.queue = s.mbox.queue.tail ∧ t.mbox.busy = none ∧ Signalled 962 s t)
  ∧ (∀ (s : State) (n : Fin 16) (c : Cmd), s.MayRun 0x01 0 c → c.src = .slot n.val →
    Completes .identify s fun t => ClosedUp n.val c 0 t ∧ t.get (F.SUP_MBOX_ARG n.val 0) = s.burgee % 2 ^ 32
      ∧ t.get (F.SUP_MBOX_ARG n.val 1) = s.burgee / 2 ^ 32 ∧ t.get (F.SUP_MBOX_ARG n.val 2) = s.word R.SUP_ID)
  ∧ (∀ (s : State) (n : Fin 16) (c : Cmd), s.mbox.busy = none → s.mbox.queue.head? = some c → cmdNeed c.op = none →
      c.src = .slot n.val →
    Completes .unknownCommand s fun t => ClosedUp n.val c 1 t ∧ t.mbox.queue = s.mbox.queue.tail)
  ∧ (∀ (s : State) (n : Fin 16) (c : Cmd) (i : Image), s.MayRun 0x12 2 c → c.src = .slot n.val →
      (s.images.find? fun i => i.tile = c.arg 0 ∧ i.id = c.arg 1) = some i →
    Completes .imageQuery s fun t => ClosedUp n.val c 0 t ∧ t.get (F.SUP_MBOX_ARG n.val 0) = i.base % 2 ^ 32
      ∧ t.get (F.SUP_MBOX_ARG n.val 1) = i.codeWords % 2 ^ 32 ∧ t.get (F.SUP_MBOX_ARG n.val 2) = i.constOff % 2 ^ 32
      ∧ t.images = s.images)
  ∧ (∀ (s : State) (n : Fin 16) (c : Cmd), s.MayRun 0x27 0 c → c.src = .slot n.val → s.frozen = false →
    Completes .ctxFlush s fun t => ClosedUp n.val c 0 t ∧ (∀ e ∈ t.ctx, e.dirty = false)
      ∧ t.ctx.map (·.words) = s.ctx.map (·.words))

/-- A mailbox command with too few or too many argument words, or one that the device's state bars, closes up BAD_ARGUMENT or
REFUSED without another effect: shown for the commands of images, hoists, channels and twins. -/
def Obligations.BadCommandsCloseUpAtOnce : Prop :=
  ∀ (row : Instr × Nat × Nat), row ∈ [((.imageLoad : Instr), 0x10, 4), (.imageUnload, 0x11, 2), (.imageQuery, 0x12, 2),
      (.hoistReimage, 0x13, 3), (.hoistLoad, 0x20, 1), (.hoistUnload, 0x21, 1), (.chanCommit, 0x22, 4), (.pennantClear, 0x23, 2),
      (.twinSet, 0x24, 2), (.twinClear, 0x25, 1), (.hoistMove, 0x26, 3), (.ctxFlush, 0x27, 0)] →
  ∀ (s : State) (n : Fin 16) (c : Cmd), s.mbox.busy = none → s.mbox.queue.head? = some c → c.op = row.2.1 → c.src = .slot n.val →
    (12 < c.argWords ∨ c.argWords < row.2.2 →
      Completes row.1 s fun t => ClosedUp n.val c Rc.badArg t ∧ t.hoists = s.hoists ∧ t.images = s.images ∧ t.ctx = s.ctx)
    ∧ (row.2.2 ≤ c.argWords → c.argWords ≤ 12 → s.popped.cmdBarred c = true →
      Completes row.1 s fun t => ClosedUp n.val c Rc.refused t ∧ t.hoists = s.hoists ∧ t.images = s.images ∧ t.ctx = s.ctx)

/-- Commands on images execute, and take effect at their super-tick boundary. -/
def Obligations.ImagesLoadAndUnload : Prop :=
  (∀ (s : State) (n : Fin 16) (c : Cmd) (i : Image), s.MayRun 0x10 4 c → c.src = .slot n.val →
      s.popped.imageLoadCheck c = (Rc.ok, []) → s.imageHeader (c.arg 0) 0 0 (c.arg 2) (c.arg 3) = some i →
      s.imageSigned (c.arg 0) (0x80 + 4 * i.codeWords + 8 * i.constWords) = true →
    Completes .imageLoad s fun t => InExecution c s.tick t
      ∧ (t.takeEffect 0x10 State.imageLoadCheck State.imageLoadAct).images
          = s.images ++ (tilesOf (c.arg 1)).map (fun k => { i with tile := k })
      ∧ ClosedUp n.val c 0 (t.takeEffect 0x10 State.imageLoadCheck State.imageLoadAct))
  ∧ (∀ (s : State) (n : Fin 16) (c : Cmd) (i : Image), s.MayRun 0x10 4 c → c.src = .slot n.val →
      s.popped.imageLoadCheck c = (Rc.ok, []) → s.imageHeader (c.arg 0) 0 0 (c.arg 2) (c.arg 3) = some i →
      s.imageSigned (c.arg 0) (0x80 + 4 * i.codeWords + 8 * i.constWords) = false →
    Completes .imageLoad s fun t => ClosedUp n.val c Rc.auth t ∧ t.images = s.images)
  ∧ (∀ (s : State) (n : Fin 16) (c : Cmd), s.MayRun 0x11 2 c → c.src = .slot n.val → s.popped.imageUnloadCheck c = (Rc.ok, []) →
    Completes .imageUnload s fun t => InExecution c s.tick t
      ∧ (t.takeEffect 0x11 State.imageUnloadCheck State.imageUnloadAct).images
          = s.images.filter (fun i => !(i.id = c.arg 0 && (tilesOf (c.arg 1)).contains i.tile))
      ∧ ClosedUp n.val c 0 (t.takeEffect 0x11 State.imageUnloadCheck State.imageUnloadAct))
  ∧ (∀ (s : State) (n : Fin 16) (c : Cmd), s.MayRun 0x13 3 c → c.src = .slot n.val → s.popped.reimageCheck c = (Rc.ok, []) →
    Completes .hoistReimage s fun t => InExecution c s.tick t
      ∧ (t.takeEffect 0x13 State.reimageCheck State.reimageAct).ctx = (t.reimageAct c).2.ctx
      ∧ ClosedUp n.val c 0 (t.takeEffect 0x13 State.reimageCheck State.reimageAct))

/-- Commands on hoists execute, and take effect at their super-tick boundary. -/
def Obligations.HoistsLoadMoveAndLeave : Prop :=
  (∀ (s : State) (n : Fin 16) (c : Cmd), s.MayRun 0x20 1 c → c.src = .slot n.val → s.popped.hoistLoadCheck c = (Rc.ok, []) →
    Completes .hoistLoad s fun t => InExecution c s.tick t ∧ t.hoists = s.hoists
      ∧ ∀ h, t.hoistLoadCheck c = (Rc.ok, []) → t.readDescriptor (c.arg 0) = some h → (t.askPinned h).1 = true →
          ClosedUp n.val c 0 t.hoistLoadSuper ∧ t.hoistLoadSuper.hoists.length = s.hoists.length + 1
            ∧ ∃ g ∈ t.hoistLoadSuper.hoists, g.num = h.num ∧ g.members = h.members ∧ g.w = s.tick - 2)
  ∧ (∀ (s : State) (n : Fin 16) (c : Cmd), s.MayRun 0x21 1 c → c.src = .slot n.val → s.popped.hoistUnloadCheck c = (Rc.ok, []) →
    Completes .hoistUnload s fun t => InExecution c s.tick t ∧ t.hoists = s.hoists
      ∧ (t.takeEffect 0x21 State.hoistUnloadCheck State.hoistUnloadAct).hoists = s.hoists.filter (·.num ≠ c.arg 0)
      ∧ ClosedUp n.val c 0 (t.takeEffect 0x21 State.hoistUnloadCheck State.hoistUnloadAct))
  ∧ (∀ (s : State) (n : Fin 16) (c : Cmd) (h : Hoist) (k : Nat) (p : Option Nat), s.MayRun 0x26 3 c → c.src = .slot n.val →
      s.popped.hoistMoveCheck c = (Rc.ok, []) → s.moveArgs c = some (h, k, p) →
    Completes .hoistMove s fun t => InExecution c s.tick t ∧ t.hoists = s.hoists
      ∧ (∃ g ∈ (t.takeEffect 0x26 State.hoistMoveCheck State.hoistMoveAct).hoists, g.num = k ∧ g.pennantAt = p)
      ∧ ClosedUp n.val c 0 (t.takeEffect 0x26 State.hoistMoveCheck State.hoistMoveAct))

/-- Commands on channels and twins: at once with the tick generator off, else at their boundary. -/
def Obligations.ChannelsCommitAndTwin : Prop :=
  (∀ (s : State) (n : Fin 16) (c : Cmd) (e : CtxEntry), s.MayRun 0x22 4 c → c.src = .slot n.val → s.ftcState = Ftc.disabled →
      s.popped.chanCommitCheck c = (Rc.ok, []) → s.ctxOf (c.arg 0) = some e → e.words.length = 32 →
    Completes .chanCommit s fun t => ClosedUp n.val c 0 t
      ∧ ∀ w < 32, t.chan (c.arg 0) w = if bitOf (c.arg 2) w then s.rdLE Sp.sram (c.arg 1 + 8 * w) 8 else s.chan (c.arg 0) w)
  ∧ (∀ (s : State) (n : Fin 16) (c : Cmd), s.MayRun 0x22 4 c → c.src = .slot n.val → s.ftcState ≠ Ftc.disabled →
      s.popped.chanCommitCheck c = (Rc.ok, []) →
    Completes .chanCommit s fun t => InExecution c s.tick t ∧ t.ctx = s.ctx
      ∧ ClosedUp n.val c 0 (t.takeEffect 0x22 State.chanCommitCheck State.chanCommitAct))
  ∧ (∀ (s : State) (n : Fin 16) (c : Cmd) (e : CtxEntry), s.MayRun 0x23 2 c → c.src = .slot n.val → s.ftcState = Ftc.disabled →
      s.popped.pennantClearCheck c = (Rc.ok, []) → s.ctxOf (c.arg 0) = some e → e.words.length = 32 →
    Completes .pennantClear s fun t => ClosedUp n.val c 0 t
      ∧ (∀ i < 32, bitOf (t.pennant (c.arg 0)) i = bitOf (s.pennant (c.arg 0)) i)
      ∧ (∀ i < 32, bitOf (c.arg 1) i = true → (i ∈ [1, 2, 3, 4, 6] ∨ 16 ≤ i) → bitOf (t.pennant (c.arg 0)) (32 + i) = false))
  ∧ (∀ (s : State) (n : Fin 16) (c : Cmd), s.MayRun 0x24 2 c → c.src = .slot n.val → s.popped.twinSetCheck c = (Rc.ok, []) →
    Completes .twinSet s fun t => InExecution c s.tick t
      ∧ ClosedUp n.val c 0 (t.takeEffect 0x24 State.twinSetCheck State.twinSetAct)
      ∧ (t.takeEffect 0x24 State.twinSetCheck State.twinSetAct).ctx = (t.twinSet (c.arg 0) (c.arg 1)).ctx)
  ∧ (∀ (s : State) (n : Fin 16) (c : Cmd), s.MayRun 0x25 1 c → c.src = .slot n.val → s.popped.twinClearCheck c = (Rc.ok, []) →
    Completes .twinClear s fun t => InExecution c s.tick t
      ∧ ClosedUp n.val c 0 (t.takeEffect 0x25 State.twinClearCheck State.twinClearAct)
      ∧ (t.takeEffect 0x25 State.twinClearCheck State.twinClearAct).ctx = (t.twinClear (c.arg 0)).ctx)

/-- Boot commands, the channel table, and the reset by command. -/
def Obligations.BootCommandsAndTables : Prop :=
  (∀ (s : State) (n : Fin 16) (c : Cmd) (b : BootImage), s.MayRun 0x18 2 c → c.src = .slot n.val →
      s.get F.SUP_BOOT_STATUS_STEP = 14 → c.arg 0 + c.arg 1 ≤ 0x780000 →
      s.bootJudge Sp.sram (c.arg 0) (c.arg 1) = (0, b) →
    Completes .bootLoad s fun t => t.boot.load = some c ∧ t.boot.image = true ∧ t.get F.SUP_BOOT_STATUS_SRC_USED = 3)
  ∧ (∀ (s : State) (n : Fin 16) (c : Cmd) (b : BootImage), s.MayRun 0x1C 2 c → c.src = .slot n.val → s.inService = true →
      s.boot.keySlot1 = none → c.arg 1 = 0x5AFE0001 → s.bootHeader Sp.sram (c.arg 0) 0x1000000 = (0, b) →
      c.arg 0 + b.signed + 96 ≤ 0x3C00000 → s.bootSigned Sp.sram (c.arg 0) b = true →
    Completes .bootKeyProgram s fun t => ClosedUp n.val c 0 t ∧ t.bit F.SUP_KEY_STATUS_SLOT1_SET = true
      ∧ t.boot.keySlot1 = some (sha384 (s.bootKey Sp.sram (c.arg 0))))
  ∧ (∀ (s : State) (n : Fin 16) (c : Cmd), s.MayRun 0x19 3 c → c.src = .slot n.val → s.inService = true → s.tilesOff = true →
      s.tableUp = true → 0 < c.arg 2 → c.arg 1 + c.arg 2 ≤ 16384 → c.arg 0 + 256 * c.arg 2 ≤ 0x3C00000 →
      (∀ k < c.arg 2, ∀ x ∈ s.rdBytes Sp.sram (c.arg 0 + 256 * k + 40) 24, x = 0) →
    Completes .tableLoad s fun t => ClosedUp n.val c 0 t ∧ t.boot.table = true
      ∧ ∀ e ∈ t.ctx, e.chan < c.arg 1 ∨ c.arg 1 + c.arg 2 ≤ e.chan)
  ∧ (∀ (s : State) (n : Fin 16) (c : Cmd), s.MayRun 0x1A 0 c → c.src = .slot n.val → s.inService = true → s.tilesOff = true →
      s.tableUp = true →
    Completes .tableClear s fun t => ClosedUp n.val c 0 t ∧ t.boot.table = true ∧ ∀ e ∈ t.ctx, 16384 ≤ e.chan)
  ∧ (∀ (s : State) (n : Fin 16) (c : Cmd), s.MayRun 0x1B 1 c → c.src = .slot n.val → c.arg 0 = 0x5AFE0002 →
    Completes .deviceReset s fun t =>
      (s.ftcState ≠ Ftc.disabled → ClosedUp n.val c 0 t ∧ t.boot.resetAt = some (s.tick + 8))
        ∧ (s.ftcState = Ftc.disabled → t.bit F.SUP_RESET_CAUSE_COMMAND = true ∧ t.hoists = [] ∧ t.queues = []))

/-! ## AFI instructions: issue, ALU, bit fields, compares (chapters 6 and 7) -/

/-- A thread's register reads back what was written to it, modulo 2^64, and another register reads as before; register 0 reads 0
and discards writes; predicate 0 reads 1 and discards writes. -/
def Obligations.ThreadRegistersReadBack : Prop :=
  ∀ (h : Hoist) (i j v : Nat) (b : Bool), h.t.length = 16 → h.p.length = 8 → i < 16 → j < 16 →
    (h.setReg i v).reg j = (if j = i ∧ i ≠ 0 then v % 2 ^ 64 else h.reg j) ∧ h.reg 0 = 0
      ∧ (i < 8 → j < 8 → (h.setPr i b).pr j = if j = i ∧ i ≠ 0 then b else h.pr j) ∧ h.pr 0 = true
      ∧ (h.setReg i v).t.length = 16 ∧ (h.setPr i b).p.length = 8

/-- An AFI instruction whose predicate does not hold takes its slot and moves `pc` past its words; it changes nothing else. One of
a thread that does not issue changes nothing at all (the model's choice, log 26). -/
def Obligations.UnexecutedInstructionsChangeNothing : Prop :=
  (∀ row ∈ afiRows, ∀ (s : State) (k : Fin 1536) (a : AfiWord) (h : Hoist), s.Fetches k.val a h →
    h.pr (fPred (AfiBits a)) = fNeg (AfiBits a) → Completes (row k a) s fun t => OnlyThread h a id s t)
  ∧ (∀ row ∈ afiRows, ∀ (s : State) (k : Fin 1536) (a : AfiWord), s.issuing k.val = none →
    Completes (row k a) s fun t => t = { s with pins := s.pinsNow })

/-- Every ALU instruction writes its result to its destination register alone, in its register form and in its immediate form. One
in the register form whose low four bits are not 0 faults ILLEGAL: its thread's fault registers show it. -/
def Obligations.AluWritesItsResult : Prop :=
  (∀ row ∈ aluTable, ∀ (s : State) (k : Fin 1536) (a : AfiWord) (h : Hoist), s.Issues k.val a h →
    fOp (AfiBits a) = 0 → fFn (AfiBits a) = row.fn → fLow (AfiBits a) = 0 →
    Completes (row.cmd k a) s (OnlyThread h a
      (·.setReg (fRd (AfiBits a)) (row.op (h.word (fRa (AfiBits a))) (h.word (fRb (AfiBits a)))).toNat) s))
  ∧ (∀ row ∈ aluTable, ∀ (s : State) (k : Fin 1536) (a : AfiWord) (h : Hoist) (op : Nat), s.Issues k.val a h →
    row.opI = some op → fOp (AfiBits a) = op →
    Completes (row.cmd k a) s (OnlyThread h a
      (·.setReg (fRd (AfiBits a)) (row.op (h.word (fRa (AfiBits a))) (immWord a row.signed)).toNat) s))
  ∧ (∀ row ∈ aluTable, ∀ (s : State) (k : Fin 1536) (a : AfiWord) (h : Hoist), s.Issues k.val a h → h.at_ < 1536 →
    fOp (AfiBits a) = 0 → fFn (AfiBits a) = row.fn → fLow (AfiBits a) ≠ 0 →
    s.bit (F.TILE_FAULT_PENDING h.tile (h.at_ % 192)) = false →
    Completes (row.cmd k a) s fun t =>
      t.bit (F.TILE_FAULT_PENDING h.tile (h.at_ % 192)) = true ∧ t.get (F.TILE_FAULT_CODE h.tile (h.at_ % 192)) = Flt.illegal
        ∧ t.get (F.TILE_FAULT_COUNT h.tile (h.at_ % 192)) = 1
        ∧ t.get (F.TILE_FAULT_PC_PC h.tile (h.at_ % 192)) = h.pc % 2 ^ (F.TILE_FAULT_PC_PC 0 0).w)

/-- The bit-field instructions, with position and width from the immediate and from a register. -/
def Obligations.BitFieldsExtractInsertRotateCount : Prop :=
  (∀ (s : State) (k : Fin 1536) (a : AfiWord) (h : Hoist) (pos wd : Nat), s.Issues k.val a h →
      (fOp (AfiBits a) = 8 ∧ immFits a 12 = true ∧ pos = bitsOf (fImm (AfiBits a)) 0 6 ∧ wd = bitsOf (fImm (AfiBits a)) 6 6 + 1
        ∨ fOp (AfiBits a) = 0x0B ∧ fFn (AfiBits a) = 0 ∧ fLow (AfiBits a) = 0 ∧ 1 ≤ wd ∧ pos < 64
          ∧ h.reg (fRb (AfiBits a)) = pos + (wd - 1) * 2 ^ 8) → pos + wd ≤ 64 →
    Completes (.ext k a) s (OnlyThread h a (·.setReg (fRd (AfiBits a)) (h.reg (fRa (AfiBits a)) / 2 ^ pos % 2 ^ wd)) s))
  ∧ (∀ (s : State) (k : Fin 1536) (a : AfiWord) (h : Hoist) (pos wd : Nat), s.Issues k.val a h →
      (fOp (AfiBits a) = 9 ∧ immFits a 12 = true ∧ pos = bitsOf (fImm (AfiBits a)) 0 6 ∧ wd = bitsOf (fImm (AfiBits a)) 6 6 + 1
        ∨ fOp (AfiBits a) = 0x0B ∧ fFn (AfiBits a) = 1 ∧ fLow (AfiBits a) = 0 ∧ 1 ≤ wd ∧ pos < 64
          ∧ h.reg (fRb (AfiBits a)) = pos + (wd - 1) * 2 ^ 8) → pos + wd ≤ 64 →
    Completes (.ins k a) s (OnlyThread h a (·.setReg (fRd (AfiBits a))
      (h.word (fRd (AfiBits a)) &&& ~~~(BitVec.ofNat 64 (2 ^ wd - 1) <<< pos)
        ||| (h.word (fRa (AfiBits a)) &&& BitVec.ofNat 64 (2 ^ wd - 1)) <<< pos).toNat) s))
  ∧ (∀ (s : State) (k : Fin 1536) (a : AfiWord) (h : Hoist) (n : Nat), s.Issues k.val a h → n < 64 →
      (fOp (AfiBits a) = 0x0A ∧ immFits a 6 = true ∧ n = fImm (AfiBits a)
        ∨ fOp (AfiBits a) = 0x0B ∧ fFn (AfiBits a) = 2 ∧ fLow (AfiBits a) = 0 ∧ h.reg (fRb (AfiBits a)) = n) →
    Completes (.rot k a) s (OnlyThread h a (·.setReg (fRd (AfiBits a)) ((h.word (fRa (AfiBits a))).rotateLeft n).toNat) s))
  ∧ (∀ (s : State) (k : Fin 1536) (a : AfiWord) (h : Hoist), s.Issues k.val a h →
      fOp (AfiBits a) = 0x0B → fFn (AfiBits a) = 3 → fLow (AfiBits a) = 0 → fRb (AfiBits a) = 0 →
    Completes (.popc k a) s (OnlyThread h a
      (·.setReg (fRd (AfiBits a)) ((List.range 64).countP fun i => (h.word (fRa (AfiBits a))).getLsbD i)) s))
  ∧ (∀ (s : State) (k : Fin 1536) (a : AfiWord) (h : Hoist), s.Issues k.val a h →
      fOp (AfiBits a) = 0x0B → fFn (AfiBits a) = 4 → fLow (AfiBits a) = 0 → fRb (AfiBits a) = 0 →
    Completes (.clz k a) s (OnlyThread h a (·.setReg (fRd (AfiBits a))
      (if h.reg (fRa (AfiBits a)) = 0 then 64 else 63 - Nat.log2 (h.reg (fRa (AfiBits a))))) s))

/-- `CMP` and `TST` write one predicate: the condition of their operands, combined with what it held. -/
def Obligations.ComparesWriteOnePredicate : Prop :=
  (∀ (s : State) (k : Fin 1536) (a : AfiWord) (h : Hoist) (b : Word), s.Issues k.val a h → fOp (AfiBits a) = 0x1C →
      pReserved (AfiBits a) = false → bitsOf (AfiBits a) 4 2 ≠ 3 →
      (bitOf (AfiBits a) 6 = true ∧ b = BitVec.ofNat 64 (fRb (AfiBits a) * 16 + fLow (AfiBits a))
        ∨ bitOf (AfiBits a) 6 = false ∧ fLow (AfiBits a) = 0 ∧ b = h.word (fRb (AfiBits a))) →
    Completes (.cmp k a) s (OnlyThread h a (·.setPr (fPdP (AfiBits a))
      (combined (bitsOf (AfiBits a) 4 2) (h.pr (fPdP (AfiBits a))) (condHolds (bitsOf (AfiBits a) 7 3) (h.word (fRa (AfiBits a))) b))) s))
  ∧ (∀ (s : State) (k : Fin 1536) (a : AfiWord) (h : Hoist) (b : Word), s.Issues k.val a h → fOp (AfiBits a) = 0x1D →
      pReserved (AfiBits a) = false → bitsOf (AfiBits a) 4 2 ≠ 3 → bitsOf (AfiBits a) 7 3 < 2 →
      (bitOf (AfiBits a) 6 = true ∧ b = BitVec.ofNat 64 (fRb (AfiBits a) * 16 + fLow (AfiBits a))
        ∨ bitOf (AfiBits a) 6 = false ∧ fLow (AfiBits a) = 0 ∧ b = h.word (fRb (AfiBits a))) →
    Completes (.tst k a) s (OnlyThread h a (·.setPr (fPdP (AfiBits a))
      (combined (bitsOf (AfiBits a) 4 2) (h.pr (fPdP (AfiBits a)))
        (if bitsOf (AfiBits a) 7 3 = 0 then h.word (fRa (AfiBits a)) &&& b != 0 else h.word (fRa (AfiBits a)) &&& b == 0))) s))

/-! ## AFI instructions: flow, memory, queues -/

/-- The flow instructions move `pc`, the call stack, the thread's readiness, and stop it. -/
def Obligations.FlowInstructionsMoveThePc : Prop :=
  (∀ (s : State) (k : Fin 1536) (a : AfiWord) (h : Hoist) (x : Nat), s.Issues k.val a h → fOp (AfiBits a) = 0x20 →
      (x : Int) = h.pc + fBr (AfiBits a) → s.inCode h x = true → s.pairSecond h x = false →
    Completes (.br k a) s (OnlyThread h a (fun g => { g with pc := x }) s))
  ∧ (∀ (s : State) (k : Fin 1536) (a : AfiWord) (h : Hoist) (x : Nat), s.Issues k.val a h → fOp (AfiBits a) = 0x21 →
      (x : Int) = h.pc + fBr (AfiBits a) → s.inCode h x = true → s.pairSecond h x = false → h.stack.length < 8 →
    Completes (.call k a) s (OnlyThread h a (fun g => { g with pc := x, stack := (h.pc + 1) :: h.stack }) s))
  ∧ (∀ (s : State) (k : Fin 1536) (a : AfiWord) (h : Hoist) (x : Nat) (r : List Nat), s.Issues k.val a h → fOp (AfiBits a) = 0x22 →
      bitsOf (AfiBits a) 0 22 = 0 → h.stack = x :: r →
    Completes (.ret k a) s (OnlyThread h a (fun g => { g with pc := x, stack := r }) s))
  ∧ (∀ (s : State) (k : Fin 1536) (a : AfiWord) (h : Hoist), s.Issues k.val a h → fOp (AfiBits a) = 0x23 → bitsOf (AfiBits a) 0 22 = 0 →
    Completes (.yield k a) s (OnlyThread h a (fun g => { g with notBefore := s.tick + 1 }) s))
  ∧ (∀ (s : State) (k : Fin 1536) (a : AfiWord) (h : Hoist), s.Issues k.val a h → fOp (AfiBits a) = 0x24 → bitsOf (AfiBits a) 0 22 = 0 →
    Completes (.waitt k a) s fun t => ∃ g, t.hoist h.num = some g ∧ g.ready = false ∧ g.outBits = 0 ∧ g.w = h.w
      ∧ (∀ q ∈ s.writtenQueues h.num, q ∈ g.closed))
  ∧ (∀ (s : State) (k : Fin 1536) (a : AfiWord) (h : Hoist), s.Issues k.val a h → h.at_ < 1536 →
      fOp (AfiBits a) = 0x25 → bitsOf (AfiBits a) 0 22 = 0 →
    Completes (.halt k a) s fun t => (∃ g, t.hoist h.num = some g ∧ g.halted = true ∧ g.ready = false ∧ g.pc = h.pc)
      ∧ (s.bit (F.TILE_FAULT_PENDING h.tile (h.at_ % 192)) = false →
          t.get (F.TILE_FAULT_CODE h.tile (h.at_ % 192)) = Flt.halted))

/-- `LDC` loads from the four spaces; `STC` stores to three. -/
def Obligations.LoadsAndStoresReachTheirSpaces : Prop :=
  (∀ (s : State) (k : Fin 1536) (a : AfiWord) (h : Hoist), s.Issues k.val a h → fOp (AfiBits a) = 0x28 → fSpace (AfiBits a) = 0 →
      fBase (AfiBits a) = 0 → fOff (AfiBits a) < 32 →
    Completes (.ldc k a) s (OnlyThread h a (·.setReg (fRd (AfiBits a)) (s.chan h.cur (fOff (AfiBits a)))) s))
  ∧ (∀ (s : State) (k : Fin 1536) (a : AfiWord) (h : Hoist), s.Issues k.val a h → fOp (AfiBits a) = 0x28 → fSpace (AfiBits a) = 1 →
      a.rdErr = none → cAddr h (AfiBits a) < 256 →
    Completes (.ldc k a) s (OnlyThread h a
      (·.setReg (fRd (AfiBits a)) (s.rdLE Sp.locals (localAddr h.num (cAddr h (AfiBits a))) 8)) s))
  ∧ (∀ (s : State) (k : Fin 1536) (a : AfiWord) (h : Hoist), s.Issues k.val a h → fOp (AfiBits a) = 0x28 → fSpace (AfiBits a) = 2 →
      a.rdErr = none → cAddr h (AfiBits a) < 1024 → cAddr h (AfiBits a) ∈ h.scratch →
    Completes (.ldc k a) s (OnlyThread h a
      (·.setReg (fRd (AfiBits a)) (s.rdLE (Sp.tile h.tile) (scratchBase h + 8 * cAddr h (AfiBits a)) 8)) s))
  ∧ (∀ (s : State) (k : Fin 1536) (a : AfiWord) (h : Hoist) (i : Image), s.Issues k.val a h → fOp (AfiBits a) = 0x28 →
      fSpace (AfiBits a) = 3 → a.rdErr = none → s.imgOf h = some i → cAddr h (AfiBits a) < i.constWords →
    Completes (.ldc k a) s (OnlyThread h a
      (·.setReg (fRd (AfiBits a)) (s.rdLE (Sp.tile h.tile) (i.constOff + 8 * cAddr h (AfiBits a)) 8)) s))
  ∧ (∀ (s : State) (k : Fin 1536) (a : AfiWord) (h : Hoist) (e : CtxEntry), s.Issues k.val a h → fOp (AfiBits a) = 0x29 →
      fSpace (AfiBits a) = 0 → fBase (AfiBits a) = 0 → 8 ≤ fOff (AfiBits a) → fOff (AfiBits a) < 32 →
      s.ctxOf h.cur = some e → e.words.length = 32 →
    Completes (.stc k a) s fun t => t.hoist h.num = some (h.issued1 (wordsOf a))
      ∧ ∀ i < 32, t.chan h.cur i = if i = fOff (AfiBits a) then h.reg (fRd (AfiBits a)) else s.chan h.cur i)
  ∧ (∀ (s : State) (k : Fin 1536) (a : AfiWord) (h : Hoist), s.Issues k.val a h → fOp (AfiBits a) = 0x29 →
      fSpace (AfiBits a) = 1 → cAddr h (AfiBits a) < 256 →
    Completes (.stc k a) s fun t => t.hoist h.num = some (h.issued1 (wordsOf a))
      ∧ t.rdLE Sp.locals (localAddr h.num (cAddr h (AfiBits a))) 8 = h.reg (fRd (AfiBits a))
      ∧ (∀ x, x % 2 ^ 64 < localAddr h.num (cAddr h (AfiBits a)) ∨ localAddr h.num (cAddr h (AfiBits a)) + 8 ≤ x % 2 ^ 64 →
          t.rd Sp.locals x = s.rd Sp.locals x))
  ∧ (∀ (s : State) (k : Fin 1536) (a : AfiWord) (h : Hoist), s.Issues k.val a h → fOp (AfiBits a) = 0x29 → h.at_ < 1536 →
      fSpace (AfiBits a) = 2 → cAddr h (AfiBits a) < 1024 →
    Completes (.stc k a) s fun t => (∃ g, t.hoist h.num = some g ∧ cAddr h (AfiBits a) ∈ g.scratch ∧ g.t = h.t)
      ∧ t.rdLE (Sp.tile h.tile) (scratchBase h + 8 * cAddr h (AfiBits a)) 8 = h.reg (fRd (AfiBits a)))

/-- `NEXTC` maps the next member, or marks the last one done; `ENQ` pushes, `DEQ` pops, `QSTAT` reports. An instruction that needs
words beyond its gate waits: its thread keeps its place with the words kept, and uses no slot, until the gate has passed. -/
def Obligations.QueueInstructionsMoveWords : Prop :=
  (∀ (s : State) (k : Fin 1536) (a : AfiWord) (h : Hoist), s.Issues k.val a h → fOp (AfiBits a) = 0x2A → bitsOf (AfiBits a) 0 19 = 0 →
      h.lastDone = true →
    Completes (.nextc k a) s (OnlyThread h a (·.setPr (fPdP (AfiBits a)) false) s))
  ∧ (∀ (s : State) (k : Fin 1536) (a : AfiWord) (h : Hoist) (e : Queue), s.Issues k.val a h → fOp (AfiBits a) = 0x2A →
      bitsOf (AfiBits a) 0 19 = 0 → h.lastDone = false → s.slotQueue h 1 = some e → h.hx + 1 < h.members.length →
      s.resident (h.members.getD (h.hx + 1) 0) = true →
    Completes (.nextc k a) s fun t => ∃ g, t.hoist h.num = some g ∧ g.hx = h.hx + 1 ∧ g.p = (h.setPr (fPdP (AfiBits a)) true).p
      ∧ g.lastDone = false ∧ g.outBits = 0 ∧ ⟨h.cur, h.w, (t.marks.headD ⟨0, 0, 0, 0⟩).pen, s.tick⟩ :: s.marks = t.marks)
  ∧ (∀ (s : State) (k : Fin 1536) (a : AfiWord) (h : Hoist) (e : Queue), s.Issues k.val a h → fOp (AfiBits a) = 0x2A →
      bitsOf (AfiBits a) 0 19 = 0 → h.lastDone = false → s.slotQueue h 1 = some e → h.members.length ≤ h.hx + 1 →
    Completes (.nextc k a) s fun t => ∃ g, t.hoist h.num = some g ∧ g.hx = h.hx ∧ g.p = (h.setPr (fPdP (AfiBits a)) false).p
      ∧ g.lastDone = true)
  ∧ (∀ (s : State) (k : Fin 1536) (a : AfiWord) (h : Hoist) (e : Queue), s.Issues k.val a h → fOp (AfiBits a) = 0x2C →
      2 ≤ fSpace (AfiBits a) → fPdQ (AfiBits a) = 0 → bitOf (AfiBits a) 12 = false → bitsOf (AfiBits a) 5 7 = 0 →
      fQ (AfiBits a) % 32 ≠ 0x18 → s.slotQueue h (fSpace (AfiBits a)) = some e → s.writes h.num e.num = true →
      s.pushRefused e.num false = false → e.flush = none →
    Completes (.enq k a) s fun t => t.hoist h.num = some (h.issued1 (wordsOf a))
      ∧ ∃ e', t.queue e.num = some e' ∧ e'.gate = e.gate
        ∧ e'.words = e.words ++ [{ data := h.word (fRd (AfiBits a)), tag := BitVec.ofNat 5 (fQ (AfiBits a)), arr := h.w }])
  ∧ (∀ (s : State) (k : Fin 1536) (a : AfiWord) (h : Hoist) (e : Queue) (x : QWord) (r : List QWord), s.Issues k.val a h →
      fOp (AfiBits a) = 0x2D → fSpace (AfiBits a) ≠ 1 → bitsOf (AfiBits a) 4 9 = 0 → s.slotQueue h (fSpace (AfiBits a)) = some e →
      (2 ≤ fSpace (AfiBits a) → s.writes h.num e.num = false) → (fSpace (AfiBits a) = 0 → e.bit = 0) → a.rdErr = none →
      e.words = x :: r → 0 < (viewWords e h.w).length → x.poison = false →
    Completes (.deq k a) s fun t =>
      t.hoist h.num = some ((((h.issued1 (wordsOf a)).setReg (fRd (AfiBits a)) x.data.toNat).setReg (fLow (AfiBits a)) x.tag.toNat).setPr
          (fPdQ (AfiBits a)) true)
        ∧ ∃ e', t.queue e.num = some e' ∧ e'.words = r)
  ∧ (∀ (s : State) (k : Fin 1536) (a : AfiWord) (h : Hoist) (e : Queue), s.Issues k.val a h →
      fOp (AfiBits a) = 0x2D → fSpace (AfiBits a) ≠ 1 → bitsOf (AfiBits a) 4 9 = 0 → s.slotQueue h (fSpace (AfiBits a)) = some e →
      (2 ≤ fSpace (AfiBits a) → s.writes h.num e.num = false) → (fSpace (AfiBits a) = 0 → e.bit = 0) →
      viewWords e h.w = [] → gatePassed e h.w = true →
    Completes (.deq k a) s fun t =>
      t.hoist h.num = some ((((h.issued1 (wordsOf a)).setReg (fRd (AfiBits a)) (s.substWord e.num).toNat).setReg
          (fLow (AfiBits a)) 32).setPr (fPdQ (AfiBits a)) false) ∧ t.queues = s.queues)
  ∧ (∀ (s : State) (k : Fin 1536) (a : AfiWord) (h : Hoist) (e : Queue), s.Issues k.val a h → fOp (AfiBits a) = 0x2E →
      fSpace (AfiBits a) ≠ 1 → bitsOf (AfiBits a) 0 13 = 3 → s.slotQueue h (fSpace (AfiBits a)) = some e → gatePassed e h.w = true →
    Completes (.qstat k a) s (OnlyThread h a (fun g => (g.setReg (fRd (AfiBits a)) (b2n (e.incomplete.contains h.w))).setPr
      (fPdQ (AfiBits a)) (e.incomplete.contains h.w)) s))
  ∧ (∀ (s : State) (k : Fin 1536) (a : AfiWord) (h : Hoist) (e : Queue), s.Issues k.val a h → fOp (AfiBits a) = 0x2E →
      2 ≤ fSpace (AfiBits a) → bitsOf (AfiBits a) 0 13 = 1 → s.slotQueue h (fSpace (AfiBits a)) = some e → gatePassed e h.w = true →
    Completes (.qstat k a) s (OnlyThread h a (fun g => (g.setReg (fRd (AfiBits a)) (viewWords e h.w).length).setPr
      (fPdQ (AfiBits a)) ((viewWords e h.w).length ≠ 0)) s))
  ∧ (∀ (s : State) (k : Fin 1536) (a : AfiWord) (h : Hoist) (e : Queue), s.Issues k.val a h → fOp (AfiBits a) = 0x2D →
      fSpace (AfiBits a) = 0 → bitsOf (AfiBits a) 4 9 = 0 → s.slotQueue h 0 = some e → e.bit = 0 → viewWords e h.w = [] →
      gatePassed e h.w = false →
    Completes (.deq k a) s fun t => t.hoist h.num = some { h with stall := some ⟨a.pfx, a.w⟩ } ∧ t.regs = s.regs ∧ t.queues = s.queues)
  ∧ (∀ (s : State) (k : Fin 1536) (h : Hoist) (st : Stall) (e : Queue), s.hoist k.val = some h → h.stall = some st →
      ({ s with hoists := s.hoists.map fun g => if g.num = k.val then { g with stall := none } else g } : State).Issues k.val
        ⟨st.pfx, st.w, false, none⟩ { h with stall := none } →
      fOp (AfiBits ⟨st.pfx, st.w, false, none⟩) = 0x2D → fSpace (AfiBits ⟨st.pfx, st.w, false, none⟩) = 0 →
      bitsOf (AfiBits ⟨st.pfx, st.w, false, none⟩) 4 9 = 0 → s.slotQueue h 0 = some e → e.bit = 0 → viewWords e h.w = [] →
      gatePassed e h.w = true →
    Completes (.gateStallEnd k) s fun t => ∃ g, t.hoist k.val = some g ∧ g.stall = none
      ∧ g.pc = h.pc + wordsOf ⟨st.pfx, st.w, false, none⟩ ∧ g.issued = h.issued + 1)

/-! ## AFI instructions: streams, patterns, helpers -/

/-- The stream instructions read the view of work tick W through the `in` cursor, and write through the `out` cursor. -/
def Obligations.StreamInstructionsUseTheirCursors : Prop :=
  (∀ (s : State) (k : Fin 1536) (a : AfiWord) (h : Hoist) (e : Queue), s.Issues k.val a h → fOp (AfiBits a) = 0x10 →
      fCurOut (AfiBits a) = false → sReserved (AfiBits a) = false → s.slotQueue h 0 = some e → countOf h (AfiBits a) ≤ 64 →
      a.rdErr = none → (gatePassed e h.w = true ∨ countOf h (AfiBits a) ≤ (s.viewBits e h.w).length) →
    Completes (.get k a) s fun t => t.hoist h.num = some (((h.issued1 (wordsOf a)).setReg (fRd (AfiBits a))
      (takeBits (s.viewBits e h.w) (countOf h (AfiBits a)))).setPr (fPdS (AfiBits a))
        (decide (countOf h (AfiBits a) ≤ (s.viewBits e h.w).length))))
  ∧ (∀ (s : State) (k : Fin 1536) (a : AfiWord) (h : Hoist) (e : Queue), s.Issues k.val a h → fOp (AfiBits a) = 0x11 →
      fCurOut (AfiBits a) = false → sReserved (AfiBits a) = false → s.slotQueue h 0 = some e → countOf h (AfiBits a) ≤ 64 →
      a.rdErr = none → (gatePassed e h.w = true ∨ countOf h (AfiBits a) ≤ (s.viewBits e h.w).length) →
    Completes (.peek k a) s (OnlyThread h a (fun g => (g.setReg (fRd (AfiBits a))
      (takeBits (s.viewBits e h.w) (countOf h (AfiBits a)))).setPr (fPdS (AfiBits a))
        (decide (countOf h (AfiBits a) ≤ (s.viewBits e h.w).length))) s))
  ∧ (∀ (s : State) (k : Fin 1536) (a : AfiWord) (h : Hoist) (e : Queue), s.Issues k.val a h → fOp (AfiBits a) = 0x13 →
      fCurOut (AfiBits a) = false → sReserved (AfiBits a) = false → fRd (AfiBits a) = 0 → s.slotQueue h 0 = some e →
      countOf h (AfiBits a) ≤ 64 → a.rdErr = none → countOf h (AfiBits a) ≤ (s.viewBits e h.w).length →
    Completes (.skip k a) s fun t =>
      t.hoist h.num = some ((h.issued1 (wordsOf a)).setPr (fPdS (AfiBits a)) true)
        ∧ (∃ e', t.queue e.num = some e'
            ∧ e'.bit = (moveCursor ((viewWords e h.w).map fun x => (s.cursorBits e.num x).length) e.bit (countOf h (AfiBits a))).2))
  ∧ (∀ (s : State) (k : Fin 1536) (a : AfiWord) (h : Hoist) (e : Queue), s.Issues k.val a h → fOp (AfiBits a) = 0x12 →
      fCurOut (AfiBits a) = true → sReserved (AfiBits a) = false → fPdS (AfiBits a) = 0 → s.slotQueue h 1 = some e →
      h.outBits + countOf h (AfiBits a) < 64 →
    Completes (.put k a) s (OnlyThread h a (fun g => { g with
      outAcc := h.outAcc * 2 ^ countOf h (AfiBits a) + h.reg (fRd (AfiBits a)) % 2 ^ countOf h (AfiBits a)
      outBits := h.outBits + countOf h (AfiBits a) }) s))
  ∧ (∀ (s : State) (k : Fin 1536) (a : AfiWord) (h : Hoist) (e : Queue), s.Issues k.val a h → fOp (AfiBits a) = 0x12 →
      fCurOut (AfiBits a) = true → sReserved (AfiBits a) = false → fPdS (AfiBits a) = 0 → s.slotQueue h 1 = some e →
      countOf h (AfiBits a) ≤ 64 → h.outBits ≤ 63 → 64 ≤ h.outBits + countOf h (AfiBits a) → s.pushRefused e.num false = false →
      e.flush = none →
    Completes (.put k a) s fun t =>
      (∃ g, t.hoist h.num = some g ∧ g.outBits = h.outBits + countOf h (AfiBits a) - 64 ∧ g.lastBits = 0)
        ∧ ∃ e', t.queue e.num = some e' ∧ e'.words.length = e.words.length + 1)
  ∧ (∀ (s : State) (k : Fin 1536) (a : AfiWord) (h : Hoist) (e : Queue), s.Issues k.val a h → fOp (AfiBits a) = 0x14 →
      sReserved (AfiBits a) = false → fCurOut (AfiBits a) = false → isPow2 (countOf h (AfiBits a)) = true →
      s.slotQueue h 0 = some e → a.rdErr = none → gatePassed e h.w = true →
    Completes (.align k a) s fun t =>
      let d := (countOf h (AfiBits a) - e.bit % countOf h (AfiBits a)) % countOf h (AfiBits a)
      let got := Nat.min d (s.viewBits e h.w).length
      t.hoist h.num = some (((h.issued1 (wordsOf a)).setReg (fRd (AfiBits a)) got).setPr (fPdS (AfiBits a)) (decide (got = d))))
  ∧ (∀ (s : State) (k : Fin 1536) (a : AfiWord) (h : Hoist) (e : Queue), s.Issues k.val a h → fOp (AfiBits a) = 0x14 →
      sReserved (AfiBits a) = false → fCurOut (AfiBits a) = true → fPdS (AfiBits a) = 0 → isPow2 (countOf h (AfiBits a)) = true →
      s.slotQueue h 1 = some e →
    Completes (.align k a) s fun t => ∃ g, t.hoist h.num = some g ∧ g.pc = h.pc + wordsOf a
      ∧ g.t = (h.setReg (fRd (AfiBits a))
          ((countOf h (AfiBits a) - h.outBits % countOf h (AfiBits a)) % countOf h (AfiBits a))).t)

/-- `HUNT` marks every position of the view at which the masked pattern lies whole; `MATCH` counts the masked bits that differ or
lie outside the view. -/
def Obligations.PatternsAreFoundInTheView : Prop :=
  (∀ (s : State) (k : Fin 1536) (a : AfiWord) (h : Hoist) (e : Queue), s.Issues k.val a h → fOp (AfiBits a) = 0x19 →
      pReserved (AfiBits a) = false → h.reg (fRb (AfiBits a)) ≠ 0 → s.slotQueue h 0 = some e → a.rdErr = none →
      gatePassed e h.w = true → fLow (AfiBits a) ≠ 0 → h.t.length = 16 →
    Completes (.hunt k a) s fun t => ∃ g, t.hoist h.num = some g ∧ g.pc = h.pc + wordsOf a
      ∧ ∀ p < 64, (g.word (fLow (AfiBits a))).getLsbD (63 - p) = true ↔ p ≤ fFn (AfiBits a)
          ∧ ∀ j < 64, (h.word (fRb (AfiBits a))).getLsbD (63 - j) = true → p + j < Nat.min 128 (s.viewBits e h.w).length
            ∧ (s.viewBits e h.w).getD (p + j) false = (h.word (fRa (AfiBits a))).getLsbD (63 - j))
  ∧ (∀ (s : State) (k : Fin 1536) (a : AfiWord) (h : Hoist) (e : Queue), s.Issues k.val a h → fOp (AfiBits a) = 0x18 →
      pReserved (AfiBits a) = false → h.reg (fRb (AfiBits a)) ≠ 0 → s.slotQueue h 0 = some e → a.rdErr = none →
      gatePassed e h.w = true →
    Completes (.matchBits k a) s (OnlyThread h a (fun g =>
      let differ := (List.range 64).countP fun j => (h.word (fRb (AfiBits a))).getLsbD (63 - j)
        && (decide ((s.viewBits e h.w).length ≤ fFn (AfiBits a) + j)
          || (s.viewBits e h.w).getD (fFn (AfiBits a) + j) false != (h.word (fRa (AfiBits a))).getLsbD (63 - j))
      (g.setReg (fLow (AfiBits a)) differ).setPr (fPdP (AfiBits a)) (decide (differ = 0))) s))

/-- The helpers for pointers, parity and companding write their result. -/
def Obligations.HelpersWriteTheirResults : Prop :=
  (∀ (s : State) (k : Fin 1536) (a : AfiWord) (h : Hoist), s.Issues k.val a h → fOp (AfiBits a) = 0x30 →
      bitsOf (AfiBits a) 8 2 = 0 → bitsOf (AfiBits a) 5 3 ≤ 4 → fLow (AfiBits a) = 0 → h.reg (fRa (AfiBits a)) < 2 ^ 16 →
      h.reg (fRb (AfiBits a)) < 2 ^ 16 → bitsOf (h.reg (fRb (AfiBits a))) 10 5 = 0 →
    Completes (.ptri k a) s (OnlyThread h a (·.setReg (fRd (AfiBits a)) (pointerClass (h.reg (fRa (AfiBits a)))
      (h.reg (fRb (AfiBits a))) (bitsOf (AfiBits a) 5 3) (bitOf (AfiBits a) 4))) s))
  ∧ (∀ (s : State) (k : Fin 1536) (a : AfiWord) (h : Hoist), s.Issues k.val a h → fOp (AfiBits a) = 0x30 →
      bitsOf (AfiBits a) 8 2 = 1 → fLow (AfiBits a) = 0 → bitOf (AfiBits a) 7 = true →
    Completes (.bipa k a) s (OnlyThread h a (·.setReg (fRd (AfiBits a))
      (((List.range (bitsOf (AfiBits a) 4 3 + 1)).map fun i => (h.word (fRa (AfiBits a))).extractLsb' (56 - 8 * i) 8).foldl
        (fun r b => r ^^^ b.setWidth 64) (h.word (fRb (AfiBits a)))).toNat) s))
  ∧ (∀ (s : State) (k : Fin 1536) (a : AfiWord) (h : Hoist), s.Issues k.val a h → fOp (AfiBits a) = 0x30 →
      bitsOf (AfiBits a) 8 2 = 1 → fLow (AfiBits a) = 0 → bitOf (AfiBits a) 7 = false →
    Completes (.bipa k a) s (OnlyThread h a (·.setReg (fRd (AfiBits a))
      (bipFold (h.reg (fRa (AfiBits a))) (h.reg (fRb (AfiBits a))) (bitsOf (AfiBits a) 4 3 + 1) false)) s))
  ∧ (∀ (s : State) (k : Fin 1536) (a : AfiWord) (h : Hoist), s.Issues k.val a h → fOp (AfiBits a) = 0x30 →
      bitsOf (AfiBits a) 8 2 = 2 → bitsOf (AfiBits a) 4 2 = 0 → fRb (AfiBits a) = 0 → fLow (AfiBits a) = 0 →
      (bitOf (AfiBits a) 6 = true ∨ h.reg (fRa (AfiBits a)) < 2 ^ 32) →
    Completes (.cmpd k a) s (OnlyThread h a
      (·.setReg (fRd (AfiBits a)) (compand (bitOf (AfiBits a) 7) (bitOf (AfiBits a) 6) (h.reg (fRa (AfiBits a))))) s))

/-- `ILV` writes byte j of block i as byte j × N + i of its string; `DILV` writes it back: over scratch words that the work tick
has written. Both write the count of bytes, and their destination's words count as written. -/
def Obligations.InterleaversMoveEveryByte : Prop :=
  (∀ (s : State) (k : Fin 1536) (a : AfiWord) (h : Hoist) (b0 bl i0 kb : Nat), s.Issues k.val a h → h.at_ < 1536 →
      fOp (AfiBits a) = 0x31 → fLow (AfiBits a) = 0 →
      h.reg (fRa (AfiBits a)) = b0 + bl * 2 ^ 16 → h.reg (fRb (AfiBits a)) = i0 + kb * 2 ^ 16 → b0 < 1024 → i0 < 1024 →
      0 < bl → bl < 1024 → 0 < kb → kb < 1024 → kb ≤ 8 * bl →
      (∀ i ≤ fFn (AfiBits a), b0 + i * bl + (kb + 7) / 8 ≤ 1024
        ∧ (b0 + i * bl + (kb + 7) / 8 ≤ i0 ∨ i0 + ((fFn (AfiBits a) + 1) * kb + 7) / 8 ≤ b0 + i * bl)
        ∧ ∀ j < (kb + 7) / 8, b0 + i * bl + j ∈ h.scratch) →
      i0 + ((fFn (AfiBits a) + 1) * kb + 7) / 8 ≤ 1024 →
    Completes (.ilv k a) s fun t => ∀ i ≤ fFn (AfiBits a), ∀ j < kb,
      t.scratchByte h (8 * i0 + (j * (fFn (AfiBits a) + 1) + i)) = s.scratchByte h (8 * (b0 + i * bl) + j))
  ∧ (∀ (s : State) (k : Fin 1536) (a : AfiWord) (h : Hoist) (b0 bl i0 kb : Nat), s.Issues k.val a h → h.at_ < 1536 →
      fOp (AfiBits a) = 0x32 → fLow (AfiBits a) = 0 →
      h.reg (fRa (AfiBits a)) = b0 + bl * 2 ^ 16 → h.reg (fRb (AfiBits a)) = i0 + kb * 2 ^ 16 → b0 < 1024 → i0 < 1024 →
      0 < bl → bl < 1024 → 0 < kb → kb < 1024 → kb ≤ 8 * bl →
      (∀ i ≤ fFn (AfiBits a), b0 + i * bl + (kb + 7) / 8 ≤ 1024
        ∧ (b0 + i * bl + (kb + 7) / 8 ≤ i0 ∨ i0 + ((fFn (AfiBits a) + 1) * kb + 7) / 8 ≤ b0 + i * bl)) →
      i0 + ((fFn (AfiBits a) + 1) * kb + 7) / 8 ≤ 1024 →
      (∀ j < ((fFn (AfiBits a) + 1) * kb + 7) / 8, i0 + j ∈ h.scratch) →
    Completes (.dilv k a) s fun t => ∀ i ≤ fFn (AfiBits a), ∀ j < kb,
      t.scratchByte h (8 * (b0 + i * bl) + j) = s.scratchByte h (8 * i0 + (j * (fFn (AfiBits a) + 1) + i)))
  ∧ (∀ (s : State) (k : Fin 1536) (a : AfiWord) (h : Hoist) (op b0 bl i0 kb : Nat) (out : Bool), s.Issues k.val a h →
      (op = 0x31 ∧ out = true ∨ op = 0x32 ∧ out = false) → fOp (AfiBits a) = op → fLow (AfiBits a) = 0 →
      h.reg (fRa (AfiBits a)) = b0 + bl * 2 ^ 16 → h.reg (fRb (AfiBits a)) = i0 + kb * 2 ^ 16 → b0 < 1024 → i0 < 1024 →
      0 < bl → bl < 1024 → 0 < kb → kb < 1024 → kb ≤ 8 * bl →
      (∀ i ≤ fFn (AfiBits a), b0 + i * bl + (kb + 7) / 8 ≤ 1024
        ∧ (b0 + i * bl + (kb + 7) / 8 ≤ i0 ∨ i0 + ((fFn (AfiBits a) + 1) * kb + 7) / 8 ≤ b0 + i * bl)) →
      i0 + ((fFn (AfiBits a) + 1) * kb + 7) / 8 ≤ 1024 →
    Completes (if out then .ilv k a else .dilv k a) s fun t => ∃ g, t.hoist h.num = some g ∧ g.pc = h.pc + wordsOf a
      ∧ g.t = (h.setReg (fRd (AfiBits a)) ((fFn (AfiBits a) + 1) * kb)).t
      ∧ ∀ j < (if out then ((fFn (AfiBits a) + 1) * kb + 7) / 8 else (kb + 7) / 8), (if out then i0 else b0) + j ∈ g.scratch)

/-- The six `CKF` operations drive the check unit of the thread's channel: its running value, its phase, its result. -/
def Obligations.CheckInstructionsDriveTheirUnit : Prop :=
  (∀ (s : State) (k : Fin 1536) (a : AfiWord) (h : Hoist) (n : Nat), s.Ckf k.val a h n 0 → bitsOf (AfiBits a) 0 6 = 0 →
      fPdQ (AfiBits a) = 0 → fRd (AfiBits a) = 0 →
    Completes (.ckfReset k a) s fun t => t.hoist h.num = some (h.issued1 (wordsOf a)) ∧ t.ckRun n = s.cfg (F.CK_INIT n) % 2 ^ s.ckWidth n
      ∧ t.ckPhase n = 0 ∧ t.bit (F.CK_STATUS_OPEN n) = true ∧ (t.cku n).failed = false)
  ∧ (∀ (s : State) (k : Fin 1536) (a : AfiWord) (h : Hoist) (n : Nat), s.Ckf k.val a h n 1 → bitsOf (AfiBits a) 0 6 = 0 →
      fPdQ (AfiBits a) = 0 → s.ckPhase n < 2 → s.cfg (F.CK_CFG_FOLDW n) ≠ 0 →
    Completes (.ckfPrefix k a) s fun t => t.hoist h.num = some (h.issued1 (wordsOf a)) ∧ t.ckPhase n = 1
      ∧ t.bit (F.CK_STATUS_OPEN n) = true ∧ t.ckRun n = s.crcOver n (foldBytes (s.cfg (F.CK_CFG_FOLDW n)) (h.reg (fRd (AfiBits a)))))
  ∧ (∀ (s : State) (k : Fin 1536) (a : AfiWord) (h : Hoist) (n : Nat), s.Ckf k.val a h n 2 → fPdQ (AfiBits a) = 0 → s.ckPhase n ≠ 3 →
      (s.on (F.CK_CFG_REFIN n) = true → (bitsOf (AfiBits a) 0 6 + 1) % 8 = 0) →
    Completes (.ckfFeed k a) s fun t => t.hoist h.num = some (h.issued1 (wordsOf a)) ∧ t.ckPhase n = 2
      ∧ t.bit (F.CK_STATUS_OPEN n) = true
      ∧ (s.on (F.CK_CFG_REFIN n) = true →
          t.ckRun n = s.crcOver n ((wordBytes (h.word (fRd (AfiBits a)))).take ((bitsOf (AfiBits a) 0 6 + 1) / 8)))
      ∧ (s.on (F.CK_CFG_REFIN n) = false → t.ckRun n = crcBits (s.ckWidth n) (s.cfg (F.CK_POLY n)) (s.ckRun n)
          ((bitsMsb 64 (h.reg (fRd (AfiBits a)))).take (bitsOf (AfiBits a) 0 6 + 1)) % 2 ^ s.ckWidth n))
  ∧ (∀ (s : State) (k : Fin 1536) (a : AfiWord) (h : Hoist) (n : Nat), s.Ckf k.val a h n 3 → bitsOf (AfiBits a) 0 6 = 0 →
      fPdQ (AfiBits a) = 0 → s.cfg (F.CK_CFG_FOLDW n) ≠ 0 →
    Completes (.ckfSuffix k a) s fun t => t.hoist h.num = some (h.issued1 (wordsOf a)) ∧ t.ckPhase n = 3
      ∧ t.bit (F.CK_STATUS_OPEN n) = true ∧ t.ckRun n = s.crcOver n (foldBytes (s.cfg (F.CK_CFG_FOLDW n)) (h.reg (fRd (AfiBits a)))))
  ∧ (∀ (s : State) (k : Fin 1536) (a : AfiWord) (h : Hoist) (n : Nat), s.Ckf k.val a h n 4 → bitsOf (AfiBits a) 0 6 = 0 →
      fPdQ (AfiBits a) = 0 →
    Completes (.ckfRead k a) s fun t =>
      t.hoist h.num = some ((h.issued1 (wordsOf a)).setReg (fRd (AfiBits a)) (if (s.cku n).failed then 0 else s.ckFinal n))
        ∧ t.get (F.CK_RESULT n) = s.ckFinal n ∧ t.bit (F.CK_STATUS_OPEN n) = false ∧ t.ckRun n = s.ckRun n)
  ∧ (∀ (s : State) (k : Fin 1536) (a : AfiWord) (h : Hoist) (n : Nat), s.Ckf k.val a h n 5 → bitsOf (AfiBits a) 0 6 = 0 →
    Completes (.ckfCheck k a) s fun t =>
      t.hoist h.num = some ((h.issued1 (wordsOf a)).setPr (fPdQ (AfiBits a))
          (!(s.cku n).failed && decide (s.ckFinal n = h.reg (fRd (AfiBits a)) % 2 ^ s.ckWidth n)))
        ∧ t.get (F.CK_RESULT n) = s.ckFinal n ∧ t.bit (F.CK_STATUS_OPEN n) = false ∧ t.ckRun n = s.ckRun n)

/-- `RAISE` raises its event; `PEN` changes the masked pennant bits; `TICK` and `CLASS` tell the time and the hoist's facts. -/
def Obligations.ProgramsRaiseMarkAndTellTime : Prop :=
  (∀ (s : State) (k : Fin 1536) (a : AfiWord) (h : Hoist), s.Issues k.val a h → fOp (AfiBits a) = 0x34 → fRd (AfiBits a) = 0 →
      immFits a 5 = true →
    Completes (.raise k a) s fun t => OnlyThread h a id s t ∧ Signalled (992 + fImm (AfiBits a)) s t)
  ∧ (∀ (s : State) (k : Fin 1536) (a : AfiWord) (h : Hoist) (e : CtxEntry), s.Issues k.val a h → fOp (AfiBits a) = 0x35 →
      fRd (AfiBits a) = 0 → fFn (AfiBits a) = 0 → fLow (AfiBits a) = 0 → h.reg (fRb (AfiBits a)) < 2 ^ 33 →
      s.ctxOf h.cur = some e → e.words.length = 32 → h.hx < 64 →
    Completes (.pen k a) s fun t => t.hoist h.num = some (h.issued1 (wordsOf a))
      ∧ (∀ i < 64, bitOf (t.pennant h.cur) i
          = if bitOf (h.reg (fRb (AfiBits a))) i then bitOf (h.reg (fRa (AfiBits a))) i else bitOf (s.pennant h.cur) i)
      ∧ (∀ i < 32, i ≠ 5 → t.chan h.cur i = s.chan h.cur i)
      ∧ (t.defects h.cur ≠ s.defects h.cur → bitOf (t.get (F.TILE_HBM (h.num / 192) (h.num % 192))) h.hx = true))
  ∧ (∀ (s : State) (k : Fin 1536) (a : AfiWord) (h : Hoist), s.Issues k.val a h → fOp (AfiBits a) = 0x36 → immFits a 2 = true →
      fImm (AfiBits a) = 0 → fRa (AfiBits a) = 0 →
    Completes (.tickWork k a) s (OnlyThread h a (·.setReg (fRd (AfiBits a)) (h.w * 8192)) s))
  ∧ (∀ (s : State) (k : Fin 1536) (a : AfiWord) (h : Hoist) (e : Queue) (off : Nat) (late : Bool), s.Issues k.val a h →
      fOp (AfiBits a) = 0x36 → immFits a 2 = true → fImm (AfiBits a) = 1 → s.slotQueue h 0 = some e →
      h.reg (fRa (AfiBits a)) = off + b2n late * 2 ^ 63 → off < 2 ^ 16 → off < (s.viewBits e h.w).length →
    Completes (.tickRef k a) s fun t => t.hoist h.num = some ((h.issued1 (wordsOf a)).setReg (fRd (AfiBits a)) (h.w * 8192))
      ∧ t.queues = s.queues)
  ∧ (∀ (s : State) (k : Fin 1536) (a : AfiWord) (h : Hoist), s.Issues k.val a h → fOp (AfiBits a) = 0x36 → immFits a 2 = true →
      fImm (AfiBits a) = 2 → fRa (AfiBits a) = 0 → h.cls = 3 →
    Completes (.tickLive k a) s (OnlyThread h a (·.setReg (fRd (AfiBits a)) s.ts64) s))
  ∧ (∀ (s : State) (k : Fin 1536) (a : AfiWord) (h : Hoist), s.Issues k.val a h → fOp (AfiBits a) = 0x37 → immFits a 2 = true →
      fImm (AfiBits a) ≠ 3 → fRa (AfiBits a) = 0 →
    Completes (.classify k a) s (OnlyThread h a (·.setReg (fRd (AfiBits a)) (s.factOf h (fImm (AfiBits a)))) s))

/-- Isolation: whatever an AFI instruction of a thread does, fault or wait included, every other thread keeps its registers,
predicates and place, and every program memory, every other scratch window and every other local data window keep their bytes. -/
def Obligations.ThreadsCannotDisturbEachOther : Prop :=
  ∀ row ∈ afiRows, ∀ (s : State) (k : Fin 1536) (a : AfiWord) (h : Hoist), s.hoist k.val = some h → h.at_ < 1536 →
    Completes (row k a) s fun t =>
      (∀ j, j ≠ k.val → t.hoist j = s.hoist j) ∧ t.images = s.images
        ∧ (∀ n < 8, ∀ x, t.rd (Sp.prog n) x = s.rd (Sp.prog n) x)
        ∧ (∀ n < 8, ∀ x < 2 ^ 64, (n ≠ h.tile ∨ x < scratchBase h ∨ scratchBase h + 0x2000 ≤ x) →
            t.rd (Sp.tile n) x = s.rd (Sp.tile n) x)
        ∧ (∀ x < 2 ^ 64, (x < k.val * 0x800 ∨ (k.val + 1) * 0x800 ≤ x) → t.rd Sp.locals x = s.rd Sp.locals x)

/-! ## Work ticks, gates, the fabric, the release stage (chapters 1, 5 and 11) -/

/-- A thread that may not begin a work tick keeps its place; a context is made resident; a gate advances at its deadline and at
a marker; a beat's word reaches the queues of its stream. The release stage samples a channel once a tick: the words up to the
output tick leave its queue; with no marker the channel takes a release breach; a second sample, or one that is not due, leaves
all as it is. A command whose condition does not hold leaves all but the pins as it is (the model's choice, log 26). -/
def Obligations.GatesBeatsAndSamples : Prop :=
  (∀ (s : State) (k : Fin 1536) (h : Hoist), s.hoist k.val = some h →
      (h.ready = true ∨ h.halted = true ∨ h.suspended = true ∨ s.tick < h.w + 2) →
    Completes (.threadReady k) s fun t => t = { s with pins := s.pinsNow })
  ∧ (∀ (s : State) (n : Fin 8) (c : Fin 16384), s.resident c.val = false → s.frozen = false → (s.ctxWays c.val).length < 8 →
    Completes (.contextRefill n c) s fun t => t.resident c.val = true ∧ (∀ i < 32, i ≠ 5 → t.chan c.val i = s.chan c.val i)
      ∧ t.get F.CTX_MISSES = (s.get F.CTX_MISSES + 1) % 2 ^ F.CTX_MISSES.w
      ∧ (∀ d, s.resident d = true → t.resident d = true))
  ∧ (∀ (s : State) (n : Fin 8) (c : Fin 16384) (v : CtxEntry), s.resident c.val = false → s.frozen = false →
      8 ≤ (s.ctxWays c.val).length → s.ctxVictim c.val = some v →
    Completes (.contextRefill n c) s fun t => t.resident c.val = true ∧ t.resident v.chan = false)
  ∧ (∀ (s : State) (q : Fin 32768) (e : Queue) (g : Nat), s.queue q.val = some e → e.gate = some g → s.deadlineDue q.val g = true →
    Completes (.gateDeadline q) s fun t => (∃ e', t.queue q.val = some e' ∧ e'.gate = some (g + 1) ∧ g ∈ e'.incomplete
        ∧ e'.words = e.words) ∧ t.bit (F.QUE_W_STATUS_INGRESS_INC q.val) = true ∧ t.bit (F.QUE_W_STICKY_INC_SEEN q.val) = true)
  ∧ (∀ (s : State) (q : Fin 32768) (e : Queue) (g : Nat), s.queue q.val = some e → e.gate = some g → s.deadlineDue q.val g = false →
    Completes (.gateDeadline q) s fun t => t = { s with pins := s.pinsNow })
  ∧ (∀ (s : State) (sid : Fin 16384) (e : Queue) (g : Nat), s.ftcState ≠ Ftc.disabled → s.lin.logging = false → s.ledgerMode = false →
      sid.val ≠ s.cfg F.HAL_SID_RX_SID → s.cfg F.MAP_PW_CLASS_SID ≠ sid.val → (s.queues.map (·.num)).Nodup → e ∈ s.queues →
      s.on (F.QUE_W_CFG_WRITER e.num) = false → s.cfg (F.QUE_W_CFG_SID e.num) = sid.val → e.gate = some g → g + 1 ≤ s.tick →
    Completes (.tickCloseMarker sid) s fun t => (∃ e', t.queue e.num = some e' ∧ e'.gate = some (g + 1) ∧ e'.words = e.words)
      ∧ t.hoists = s.hoists)
  ∧ (∀ (s : State) (sid : Fin 16384) (line : Bool) (w : TWord) (e : Queue), s.ftcState ≠ Ftc.disabled → s.lin.logging = false →
      s.portOf sid.val = none → s.cfg F.MAP_PW_CLASS_SID ≠ sid.val → (s.queues.map (·.num)).Nodup → e ∈ s.queues →
      s.on (F.QUE_W_CFG_WRITER e.num) = false → s.cfg (F.QUE_W_CFG_SID e.num) = sid.val → e.accept ≤ s.tick → e.flush = none →
      s.cfg (F.QUE_W_CFG_READER e.num) ≠ Reader.release → e.words.length + 1 ≤ s.capacity e.num →
      (line = false → s.sinksFree sid.val s.tick 1 = true) →
    Completes (.streamBeat sid line [w]) s fun t => ∃ e', t.queue e.num = some e'
      ∧ e'.words = e.words ++ [{ data := w.data, tag := w.tag, arr := s.tick }] ∧ e'.gate = e.gate)
  ∧ (∀ (s : State) (sid : Fin 16384) (ws : List TWord), s.sinksFree sid.val s.tick ws.length = false →
    Completes (.streamBeat sid false ws) s fun t => t = { s with pins := s.pinsNow })
  ∧ (∀ (s : State) (c : Fin 16384) (h : Hoist) (q w : Nat) (e : Queue), s.dueFor c.val = some w → s.hoistOf c.val = some h →
      s.asLoaded.chQueue c.val 1 = some q → c.val ∉ s.sampled → s.asLoaded.chTwin c.val = none → s.queue q = some e →
      s.on (F.QUE_W_CFG_WRITER q) = true →
    Completes (.releaseSample c) s fun t => c.val ∈ t.sampled
      ∧ ∃ e', t.queue q = some e' ∧ e'.words = e.words.dropWhile fun x => decide (x.arr ≤ w))
  ∧ (∀ (s : State) (c : Fin 16384) (h : Hoist) (q w : Nat) (e : Queue) (x : CtxEntry), s.dueFor c.val = some w →
      s.hoistOf c.val = some h → s.asLoaded.chQueue c.val 1 = some q → c.val ∉ s.sampled → s.asLoaded.chTwin c.val = none →
      s.queue q = some e → e.words = [] → s.pennantCut h w none = false → s.ctxOf c.val = some x → x.words.length = 32 →
    Completes (.releaseSample c) s fun t => bitOf (t.pennant c.val) 33 = true ∧ bitOf (t.pennant c.val) 36 = true)
  ∧ (∀ (s : State) (c : Fin 16384), (c.val ∈ s.sampled ∨ s.dueFor c.val = none) →
    Completes (.releaseSample c) s fun t => t = { s with pins := s.pinsNow })

/-! ## Rules stated whole -/

/-- At the start of every work tick the thread clears its registers, its predicates and its call stack, and begins at member 0
(R193); it takes its slot afresh for the tick after the last. -/
def Obligations.WorkTicksStartClean : Prop :=
  ∀ (s : State) (k : Fin 1536) (h : Hoist), s.hoist k.val = some h → h.ready = false → h.halted = false → h.suspended = false →
      s.joinHold = false → h.w + 2 ≤ s.tick → h.members ≠ [] → (s.frozen = false ∨ h.members.all s.resident = true) →
    Completes (.threadReady k) s fun t => ∃ g, t.hoist k.val = some g
      ∧ (∀ i, g.reg i = 0) ∧ (∀ i, i ≠ 0 → g.pr i = false) ∧ g.stack = [] ∧ g.hx = 0 ∧ g.pc = s.chEntry (h.members.headD 0)
      ∧ g.img = s.chImage (h.members.headD 0) ∧ g.ready = true ∧ g.w = h.w + 1 ∧ g.issued = 0 ∧ g.scratch = [] ∧ g.lastDone = false

/-- Queues that the release stage reads refuse every word but a marker at capacity − 1, so the last word of capacity is kept for
the marker (R349); a word that is taken stands behind the others, and one that is refused leaves the queue as it is. -/
def Obligations.ReleaseQueuesKeepRoomForMarkers : Prop :=
  ∀ (s : State) (q : Nat) (e : Queue) (w : TWord) (arr : Nat), s.queue q = some e → s.cfg (F.QUE_W_CFG_READER q) = Reader.release →
    ((s.push q w arr).1 = true ↔ e.words.length + (if isMarker w.tag then 0 else 1) < s.capacity q)
      ∧ ((s.push q w arr).1 = false → (s.push q w arr).2.queue q = some e)
      ∧ ((s.push q w arr).1 = true → ∃ e', (s.push q w arr).2.queue q = some e'
        ∧ e'.words = e.words ++ [{ data := w.data, tag := w.tag, arr := arr }])

/-- After every command `INT_A` is asserted exactly while a bit of `EVT_PENDw` is 1 for a source whose `PIN_A` is 1, and `INT_B` in
the same way for `PIN_B` (R474). -/
def Obligations.InterruptPinsFollowPendingSources : Prop :=
  ∀ (c : Instr) (s t : State), exec c s = .next t →
    (t.pins.intA = true ↔ ∃ src < 1024, bitOf (t.get (F.EVT_PEND (src / 32))) (src % 32) = true ∧ t.on (F.EVT_ROUTE_PIN_A src) = true)
    ∧ (t.pins.intB = true ↔ ∃ src < 1024, bitOf (t.get (F.EVT_PEND (src / 32))) (src % 32) = true ∧ t.on (F.EVT_ROUTE_PIN_B src) = true)

/-- A read of a register, through its address or any alias of its block, at every width that reads may have, changes nothing in
the device, whatever field it reads (R134). -/
def Obligations.RegisterReadsChangeNothing : Prop :=
  ∀ (s : State) (a : Access), a.write = false →
    (s.readsRegister a = true → exec (.registerWrite a) s = .next { s with pins := s.pinsNow })
    ∧ (s.readsRegister (Access.through a 1) = true → exec (.setAliasWrite a) s = .next { s with pins := s.pinsNow })
    ∧ (s.readsRegister (Access.through a 2) = true → exec (.clearAliasWrite a) s = .next { s with pins := s.pinsNow })
    ∧ (s.readsRegister (Access.through a 3) = true → exec (.toggleAliasWrite a) s = .next { s with pins := s.pinsNow })

/-! ## The commands that are writes to one register (chapters 2, 5 and 8 to 16) -/

/-- An accepted write to the register of an enable stores the enable's bit as written; no action that follows changes it. -/
def Obligations.EnableWritesStoreTheirBit : Prop :=
  (∀ (s : State) (n : Fin 8) (v : Reg), s.TakesWrite (R.TILE_CTRL n.val) v →
    Completes (.tileDisable n v) s fun t => t.bit (F.TILE_CTRL_ENABLE n.val) = v.getLsbD 0)
  ∧ (∀ (s : State) (l : Fin 16) (v : Reg), s.TakesWrite (R.LIN_LANE_CFG l.val) v →
    Completes (.laneEnable l v) s fun t => t.bit (F.LIN_LANE_CFG_ENABLE l.val) = v.getLsbD 0)
  ∧ (∀ (s : State) (n : Fin 256) (v : Reg), s.TakesWrite (R.CK_CFG n.val) v →
    Completes (.unitEnable n v) s (fun t => t.bit (F.CK_CFG_ENABLE n.val) = v.getLsbD 0)
      ∧ Completes (.unitDisable n v) s fun t => t.bit (F.CK_CFG_ENABLE n.val) = v.getLsbD 0)
  ∧ (∀ (s : State) (n : Fin 16) (v : Reg), s.TakesWrite (R.VOX_VP_CFG n.val) v →
    Completes (.vpEnable n v) s fun t => t.bit (F.VOX_VP_CFG_ENABLE n.val) = v.getLsbD 0)
  ∧ (∀ (s : State) (n : Fin 4096) (v : Reg), s.TakesWrite (R.PRT_SEL_CFG n.val) v →
    Completes (.selectorEnable n v) s fun t => t.bit (F.PRT_SEL_CFG_ENABLE n.val) = v.getLsbD 0)
  ∧ (∀ (s : State) (p : Fin 2) (v : Reg), s.TakesWrite (R.HAL_H_CFG p.val) v →
    Completes (.halyardPortEnable p v) s fun t => t.bit (F.HAL_H_CFG_ENABLE p.val) = v.getLsbD 0)
  ∧ (∀ (s : State) (v : Reg), s.TakesWrite R.EVT_CTRL v →
    Completes (.evtEnable v) s fun t => t.bit F.EVT_CTRL_ENABLE = v.getLsbD 0)
  ∧ (∀ (s : State) (k : Fin 512) (v : Reg), s.TakesWrite (R.REC_SRC_CFG k.val) v →
    Completes (.recSourceEnable k v) s fun t => t.bit (F.REC_SRC_CFG_EN k.val) = v.getLsbD 0)
  ∧ (∀ (s : State) (v : Reg), s.TakesWrite R.TAL_TAG_CFG v →
    Completes (.tagEnable v) s fun t => t.bit F.TAL_TAG_CFG_TAG_EN = v.getLsbD 0)
  ∧ (∀ (s : State) (v : Reg), s.TakesWrite (R.QUE_W_CFG s.shown) v →
    Completes (.queueEnable v) s (fun t => t.bit (F.QUE_W_CFG_ENABLE s.shown) = v.getLsbD 0)
      ∧ Completes (.queueDisable v) s fun t => t.bit (F.QUE_W_CFG_ENABLE s.shown) = v.getLsbD 0)

/-- What follows an enable or a disable of a lane, a check unit, a voice port, a selector, the bunting ring, a recorder source or
tagging; and a tile with a hoist stays enabled. -/
def Obligations.EnablesStartTheirRecords : Prop :=
  (∀ (s : State) (n : Fin 8) (v : Reg), s.HostActs → v.getLsbD 0 = false → s.bit (F.TILE_CTRL_ENABLE n.val) = true →
      (∃ h ∈ s.hoists, h.num / 192 = n.val ∨ h.at_ / 192 = n.val) →
    Completes (.tileDisable n v) s fun t => t.bit (F.TILE_CTRL_ENABLE n.val) = true ∧ t.hoists = s.hoists ∧ Signalled 961 s t)
  ∧ (∀ (s : State) (l : Fin 16) (v : Reg), s.Turns (R.LIN_LANE_CFG l.val) (F.LIN_LANE_CFG_ENABLE l.val) v true →
    Completes (.laneEnable l v) s fun t => t.src l.val = { num := l.val, starts := [(s.tick, 0)] })
  ∧ (∀ (s : State) (l : Fin 16) (v : Reg), s.Turns (R.LIN_LANE_CFG l.val) (F.LIN_LANE_CFG_ENABLE l.val) v false →
    Completes (.laneEnable l v) s fun t => t.src l.val = { num := l.val } ∧ t.bit (F.LIN_LANE_STATUS_SIGNAL l.val) = false
      ∧ t.bit (F.LIN_LANE_STATUS_CDR_LOCK l.val) = false ∧ t.bit (F.LIN_LANE_STATUS_DESCR_ON l.val) = false)
  ∧ (∀ (s : State) (n : Fin 256) (v : Reg), s.Turns (R.CK_CFG n.val) (F.CK_CFG_ENABLE n.val) v true →
    Completes (.unitEnable n v) s fun t => (t.cku n.val).held = [] ∧ (t.cku n.val).bytes = 0 ∧ (t.cku n.val).chain = none
      ∧ (t.cku n.val).tick = s.tick ∧ t.bit (F.CK_STATUS_OPEN n.val) = false ∧ t.ckPhase n.val = 0
      ∧ (t.cfg (F.CK_CFG_MODE n.val) = Mode.program → t.ckRun n.val = t.cfg (F.CK_INIT n.val) % 2 ^ t.ckWidth n.val))
  ∧ (∀ (s : State) (n : Fin 256) (v : Reg), s.Turns (R.CK_CFG n.val) (F.CK_CFG_ENABLE n.val) v false →
    Completes (.unitDisable n v) s fun t => (t.cku n.val).held = [] ∧ (t.cku n.val).bytes = 0
      ∧ t.bit (F.CK_STATUS_OPEN n.val) = false ∧ t.ckRun n.val = s.ckRun n.val
      ∧ ∀ i < 16, t.get (F.CK_DIG n.val i) = s.get (F.CK_DIG n.val i))
  ∧ (∀ (s : State) (n : Fin 16) (v : Reg), s.Turns (R.VOX_VP_CFG n.val) (F.VOX_VP_CFG_ENABLE n.val) v true →
    Completes (.vpEnable n v) s fun t => t.vpState n.val = VpSt.provisional ∧ t.bit (F.VOX_VP_STATUS_CLK_PRESENT n.val) = false
      ∧ ∃ p, t.vp n.val = some p ∧ p.frames = [] ∧ p.tx = [] ∧ p.svc = false ∧ p.rxGain.mode = .start ∧ p.txGain.mode = .start)
  ∧ (∀ (s : State) (n : Fin 16) (v : Reg), s.Turns (R.VOX_VP_CFG n.val) (F.VOX_VP_CFG_ENABLE n.val) v false →
      s.vpState n.val ≠ VpSt.off →
    Completes (.vpEnable n v) s fun t => t.vpState n.val = VpSt.off ∧ t.vp n.val = none)
  ∧ (∀ (s : State) (n : Fin 4096) (v : Reg), s.Turns (R.PRT_SEL_CFG n.val) (F.PRT_SEL_CFG_ENABLE n.val) v true → s.selOf n.val = none →
    Completes (.selectorEnable n v) s fun t => t.selOf n.val = some { num := n.val }
      ∧ t.bit (F.PRT_SEL_STATUS_SEL n.val) = false ∧ t.get (F.PRT_SEL_STATUS_REQ n.val) = 0)
  ∧ (∀ (s : State) (n : Fin 4096) (v : Reg), s.Turns (R.PRT_SEL_CFG n.val) (F.PRT_SEL_CFG_ENABLE n.val) v false →
    Completes (.selectorEnable n v) s fun t => t.selOf n.val = none)
  ∧ (∀ (s : State) (v : Reg), s.Turns R.EVT_CTRL F.EVT_CTRL_ENABLE v true →
    Completes (.evtEnable v) s fun t => t.get F.EVT_RING_HEAD_HEAD = 0 ∧ t.get F.EVT_RING_TAIL_TAIL = 0
      ∧ t.get F.EVT_RING_TAIL_LAP = 1 ∧ t.evt.seq = 0)
  ∧ (∀ (s : State) (v : Reg), s.Turns R.EVT_CTRL F.EVT_CTRL_ENABLE v false →
    Completes (.evtEnable v) s fun t => t.evt.overflow = false ∧ t.get F.EVT_RING_TAIL_TAIL = s.get F.EVT_RING_TAIL_TAIL)
  ∧ (∀ (s : State) (k : Fin 512) (v : Reg), s.Turns (R.REC_SRC_CFG k.val) (F.REC_SRC_CFG_EN k.val) v false →
    Completes (.recSourceEnable k v) s fun t => t.rec_.open_ = s.rec_.open_.filter (·.src ≠ k.val))
  ∧ (∀ (s : State) (v : Reg), s.Turns R.TAL_TAG_CFG F.TAL_TAG_CFG_TAG_EN v true →
    Completes (.tagEnable v) s fun t => t.tally.lfsr =
      ((List.range 96).filter fun e => bitOf (s.get (F.TAL_TAG_ENG (e / 32))) (e % 32)).map fun e => (e, s.cfg (F.TAL_TAG_SEED e)))
  ∧ (∀ (s : State) (v : Reg), s.Turns R.TAL_TAG_CFG F.TAL_TAG_CFG_TAG_EN v false →
    Completes (.tagEnable v) s fun t => t.tally.lfsr = [])

/-- Command bits of one register: `CTX_RD_SEL`, `RUN`, `SWAP`, `SERVICE`, `STOP`, discovery `CLEAR`, `UNBIND`, the vectors. -/
def Obligations.CommandBitsAct : Prop :=
  (∀ (s : State) (v : Reg), s.TakesWrite R.CTX_RD_SEL v → v.getLsbD 31 = true →
    Completes (.ctxRead v) s fun t =>
      ∀ i < 16, t.get (F.CTX_RD_HDR i) = bitsOf (s.chan (v.toNat % 2 ^ 14) (i / 2)) (32 * (i % 2)) 32)
  ∧ (∀ (s : State) (n : Fin 256) (v : Reg), s.HostActs → s.ckRunRefused n.val = false →
    Completes (.runLoHold n v) s fun t => (t.cku n.val).runLo = some v.toNat ∧ t.ckRun n.val = s.ckRun n.val)
  ∧ (∀ (s : State) (n : Fin 256) (v : Reg), s.HostActs → s.ckRunRefused n.val = false →
    Completes (.runLoad n v) s fun t => (t.cku n.val).runLo = none
      ∧ t.ckRun n.val = (v.toNat * 2 ^ 32 + (s.cku n.val).runLo.getD (s.ckRun n.val % 2 ^ 32)) % 2 ^ s.ckWidth n.val
      ∧ (s.cfg (F.CK_CFG_MODE n.val) = Mode.program → t.ckPhase n.val = 2))
  ∧ (∀ (s : State) (n : Fin 256) (v : Reg), s.HostActs → s.ckRunRefused n.val = true →
    Completes (.runLoHold n v) s (fun t => t.bit (F.CK_STICKY_RUN_REFUSED n.val) = true ∧ t.ckus = s.ckus ∧ Signalled 961 s t)
      ∧ Completes (.runLoad n v) s fun t => t.bit (F.CK_STICKY_RUN_REFUSED n.val) = true ∧ t.ckRun n.val = s.ckRun n.val
        ∧ Signalled 961 s t)
  ∧ (∀ (s : State) (n : Fin 256) (v : Reg), s.TakesWrite (R.CK_SWAP_CTRL n.val) v → v.getLsbD 0 = true →
    Completes (.swap n v) s fun t => t.ckRun n.val = s.get (F.CK_SWAP n.val) % 2 ^ s.ckWidth n.val
      ∧ t.get (F.CK_SWAP n.val) = s.ckRun n.val ∧ t.bit (F.CK_STICKY_SWAP_DONE n.val) = true
      ∧ t.bit (F.CK_STATUS_SWAP_PENDING n.val) = false)
  ∧ (∀ (s : State) (n : Fin 16) (v : Reg) (p : Vp), s.TakesWrite (R.VOX_VP_CTRL n.val) v → v.getLsbD 0 = true → v.getLsbD 1 = false →
      s.vp n.val = some p → s.vpState n.val = VpSt.provisional → s.vpClear n.val = true →
    Completes (.service n v) s fun t => t.vp n.val = some { p with svc := true } ∧ t.vpState n.val = VpSt.provisional)
  ∧ (∀ (s : State) (n : Fin 16) (v : Reg), s.TakesWrite (R.VOX_VP_CTRL n.val) v → v.getLsbD 0 = true → v.getLsbD 1 = false →
      (s.vpState n.val ≠ VpSt.provisional ∨ s.vpClear n.val = false) →
    Completes (.service n v) s fun t => t.bit (F.VOX_VP_STICKY_SERVICE_REFUSED n.val) = true ∧ t.vox = s.vox)
  ∧ (∀ (s : State) (n : Fin 16) (v : Reg) (p : Vp), s.TakesWrite (R.VOX_VP_CTRL n.val) v → v.getLsbD 0 = false → v.getLsbD 1 = true →
      s.vp n.val = some p → (s.vpState n.val = VpSt.provisional ∨ s.vpState n.val = VpSt.inService) →
    Completes (.stop n v) s fun t => t.vpState n.val = VpSt.stopping
      ∧ ∃ p', t.vp n.val = some p' ∧ p'.svc = false ∧ p'.aligned = decide (s.vpState n.val = VpSt.inService)
        ∧ p'.rxGain.mode = .down ∧ p'.txGain.mode = .down)
  ∧ (∀ (s : State) (k : Fin 64) (v : Reg), s.TakesWrite (R.LIN_DISC_CTRL k.val) v → v.getLsbD 1 = true →
      s.get (F.LIN_DISC_STATE_STATE k.val) = Disc.lost →
    Completes (.discClear k v) s fun t => t.get (F.LIN_DISC_STATE_STATE k.val) = Disc.absent
      ∧ t.bit (F.LIN_DISC_STATE_CHANGED k.val) = true ∧ Signalled (840 + k.val / 8) s t)
  ∧ (∀ (s : State) (k : Fin 64) (v : Reg), s.TakesWrite (R.LIN_DISC_CTRL k.val) v → v.getLsbD 1 = true →
      s.get (F.LIN_DISC_STATE_STATE k.val) ≠ Disc.lost →
    Completes (.discClear k v) s fun t => t.get (F.LIN_DISC_STATE_STATE k.val) = s.get (F.LIN_DISC_STATE_STATE k.val))
  ∧ (∀ (s : State) (v : Reg), s.TakesWrite R.HAL_CTRL v → v.getLsbD 0 = true →
    Completes (.unbind v) s fun t => t.halState = HalSt.unbound ∧ (s.halState ≠ HalSt.unbound → Signalled 834 s t))
  ∧ (∀ (s : State) (w : Fin 8) (v : Reg), s.TakesWrite (R.EVT_ARM w.val) v →
    Completes (.vectorArm w v) s fun t => t.get (F.EVT_ARM w.val) = s.get (F.EVT_ARM w.val) ||| v.toNat)

/-- The queue window: a queue is enabled empty, disabled with its words gone, flushed to its flush point; watermark bits clear.
A command whose condition does not hold leaves all but the pins as it is (the model's choice, log 26). -/
def Obligations.QueuesEnableFlushAndClear : Prop :=
  (∀ (s : State) (v : Reg), s.Turns (R.QUE_W_CFG s.shown) (F.QUE_W_CFG_ENABLE s.shown) v true → s.queue s.shown = none →
    Completes (.queueEnable v) s fun t => t.depth s.shown = 0 ∧ t.bit (F.QUE_W_STATUS_EMPTY s.shown) = true
      ∧ ∃ e, t.queue s.shown = some e ∧ e.words = [] ∧ e.flush = none
        ∧ e.gate = (if t.on (F.QUE_W_CFG_WRITER s.shown) then none
            else some (if s.ftcState = Ftc.disabled then s.get F.CLK_FTC_SET else s.tick + 1)))
  ∧ (∀ (s : State) (v : Reg), s.Turns (R.QUE_W_CFG s.shown) (F.QUE_W_CFG_ENABLE s.shown) v false →
    Completes (.queueDisable v) s fun t => t.queue s.shown = none ∧ t.bit (F.QUE_W_STATUS_EMPTY s.shown) = true
      ∧ t.bit (F.QUE_W_STATUS_FLUSH_PENDING s.shown) = false)
  ∧ (∀ (s : State) (v : Reg), s.HostActs → s.bit (F.QUE_W_CFG_ENABLE s.shown) = true → v.getLsbD 0 = false →
      s.queDisableRefused s.shown = true →
    Completes (.queueDisable v) s fun t => t.bit (F.QUE_W_CFG_ENABLE s.shown) = true ∧ t.queues = s.queues ∧ Signalled 961 s t)
  ∧ (∀ (s : State) (v : Reg) (e : Queue), s.TakesWrite (R.QUE_W_CTRL s.shown) v → v.getLsbD 0 = true → s.queue s.shown = some e →
      e.flush = none → e.flushWords = none →
    Completes (.queueFlush v) s fun t => t.bit (F.QUE_W_STATUS_FLUSH_PENDING s.shown) = true
      ∧ ∃ e', t.queue s.shown = some e' ∧ e'.words = e.words
        ∧ (e'.flush = some s.tick ∨ e'.flushWords = some e.words.length))
  ∧ (∀ (s : State) (q : Fin 32768) (e : Queue) (n : Nat), s.queue q.val = some e → e.flushWords = some n →
    Completes (.flushApply q) s fun t => t.bit (F.QUE_W_STATUS_FLUSH_PENDING q.val) = false
      ∧ ∃ e', t.queue q.val = some e' ∧ e'.words = e.words.drop n ∧ e'.bit = 0 ∧ e'.flushWords = none ∧ e'.gate = e.gate)
  ∧ (∀ (s : State) (q : Fin 32768) (e : Queue), s.queue q.val = some e → e.flushWords = none →
    Completes (.flushApply q) s fun t => t = { s with pins := s.pinsNow })
  ∧ (∀ (s : State) (v : Reg), s.TakesWrite (R.QUE_W_STICKY s.shown) v →
    Completes (.watermarkClear .sticky v) s fun t =>
      t.bit (F.QUE_W_STICKY_OVERRUN s.shown) = (s.bit (F.QUE_W_STICKY_OVERRUN s.shown) && !v.getLsbD 0)
        ∧ t.bit (F.QUE_W_STICKY_HI_SEEN s.shown) = (s.bit (F.QUE_W_STICKY_HI_SEEN s.shown) && !v.getLsbD 1)
        ∧ t.bit (F.QUE_W_STICKY_LO_SEEN s.shown) = (s.bit (F.QUE_W_STICKY_LO_SEEN s.shown) && !v.getLsbD 2)
        ∧ (v.getLsbD 1 = true → t.get (F.QUE_W_STICKY_HI_COUNT s.shown) = 0)
        ∧ (v.getLsbD 2 = true → t.get (F.QUE_W_STICKY_LO_COUNT s.shown) = 0)
        ∧ bitOf (t.get (F.QUE_WM (s.shown / 32))) (s.shown % 32)
            = (t.bit (F.QUE_W_STICKY_HI_SEEN s.shown) || t.bit (F.QUE_W_STICKY_LO_SEEN s.shown))
        ∧ t.queues = s.queues)
  ∧ (∀ (s : State) (k : Fin 1024) (v : Reg), s.TakesWrite (R.QUE_WM k.val) v →
    Completes (.watermarkClear (.wide k) v) s fun t => ∀ j < 32,
      bitOf (t.get (F.QUE_WM k.val)) j = (bitOf (s.get (F.QUE_WM k.val)) j && !v.getLsbD j)
        ∧ (v.getLsbD j = true → t.bit (F.QUE_W_STICKY_HI_SEEN (32 * k.val + j)) = false
            ∧ t.bit (F.QUE_W_STICKY_LO_SEEN (32 * k.val + j)) = false))

/-! ## Lines (chapter 8), service words and pass-through (chapters 9 and 10) -/

/-- Lane and port monitors: a condition stands from its loss to its return, with its sticky bit and its event; the elastic
stores count. A command whose condition does not hold leaves all but the pins as it is (the model's choice, log 26). -/
def Obligations.LineConditionsStandAndClear : Prop :=
  (∀ (s : State) (l : Fin 16), s.laneOn l.val = true →
    Completes (.laneSignalLoss l) s (fun t => t.stands l.val Sw.los = true ∧ t.bit (F.LIN_LANE_STATUS_SIGNAL l.val) = false
        ∧ t.bit (F.LIN_LANE_STICKY_LOS_SEEN l.val) = true ∧ (s.stands l.val Sw.los = false → Signalled (384 + l.val) s t)
        ∧ t.queues = s.queues)
      ∧ Completes (.laneLockLoss l) s (fun t => t.stands l.val Sw.clkFail = true
        ∧ t.bit (F.LIN_LANE_STATUS_CDR_LOCK l.val) = false ∧ t.bit (F.LIN_LANE_STATUS_PCS_LOCK l.val) = false
        ∧ t.bit (F.LIN_LANE_STICKY_LOL_SEEN l.val) = true
        ∧ (s.stands l.val Sw.clkFail = false → Signalled (384 + l.val) s t) ∧ t.queues = s.queues)
      ∧ Completes (.laneLockRegain l) s fun t => t.stands l.val Sw.clkFail = false ∧ t.stands l.val Sw.los = false
        ∧ t.bit (F.LIN_LANE_STATUS_SIGNAL l.val) = true ∧ t.bit (F.LIN_LANE_STATUS_CDR_LOCK l.val) = true
        ∧ t.bit (F.LIN_LANE_STATUS_PCS_LOCK l.val) = true)
  ∧ (∀ (s : State) (l : Fin 16), s.laneOn l.val = false → ∀ c ∈ [Instr.laneSignalLoss l, .laneLockLoss l, .laneLockRegain l],
    Completes c s fun t => t = { s with pins := s.pinsNow })
  ∧ (∀ (s : State) (d : Fin 32), s.dpWatched d.val = true → s.stands (srcDp d.val) Sw.clkFail = false →
    Completes (.dpClockStop d) s fun t => t.stands (srcDp d.val) Sw.clkFail = true
      ∧ t.bit (F.LIN_DP_STATUS_CLK_PRESENT d.val) = false ∧ t.bit (F.LIN_DP_STICKY_CLK_STOP d.val) = true
      ∧ Signalled (400 + d.val) s t)
  ∧ (∀ (s : State) (d : Fin 32), s.dpWatched d.val = true →
    Completes (.dpClockReturn d) s (fun t => t.stands (srcDp d.val) Sw.clkFail = false
        ∧ t.bit (F.LIN_DP_STATUS_CLK_PRESENT d.val) = true)
      ∧ Completes (.dpClockGlitch d) s fun t => bitOf (t.src (srcDp d.val)).seen Sw.glitch = true
        ∧ t.bit (F.LIN_DP_STICKY_GLITCH d.val) = true
        ∧ (bitOf (s.src (srcDp d.val)).seen Sw.glitch = false → Signalled (400 + d.val) s t))
  ∧ (∀ (s : State) (d : Fin 32) (edges : Nat), s.dpWatched d.val = true → s.stands (srcDp d.val) Sw.clkFail = false →
    Completes (.dpRateWindow d edges) s fun t =>
      t.get (F.LIN_DP_STATUS_MEASURED d.val) = Nat.min (edges * 500 / s.cfg (F.LIN_DP_CFG_RATE_WIN d.val)) (2 ^ 24 - 1)
        ∧ t.bit (F.LIN_DP_STATUS_RATE_OK d.val) = !rateBad (s.cfg (F.LIN_DP_RATE_NOMINAL d.val))
            (s.cfg (F.LIN_DP_CFG_RATE_WIN d.val)) (s.cfg (F.LIN_DP_RATE_RATE_TOL d.val)) edges
        ∧ (t.bit (F.LIN_DP_STATUS_RATE_OK d.val) = false → t.bit (F.LIN_DP_STICKY_RATE d.val) = true ∧ Signalled (400 + d.val) s t
            ∧ t.stands (srcDp d.val) Sw.rate = true))
  ∧ (∀ (s : State) (d : Fin 32) (edges : Nat), s.dpWatched d.val = false →
      ∀ c ∈ [Instr.dpClockStop d, .dpClockReturn d, .dpClockGlitch d, .dpRateWindow d edges],
    Completes c s fun t => t = { s with pins := s.pinsNow })
  ∧ (∀ (s : State) (l : Fin 16), s.txOn l.val = true →
    Completes (.txUnderrun (.lane l)) s (fun t => t.out = .txFill l.val :: s.out
        ∧ t.get (F.LIN_LANE_TXERR_TX_UNDERRUN l.val)
            = (s.get (F.LIN_LANE_TXERR_TX_UNDERRUN l.val) + 1) % 2 ^ (F.LIN_LANE_TXERR_TX_UNDERRUN l.val).w
        ∧ t.bit (F.LIN_LANE_STICKY_TXU_SEEN l.val) = true)
      ∧ Completes (.txOverrun (.lane l)) s fun t => t.out = .txExcess l.val :: s.out
        ∧ t.get (F.LIN_LANE_TXERR_TX_OVERRUN l.val)
            = (s.get (F.LIN_LANE_TXERR_TX_OVERRUN l.val) + 1) % 2 ^ (F.LIN_LANE_TXERR_TX_OVERRUN l.val).w
        ∧ t.bit (F.LIN_LANE_STICKY_TXO_SEEN l.val) = true)
  ∧ (∀ (s : State) (d : Fin 32), s.txOn (srcDp d.val) = true →
    Completes (.txUnderrun (.dp d)) s (fun t => t.out = .txFill (srcDp d.val) :: s.out
        ∧ t.bit (F.LIN_DP_STICKY_TXU_SEEN d.val) = true)
      ∧ Completes (.txOverrun (.dp d)) s fun t => t.out = .txExcess (srcDp d.val) :: s.out
        ∧ t.bit (F.LIN_DP_STICKY_TXO_SEEN d.val) = true)
  ∧ (∀ (s : State) (p : TxPort), s.txOn (txNum p) = false → ∀ c ∈ [Instr.txUnderrun p, .txOverrun p],
    Completes c s fun t => t = { s with pins := s.pinsNow })

/-- Ethernet frames with good FCS reach the queues of their stream whole, stamped with this tick; bad ones are counted. Bundles
find and lose their alignment; a transmit frame holds what it is given, scrambled. A command whose condition does not hold
leaves all but the pins as it is (the model's choice, log 26). The form of the bundle scrambler is the model's reading (log
20). -/
def Obligations.FramesAndBundlesMove : Prop :=
  (∀ (s : State) (l : Fin 16) (body : List Byte) (m : Nat) (e : Queue), m = s.macLane l.val → s.laneOn m = true →
      isEth (s.laneMode m) = true → s.stands m Sw.clkFail = false → s.ftcState ≠ Ftc.disabled →
      s.cfg (F.LIN_LANE_CFG_LOOPBACK m) ≠ 1 → s.ledgerMode = false → s.lin.logging = false → 14 ≤ body.length →
      body.length + 4 ≤ s.cfg (F.LIN_LANE_CFG_MAX_LEN m) →
      beNat ((body.drop 12).take 2) ∉ [0x8100, 0x8808, s.cfg F.LIN_DISC_CFG_ETYPE] → s.on (F.LIN_LANE_CFG_UNTAGGED_EN m) = true →
      s.cfg F.MAP_PW_CLASS_SID ≠ s.cfg (F.LIN_LANE_SID_SID m) → (s.queues.map (·.num)).Nodup → e ∈ s.queues →
      s.on (F.QUE_W_CFG_WRITER e.num) = false → s.cfg (F.QUE_W_CFG_SID e.num) = s.cfg (F.LIN_LANE_SID_SID m) →
      e.accept ≤ s.tick → e.flush = none → s.cfg (F.QUE_W_CFG_READER e.num) ≠ Reader.release →
      e.words.length + (body.length + 7) / 8 ≤ s.capacity e.num →
    Completes (.ethernetFrameReceive l (body ++ leBytes 4 (crc32 body))) s fun t => ∃ e', t.queue e.num = some e'
      ∧ e'.words = e.words ++ (packetOf body).map fun w => { data := w.data, tag := w.tag, arr := s.tick })
  ∧ (∀ (s : State) (l : Fin 16) (f : List Byte) (m : Nat), m = s.macLane l.val → s.laneOn m = true →
      isEth (s.laneMode m) = true → s.stands m Sw.clkFail = false → s.ftcState ≠ Ftc.disabled →
      s.cfg (F.LIN_LANE_CFG_LOOPBACK m) ≠ 1 → s.ledgerMode = false →
      (f.length < 18 ∨ s.cfg (F.LIN_LANE_CFG_MAX_LEN m) < f.length ∨ crc32 (f.take (f.length - 4)) ≠ leNat (f.drop (f.length - 4))) →
    Completes (.ethernetFrameReceive l f) s fun t => t.queues = s.queues
      ∧ t.get (F.LIN_LANE_RXDISC m) = (s.get (F.LIN_LANE_RXDISC m) + 1) % 2 ^ (F.LIN_LANE_RXDISC m).w)
  ∧ (∀ (s : State) (l : Fin 16) (f : List Byte), s.laneOn (s.macLane l.val) = false →
    Completes (.ethernetFrameReceive l f) s fun t => t = { s with pins := s.pinsNow })
  ∧ (∀ (s : State) (b : Fin 8) (f : List Byte), s.on (F.LIN_BUND_CFG_ENABLE b.val) = true → s.ftcState ≠ Ftc.disabled →
      s.ledgerMode = false → f.take 6 ≠ [0xB8, 0xB8, 0xB8, 0x47, 0x47, 0x47] →
    Completes (.bundleFrameReceive b f) s fun t => (t.bund b.val).bad = (s.bund b.val).bad + 1 ∧ (t.bund b.val).good = 0
      ∧ (s.bit (F.LIN_BUND_STATUS_IN_FRAME b.val) = true → 3 ≤ (s.bund b.val).bad →
          t.bit (F.LIN_BUND_STATUS_IN_FRAME b.val) = false ∧ Signalled (432 + b.val) s t)
      ∧ (s.bit (F.LIN_BUND_STATUS_IN_FRAME b.val) = true → (s.bund b.val).bad < 3 →
          t.bit (F.LIN_BUND_STATUS_IN_FRAME b.val) = true)
      ∧ (s.bit (F.LIN_BUND_STATUS_IN_FRAME b.val) = false → t.bit (F.LIN_BUND_STATUS_IN_FRAME b.val) = (decide (2 ≤ (t.bund b.val).good))))
  ∧ (∀ (s : State) (b : Fin 8) (f : List Byte), s.on (F.LIN_BUND_CFG_ENABLE b.val) = true → s.ftcState ≠ Ftc.disabled →
      s.ledgerMode = false → f.take 6 = [0xB8, 0xB8, 0xB8, 0x47, 0x47, 0x47] → 1 ≤ (s.bund b.val).good →
      s.bit (F.LIN_BUND_STATUS_IN_FRAME b.val) = false →
    Completes (.bundleFrameReceive b f) s fun t => t.bit (F.LIN_BUND_STATUS_IN_FRAME b.val) = true ∧ Signalled (432 + b.val) s t)
  ∧ (∀ (s : State) (b : Fin 8) (status : Byte) (mgmt : List Byte) (slots : List (List Bool)), s.txOn (48 + b.val) = true →
    Completes (.bundleFrameTransmit b status mgmt slots) s fun t => ∃ f : List Byte, t.out = .bundle b.val (bundWire f) :: s.out
      ∧ f.length = 4860 ∧ f.take 6 = [0xB8, 0xB8, 0xB8, 0x47, 0x47, 0x47] ∧ f.getD 6 0 = BitVec.ofNat 8 (s.bund b.val).count
      ∧ f.getD 7 0 = status ∧ (∀ i < 64, f.getD (8 + i) 0 = mgmt.getD i 0)
      ∧ (∀ j < 126, (f.drop (72 + 38 * j)).take 38
          = bundSlotBytes (if s.on (F.LIN_BTRIB_EN b.val j) then slots.getD j [] else []))
      ∧ (t.bund b.val).count = ((s.bund b.val).count + 1) % 256)
  ∧ (∀ (s : State) (b : Fin 8) (status : Byte) (mgmt : List Byte) (slots : List (List Bool)), s.txOn (48 + b.val) = false →
    Completes (.bundleFrameTransmit b status mgmt slots) s fun t => t = { s with pins := s.pinsNow })

/-- Service words set a lane's frame phase and a direct port's rate, clamped at 1,000 ppm; pass-through entries take effect,
and their pointer adjustments are counted. A command whose condition does not hold leaves all but the pins as it is (the
model's choice, log 26). -/
def Obligations.ServiceWordsAndPassThrough : Prop :=
  (∀ (s : State) (w : Word) (l n pos : Nat), s.on F.DEF_CTRL_ENABLE = true → s.laneOfSid (bitsOf w.toNat 16 14) = some l →
      tickOf s.tick (bitsOf w.toNat 0 16) = some n → frameBits (s.laneMode l) ≠ 0 → bitsOf w.toNat 54 6 = 0 →
      s.svcLater l 16384 = false → (s.src l).starts.find? (·.1 = n) = some (n, pos) →
    (bitsOf w.toNat 60 4 = 1 → Completes (.setPhase w) s fun t =>
        (t.descr l).wait = some (s.tick, some ((pos + bitsOf w.toNat 30 24) % frameBits (s.laneMode l)))
          ∧ (t.descr l).phase = (s.descr l).phase ∧ t.get F.DEF_SVC_COUNT = (s.get F.DEF_SVC_COUNT + 1) % 2 ^ F.DEF_SVC_COUNT.w)
      ∧ (bitsOf w.toNat 60 4 = 2 → Completes (.resetPhase w) s fun t => (t.descr l).wait = some (s.tick, none)
          ∧ (t.descr l).phase = (s.descr l).phase ∧ t.get F.DEF_SVC_COUNT = (s.get F.DEF_SVC_COUNT + 1) % 2 ^ F.DEF_SVC_COUNT.w))
  ∧ (∀ (s : State) (w : Word), s.on F.DEF_CTRL_ENABLE = true →
      (s.laneOfSid (bitsOf w.toNat 16 14) = none ∨ tickOf s.tick (bitsOf w.toNat 0 16) = none ∨ bitsOf w.toNat 54 6 ≠ 0) →
    (bitsOf w.toNat 60 4 = 1 → Completes (.setPhase w) s fun t => t.lin = s.lin ∧ t.bit F.DEF_STICKY_SVC_REJECT = true
        ∧ t.get F.DEF_SVC_REJECTS = (s.get F.DEF_SVC_REJECTS + 1) % 2 ^ F.DEF_SVC_REJECTS.w)
      ∧ (bitsOf w.toNat 60 4 = 2 → Completes (.resetPhase w) s fun t => t.lin = s.lin ∧ t.bit F.DEF_STICKY_SVC_REJECT = true
        ∧ t.get F.DEF_SVC_REJECTS = (s.get F.DEF_SVC_REJECTS + 1) % 2 ^ F.DEF_SVC_REJECTS.w))
  ∧ (∀ (s : State) (w : Word), s.on F.DEF_CTRL_ENABLE = false →
    (bitsOf w.toNat 60 4 = 1 → Completes (.setPhase w) s fun t => t.lin = s.lin ∧ t.bit F.DEF_STICKY_SVC_DROPPED = true)
      ∧ (bitsOf w.toNat 60 4 = 2 → Completes (.resetPhase w) s fun t => t.lin = s.lin ∧ t.bit F.DEF_STICKY_SVC_DROPPED = true))
  ∧ (∀ (s : State) (w : Word) (d : Nat), d = bitsOf w.toNat 54 5 → s.on F.MAP_CTRL_ENABLE = true → bitsOf w.toNat 60 4 = 1 →
      bitOf w.toNat 59 = false → bitsOf w.toNat 29 25 = 0 → s.cfg (F.LIN_DP_CFG_TXCLK d) = 1 → s.svcLater (srcDp d) 16384 = false →
    Completes (.setRate w) s fun t => t.get (F.MAP_DPRATE_RATE d) = clampRate (s.cfg (F.LIN_DP_RATE_NOMINAL d)) (bitsOf w.toNat 0 29)
      ∧ (t.get (F.MAP_DPRATE_RATE d) ≠ bitsOf w.toNat 0 29 → t.bit F.MAP_STICKY_RATE_CLAMPED = true))
  ∧ (∀ (s : State) (w : Word), s.on F.MAP_CTRL_ENABLE = true →
      (bitsOf w.toNat 60 4 ≠ 1 ∨ bitOf w.toNat 59 = true ∨ bitsOf w.toNat 29 25 ≠ 0
        ∨ s.cfg (F.LIN_DP_CFG_TXCLK (bitsOf w.toNat 54 5)) ≠ 1) →
    Completes (.setRate w) s fun t => (∀ d < 32, t.get (F.MAP_DPRATE_RATE d) = s.get (F.MAP_DPRATE_RATE d))
      ∧ t.bit F.MAP_STICKY_SVC_REJECT = true
      ∧ t.get F.MAP_SVC_REJECTS = (s.get F.MAP_SVC_REJECTS + 1) % 2 ^ F.MAP_SVC_REJECTS.w)
  ∧ (∀ (s : State) (n : Fin 1024), (∀ p ∈ s.map.pass, p.slot = n.val → p.entry ≠ s.xcEntry n.val) → xcPt (s.xcEntry n.val) = true →
    Completes (.xcChange n) s fun t => t.bit (F.MAP_PT_STATUS_VALID n.val) = true
      ∧ t.map.pass.find? (·.slot = n.val) = some { slot := n.val, entry := s.xcEntry n.val }
      ∧ t.get (F.MAP_PT_STATUS_STATE n.val)
          = (if (s.descr (xcLane (s.xcEntry n.val))).phase.isSome then Pt.ais else Pt.ssf)
      ∧ (∀ p ∈ s.map.pass, p.slot ≠ n.val → p ∈ t.map.pass))
  ∧ (∀ (s : State) (n : Fin 1024), (∀ p ∈ s.map.pass, p.slot = n.val → p.entry ≠ s.xcEntry n.val) → xcPt (s.xcEntry n.val) = false →
    Completes (.xcChange n) s fun t => t.bit (F.MAP_PT_STATUS_VALID n.val) = false
      ∧ t.map.pass = s.map.pass.filter (·.slot ≠ n.val))
  ∧ (∀ (s : State) (n : Fin 1024) (p : Pass), p ∈ s.map.pass → p.slot = n.val →
    Completes (.ptPointerAdjust n .inc) s (fun t => t.get (F.MAP_PT_STATUS_ADJ n.val) = (s.get (F.MAP_PT_STATUS_ADJ n.val) + 1) % 256)
      ∧ Completes (.ptPointerAdjust n .dec) s (fun t =>
        t.get (F.MAP_PT_STATUS_ADJ n.val) = (s.get (F.MAP_PT_STATUS_ADJ n.val) + 1) % 256)
      ∧ Completes (.ptPointerAdjust n .recentre) s fun t => t.bit F.MAP_STICKY_PT_SLIP = true ∧ t.map = s.map)
  ∧ (∀ (s : State) (n : Fin 1024) (a : PtAdjust), (∀ p ∈ s.map.pass, p.slot ≠ n.val) →
    Completes (.ptPointerAdjust n a) s fun t => t = { s with pins := s.pinsNow })

/-- The discovery agent: hails, presence states by the messages that arrive, violations, and silence. A command whose condition
does not hold leaves all but the pins as it is (the model's choice, log 26). -/
def Obligations.DiscoveryFollowsMessages : Prop :=
  (∀ s : State, s.cfg F.LIN_DISC_CFG_HAIL_PER ≤ s.lin.hail →
    Completes .discoveryHailTimer s fun t => t.lin.hail = 0
      ∧ ∀ k < 64, s.on (F.LIN_DISC_CTRL_EN k) = true →
          (t.disc k).seq = some (s.disc k).next ∧ (t.disc k).next = ((s.disc k).next + 1) % 65536)
  ∧ (∀ s : State, s.lin.hail < s.cfg F.LIN_DISC_CFG_HAIL_PER →
    Completes .discoveryHailTimer s fun t => t = { s with pins := s.pinsNow })
  ∧ (∀ (s : State) (k : Fin 64) (m : DiscMsg), s.on (F.LIN_DISC_CTRL_EN k.val) = true → s.quarantined (.line k) = false →
      m.bad = false → (s.peer (.line k)).msgs < s.cfg (F.HAL_VIOL_CFG_RATE 0) → m.w1.toNat ≠ s.burgee →
    (m.ty = 1 → (s.get (F.LIN_DISC_STATE_STATE k.val) = Disc.absent ∨ s.get (F.LIN_DISC_STATE_STATE k.val) = Disc.lost) →
        Completes (.lineHail k m) s fun t => t.get (F.LIN_DISC_STATE_STATE k.val) = Disc.seen
          ∧ t.get (F.LIN_DISC_BURGEE k.val) = m.w1.toNat ∧ t.get (F.LIN_DISC_STATE_PEER_PORT k.val) = m.port
          ∧ t.get (F.LIN_DISC_STATE_PEER_CAPS k.val) = m.caps ∧ t.bit (F.LIN_DISC_STATE_CHANGED k.val) = true
          ∧ (t.disc k.val).silent = 0 ∧ Signalled (840 + k.val / 8) s t)
      ∧ (m.ty = 1 → s.get (F.LIN_DISC_STATE_STATE k.val) = Disc.paired →
        Completes (.lineHail k m) s fun t => (t.disc k.val).silent = 0
          ∧ t.get (F.LIN_DISC_STATE_STATE k.val) = (if m.w1.toNat = s.get (F.LIN_DISC_BURGEE k.val) then Disc.paired else Disc.seen))
      ∧ (m.ty = 2 → (s.disc k.val).seq = some m.echoSeq → m.echoPort = s.cfg (F.LIN_DISC_CTRL_PORT k.val) →
          s.get (F.LIN_DISC_STATE_STATE k.val) = Disc.seen →
        Completes (.lineAnsweringPennant k m) s fun t => t.get (F.LIN_DISC_STATE_STATE k.val) = Disc.paired
          ∧ t.get (F.LIN_DISC_BURGEE k.val) = m.w1.toNat ∧ (t.disc k.val).silent = 0 ∧ Signalled (840 + k.val / 8) s t)
      ∧ (m.ty = 2 → s.discEchoes k.val m = false →
        Completes (.lineAnsweringPennant k m) s fun t => t.lin = s.lin
          ∧ t.get (F.LIN_DISC_STATE_STATE k.val) = s.get (F.LIN_DISC_STATE_STATE k.val)
          ∧ Counted 0 Viol.sequence s t)
      ∧ (m.ty = 3 → s.get (F.LIN_DISC_STATE_STATE k.val) = Disc.paired →
        Completes (.negativeAnsweringPennant k m) s fun t => t.get (F.LIN_DISC_STATE_STATE k.val) = Disc.seen
          ∧ t.bit (F.LIN_DISC_STATE_NEG_SEEN k.val) = true)
      ∧ (m.ty = 3 → s.get (F.LIN_DISC_STATE_STATE k.val) ≠ Disc.paired →
        Completes (.negativeAnsweringPennant k m) s fun t => t.regs = s.regs ∧ t.lin = s.lin))
  ∧ (∀ (s : State) (k : Fin 64) (m : DiscMsg) (c : Instr), s.on (F.LIN_DISC_CTRL_EN k.val) = true →
      s.quarantined (.line k) = false → m.bad = true →
      (c = .lineHail k m ∧ m.ty ≠ 2 ∧ m.ty ≠ 3 ∨ c = .lineAnsweringPennant k m ∧ m.ty = 2
        ∨ c = .negativeAnsweringPennant k m ∧ m.ty = 3) →
    Completes c s fun t => t.lin = s.lin ∧ t.get (F.LIN_DISC_STATE_STATE k.val) = s.get (F.LIN_DISC_STATE_STATE k.val)
      ∧ Counted 0 Viol.malformed s t)
  ∧ (∀ (s : State) (k : Fin 64) (m : DiscMsg) (c : Instr), s.quarantined (.line k) = true →
      c ∈ [.lineHail k m, .lineAnsweringPennant k m, .negativeAnsweringPennant k m] →
    Completes c s fun t => t.lin = s.lin ∧ t.regs = s.regs)
  ∧ (∀ (s : State) (k : Fin 64), 3 * s.cfg F.LIN_DISC_CFG_HAIL_PER ≤ (s.disc k.val).silent →
      (s.get (F.LIN_DISC_STATE_STATE k.val) = Disc.seen ∨ s.get (F.LIN_DISC_STATE_STATE k.val) = Disc.paired) →
    Completes (.discoveryTimeout k) s fun t => t.get (F.LIN_DISC_STATE_STATE k.val) = Disc.lost
      ∧ t.bit (F.LIN_DISC_STATE_CHANGED k.val) = true ∧ Signalled (840 + k.val / 8) s t)
  ∧ (∀ (s : State) (k : Fin 64), (s.disc k.val).silent < 3 * s.cfg F.LIN_DISC_CFG_HAIL_PER →
    Completes (.discoveryTimeout k) s fun t => t = { s with pins := s.pinsNow })

/-! ## Voice ports (chapter 13) and selectors (chapter 14) -/

/-- Voice ports: clock conditions, receive frames, transmit blocks and frames, the end of a stop; the crossconnect; the end of
a selector's wait to restore. A command whose condition does not hold leaves all but the pins as it is (the model's choice, log
26). -/
def Obligations.VoicePortsAndSelectors : Prop :=
  (∀ (s : State) (n : Fin 16), s.vpWatched n.val = true →
    Completes (.vpClockStop n) s (fun t => t.bit (F.VOX_VP_STATUS_CLK_PRESENT n.val) = false
        ∧ t.bit (F.VOX_VP_STICKY_CLK_STOP n.val) = true ∧ Signalled (704 + n.val) s t
        ∧ t.vpState n.val = (if s.vpState n.val = VpSt.inService then VpSt.provisional else s.vpState n.val))
      ∧ Completes (.vpClockReturn n) s (fun t => t.bit (F.VOX_VP_STATUS_CLK_PRESENT n.val) = true ∧ t.vox = s.vox)
      ∧ Completes (.vpClockGlitch n) s fun t => t.bit (F.VOX_VP_STICKY_GLITCH n.val) = true
        ∧ t.vpState n.val = (if s.vpState n.val = VpSt.inService then VpSt.provisional else s.vpState n.val)
        ∧ ((∀ p, s.vp n.val = some p → p.glitched ≠ some s.tick) → Signalled (704 + n.val) s t))
  ∧ (∀ (s : State) (n : Fin 16) (count : Nat) (p : Vp), s.vp n.val = some p → s.vpMaster n.val = false → p.stopped = false →
    Completes (.vpRateResult n count) s fun t =>
      t.get (F.VOX_VP_RATE_MEAS n.val) = 16 * count * s.xinHz / (s.cfg (F.VOX_VP_RATE_GATE n.val) * s.vpBits n.val) % 2 ^ 20
        ∧ t.bit (F.VOX_VP_STATUS_RATE_OK n.val) = !s.vpRateBad n.val count
        ∧ (s.vpRateBad n.val count = true → t.bit (F.VOX_VP_STICKY_RATE n.val) = true ∧ Signalled (704 + n.val) s t
          ∧ t.vpState n.val = (if s.vpState n.val = VpSt.inService then VpSt.provisional else s.vpState n.val)))
  ∧ (∀ (s : State) (n : Fin 16) (count : Nat) (p : Vp), s.vp n.val = some p → s.vpMaster n.val = false → p.stopped = true →
    Completes (.vpRateResult n count) s fun t => t.regs = s.regs)
  ∧ (∀ (s : State) (n : Fin 16) (f : VoiceFrame) (p : Vp), s.vp n.val = some p → s.ledgerMode = false →
      s.on (F.VOX_VP_CFG_PATH n.val) = false → s.on (F.VOX_VP_CFG_RAMP_RX n.val) = false → p.svc = false →
      p.mask = s.cfg (F.VOX_VP_MASK n.val) → (s.vpMaster n.val = true ∨ f.fsOk = true) →
      p.frames.length < s.cfg (F.VOX_VP_CFG_BLOCK_FRAMES n.val) →
    Completes (.vpRxFrame n f) s fun t => (∃ p', t.vp n.val = some p'
        ∧ p'.frames = p.frames ++ [f.samples.take (s.vpSlots n.val)] ∧ p'.lastTick = s.tick ∧ p'.seq = p.seq
        ∧ p'.start = (if p.frames = [] then f.start.toNat else p.start))
      ∧ t.vpState n.val = s.vpState n.val ∧ t.queues = s.queues
      ∧ (s.vpMaster n.val = false → 15 ≤ p.fsGood → t.bit (F.VOX_VP_STATUS_FS_LOCK n.val) = true))
  ∧ (∀ (s : State) (n : Fin 16) (f : VoiceFrame) (p : Vp), s.vp n.val = some p → s.ledgerMode = false → s.vpMaster n.val = false →
      f.fsOk = false → s.bit (F.VOX_VP_STATUS_FS_LOCK n.val) = true →
    Completes (.vpRxFrame n f) s fun t => t.bit (F.VOX_VP_STATUS_FS_LOCK n.val) = false
      ∧ t.bit (F.VOX_VP_STICKY_FS_ERR n.val) = true ∧ ∃ p', t.vp n.val = some p' ∧ p'.frames = [] ∧ p'.fsGood = 0)
  ∧ (∀ (s : State) (n : Fin 16) (ws : List TWord) (p : Vp), s.vp n.val = some p → s.on (F.VOX_VP_CFG_PATH n.val) = false →
      s.vpFrames n.val ws = none →
    Completes (.vpTxBlock n ws) s fun t => t.vox = s.vox ∧ t.bit (F.VOX_VP_STICKY_TX_BAD_BLOCK n.val) = true
      ∧ t.get (F.VOX_VP_TXBAD n.val) = (s.get (F.VOX_VP_TXBAD n.val) + 1) % 2 ^ (F.VOX_VP_TXBAD n.val).w)
  ∧ (∀ (s : State) (n : Fin 16) (ws : List TWord) (p : Vp) (fs : List (List (BitVec 32))), s.vp n.val = some p →
      s.on (F.VOX_VP_CFG_PATH n.val) = false → s.vpFrames n.val ws = some fs →
      p.tx.length + fs.length * s.vpSlots n.val ≤ s.cfg (F.VOX_VP_TXCFG_TX_DEPTH n.val) * s.vpSlots n.val →
    Completes (.vpTxBlock n ws) s fun t => t.vp n.val = some { p with tx := p.tx ++ fs.flatten })
  ∧ (∀ (s : State) (n : Fin 16) (p : Vp), s.vp n.val = some p → s.on (F.VOX_VP_CFG_PATH n.val) = false → p.started = true →
      s.on (F.VOX_VP_CFG_RAMP_TX n.val) = false → s.squelched = false →
    (s.vpSlots n.val ≤ p.tx.length → Completes (.vpTxFrame n) s fun t =>
        t.out = .voice n.val (p.tx.take (s.vpSlots n.val)) :: s.out
          ∧ ∃ p', t.vp n.val = some p' ∧ p'.tx = p.tx.drop (s.vpSlots n.val) ∧ p'.frames = p.frames)
      ∧ (p.tx.length < s.vpSlots n.val → s.vpState n.val = VpSt.inService → Completes (.vpTxFrame n) s fun t =>
        t.out = .voice n.val (s.vpSilence n.val) :: s.out ∧ t.bit (F.VOX_VP_STICKY_UNDERRUN n.val) = true
          ∧ t.get (F.VOX_VP_XRUN_UNDER n.val) = (s.get (F.VOX_VP_XRUN_UNDER n.val) + 1) % 2 ^ (F.VOX_VP_XRUN_UNDER n.val).w
          ∧ ∃ p', t.vp n.val = some p' ∧ p'.tx = p.tx))
  ∧ (∀ (s : State) (n : Fin 16) (p : Vp), s.vp n.val = some p → s.vpState n.val = VpSt.stopping →
      (s.on (F.VOX_VP_CFG_RAMP_TX n.val) = true → p.txGain.mode = .down ∧ s.rampK n.val < p.txGain.att) →
      (s.on (F.VOX_VP_CFG_RAMP_RX n.val) = true → p.rxGain.mode = .down ∧ s.rampK n.val < p.rxGain.att) →
    Completes (.rampDownEnd n) s fun t => t.vpState n.val = VpSt.off ∧ t.vp n.val = none
      ∧ t.bit (F.VOX_VP_CFG_ENABLE n.val) = false ∧ Signalled (704 + n.val) s t)
  ∧ (∀ (s : State) (n : Fin 16) (f : VoiceFrame) (ws : List TWord) (count : Nat), s.vp n.val = none →
      ∀ c ∈ [Instr.vpClockStop n, .vpClockReturn n, .vpClockGlitch n, .vpRateResult n count, .vpRxFrame n f, .vpTxBlock n ws,
        .vpTxFrame n, .rampDownEnd n],
    Completes c s fun t => t = { s with pins := s.pinsNow })
  ∧ (∀ s : State, s.ftcState ≠ Ftc.disabled → s.vox.emitted ≠ some s.tick →
    Completes .xcBundleEmit s fun t => t.vox.emitted = some s.tick
      ∧ ∀ n < 16, ∀ p f r, s.on (F.VOX_VP_CFG_PATH n) = true → s.vp n = some p → p.rxRun = true → p.rxStore = f :: r →
          ∃ p', t.vp n = some p' ∧ p'.rxStore = r ∧ p'.rxLast = f)
  ∧ (∀ s : State, (s.ftcState = Ftc.disabled ∨ s.vox.emitted = some s.tick) →
    Completes .xcBundleEmit s fun t => t = { s with pins := s.pinsNow })
  ∧ (∀ (s : State) (b : Nat) (e : Queue), s.ftcState ≠ Ftc.disabled → s.vox.emitted ≠ some s.tick → s.lin.logging = false → b < 64 →
      (∀ d < 64, s.on (F.VOX_VB_CFG_EN d) = decide (d = b)) → (∀ j < 32, s.xcOk (32 * b + j) = false) →
      s.cfg F.MAP_PW_CLASS_SID ≠ s.cfg (F.VOX_VB_SID_RX_SID b) → (s.queues.map (·.num)).Nodup → e ∈ s.queues →
      s.on (F.QUE_W_CFG_WRITER e.num) = false → s.cfg (F.QUE_W_CFG_SID e.num) = s.cfg (F.VOX_VB_SID_RX_SID b) →
      e.accept ≤ s.tick → e.flush = none → s.cfg (F.QUE_W_CFG_READER e.num) ≠ Reader.release →
      e.words.length + 4 ≤ s.capacity e.num →
    Completes .xcBundleEmit s fun t => ∃ e', t.queue e.num = some e' ∧ e'.words = e.words ++ List.replicate 4
      { data := if s.on (F.VOX_VB_CFG_LAW b) then 0xFFFFFFFFFFFFFFFF else 0xD5D5D5D5D5D5D5D5, tag := 0, arr := s.tick })
  ∧ (∀ (s : State) (n : Fin 4096) (e : Sel) (a : Nat), s.selOf n.val = some e → e.wtr = some a →
      s.cfg (F.PRT_SEL_CFG_WTR n.val) * 8000 ≤ a →
    Completes (.selectorWtrExpiry n) s fun t => t.bit (F.PRT_SEL_STATUS_SEL n.val) = false
      ∧ t.bit (F.PRT_SEL_STATUS_WTR_RUN n.val) = false ∧ t.get (F.PRT_SEL_STATUS_REQ n.val) = 0
      ∧ t.bit (F.PRT_SEL_STATUS_SWITCHED n.val) = true ∧ bitOf (t.get (F.PRT_SW (n.val / 32))) (n.val % 32) = true
      ∧ t.selOf n.val = some { e with wtr := none, byFail := false })
  ∧ (∀ (s : State) (n : Fin 4096) (e : Sel), s.selOf n.val = some e → e.wtr = none →
    Completes (.selectorWtrExpiry n) s fun t => t = { s with pins := s.pinsNow })

/-! ## Pair mode (chapter 14) -/

/-- Pair mode starts and stops on command; heartbeats settle the roles and show the peer; losses, the guard and claims act. A
command whose condition does not hold leaves all but the pins as it is (the model's choice, log 26). -/
def Obligations.HeartbeatsAndClaimsSettleRoles : Prop :=
  (∀ (s : State) (n : Fin 16) (c : Cmd), s.MayRun 0x30 0 c → c.src = .slot n.val → s.pairState = PairSt.off →
      s.bit F.CLK_FTC_CTRL_ENABLE = false → s.on (F.HAL_H_CFG_ENABLE 0) = true →
    Completes .pairStart s fun t => t.pairState = PairSt.starting ∧ InExecution c s.tick t ∧ Signalled 800 s t)
  ∧ (∀ (s : State) (n : Fin 16) (c : Cmd), s.MayRun 0x30 0 c → c.src = .slot n.val → s.pairState ≠ PairSt.off →
    Completes .pairStart s fun t => t.pair = s.pair ∧ t.pairState = s.pairState ∧ ClosedUp n.val c Rc.refused t)
  ∧ (∀ (s : State) (n : Fin 16) (c : Cmd), s.MayRun 0x33 0 c → c.src = .slot n.val →
    (s.pairState ∉ [PairSt.off, PairSt.active] → Completes .pairStop s fun t => t.pairState = PairSt.stopped ∧ ClosedUp n.val c 0 t)
      ∧ (s.pairState ∈ [PairSt.off, PairSt.active] →
        Completes .pairStop s fun t => t.pairState = s.pairState ∧ ClosedUp n.val c Rc.refused t))
  ∧ (∀ (s : State) (g : Bool), s.pairState ≠ PairSt.off → (s.ftcState = Ftc.disabled ∨ s.tick % 8 = 0) → s.pairOn = true →
      (g = true ∨ s.pairState ≠ PairSt.claiming) →
    Completes (.heartbeatSend g) s fun t => (∃ n, t.out = .heartbeat n s.heartbeat :: s.out) ∧ t.pair.silent = s.pair.silent + 1
      ∧ t.bit F.PRT_PAIR_STATUS_GUARD_IN = (!g) ∧ t.pairState = s.pairState)
  ∧ (∀ s : State, s.pairState = PairSt.claiming → (s.ftcState = Ftc.disabled ∨ s.tick % 8 = 0) →
    Completes (.heartbeatSend false) s fun t => t.pairState = PairSt.starting ∧ t.bit F.PRT_PAIR_STICKY_CLAIM_CONFLICT = true)
  ∧ (∀ (s : State) (n : BitVec 32) (h : Heartbeat), s.NextPair Ty.heartbeat n →
      (s.ftcState = Ftc.disabled ∨ s.pair.hbTick ≠ some s.tick) → h.burgee.toNat ≠ s.burgee →
    (s.pairState ∈ [PairSt.starting, PairSt.claiming] → Completes (.heartbeat n h) s fun t =>
        t.pairState = (match h.state.val with
          | 3 => PairSt.joinConfig
          | 1 | 2 => if (if s.bit F.PRT_PAIR_STATUS_PREF = h.pref then decide (h.burgee.toNat < s.burgee)
              else s.bit F.PRT_PAIR_STATUS_PREF) then PairSt.starting else PairSt.joinConfig
          | 4 => PairSt.active
          | _ => s.pairState)
          ∧ (t.pairState = PairSt.joinConfig → t.hoists = [] ∧ t.images = []))
      ∧ (s.pairState = PairSt.active → Completes (.heartbeat n h) s fun t => t.pairState = PairSt.active
        ∧ (h.state.val = PairSt.joinConfig → (s.pair.lost = true ∨ s.pair.peer = none) → t.pair.jnext = 1
            ∧ ∀ w ∈ t.pair.journal, w.acked = true)
        ∧ (h.state.val = PairSt.standby → (s.pair.lost = true ∨ s.pair.peer = none) →
            t.bit F.PRT_PAIR_STICKY_UNPROTECTED = false))
      ∧ (s.pairState = PairSt.standby → s.ftcState ≠ Ftc.disabled → Completes (.heartbeat n h) s fun t =>
        t.pairState = (if s.pair.lost = false then PairSt.standby
          else if s.pair.gap = false ∧ (h.jseq.toNat + 1) % 2 ^ 32 = s.pair.jnext then PairSt.joinState else PairSt.joinConfig))
      ∧ Completes (.heartbeat n h) s fun t => t.pair.peer = some h ∧ t.pair.silent = 0 ∧ t.pair.lost = false
        ∧ t.bit F.PRT_PAIR_STATUS_HB_OK = true ∧ t.get F.PRT_PAIR_PEER = h.burgee.toNat
        ∧ t.bit F.PRT_PAIR_STATUS_PEER_QUALIFIED = h.qualified)
  ∧ (∀ (s : State) (n : BitVec 32) (h : Heartbeat), s.NextPair Ty.heartbeat n →
      (s.ftcState = Ftc.disabled ∨ s.pair.hbTick ≠ some s.tick) → h.burgee.toNat = s.burgee →
    Completes (.heartbeat n h) s fun t => t.pair = s.pair ∧ t.pairState = s.pairState ∧ Counted 2 Viol.semantic s t)
  ∧ (∀ (s : State) (a : Nat), s.pair.hbTick = some a → a + 25 ≤ s.tick → s.pair.lost = false → s.ftcState ≠ Ftc.disabled →
      s.lin.held = [] →
    (s.pairState = PairSt.active → Completes .heartbeatLoss s fun t => t.pair.lost = true ∧ t.bit F.PRT_PAIR_STATUS_HB_OK = false
        ∧ t.bit F.PRT_PAIR_STICKY_UNPROTECTED = true ∧ Signalled 802 s t ∧ (∀ w ∈ t.pair.journal, w.acked = true)
        ∧ t.pair.yieldAt = none ∧ t.pairState = PairSt.active)
      ∧ (follows s.pairState = true → Completes .heartbeatLoss s fun t => t.pair.lost = true
        ∧ t.bit F.PRT_PAIR_STATUS_HB_OK = false ∧ t.bit F.PRT_PAIR_STATUS_QUALIFIED = false
        ∧ t.pair.wasQual = s.bit F.PRT_PAIR_STATUS_QUALIFIED ∧ t.pairState = s.pairState
        ∧ (s.bit F.PRT_PAIR_STATUS_GUARD_IN = true → t.bit F.PRT_PAIR_STICKY_PEER_SILENT_HOLDING = true ∧ Signalled 802 s t)))
  ∧ (∀ s : State, (∀ a, s.pair.hbTick = some a → s.tick < a + 25) →
    Completes .heartbeatLoss s fun t => t = { s with pins := s.pinsNow })
  ∧ (∀ (s : State) (h : Heartbeat), s.bit F.PRT_PAIR_STATUS_HB_OK = true → s.pair.peer = some h →
      (s.pairState = PairSt.active ∧ h.state.val ≠ PairSt.active ∧ 16 ≤ s.pair.high
        ∨ follows s.pairState = true ∧ h.state.val = PairSt.active ∧ 16 ≤ s.pair.low) →
    Completes .guardFault s fun t => t.bit F.PRT_PAIR_STICKY_GUARD_FAULT = true ∧ Signalled 802 s t ∧ t.pair = s.pair)
  ∧ (∀ s : State, s.pair.high < 16 → s.pair.low < 16 → Completes .guardFault s fun t => t = { s with pins := s.pinsNow })
  ∧ (∀ s : State, s.pairState = PairSt.starting → 3 ≤ s.pair.silent → s.pair.wait = none →
      s.bit F.PRT_PAIR_STATUS_GUARD_IN = false →
    Completes .claimStart s fun t => t.pairState = PairSt.claiming ∧ t.pair.claim = 0 ∧ t.pins.yieldOut = true ∧ Signalled 800 s t)
  ∧ (∀ s : State, s.pairState = PairSt.claiming → 2 ≤ s.pair.claim → s.bit F.PRT_PAIR_STATUS_GUARD_IN = false →
    Completes .claimComplete s fun t => t.pairState = PairSt.active ∧ t.bit F.PRT_PAIR_STICKY_UNPROTECTED = true
      ∧ t.pins.yieldOut = true)
  ∧ (∀ s : State, s.pairState = PairSt.claiming →
    Completes .guardReadsHolding s fun t => t.pairState = PairSt.starting ∧ t.bit F.PRT_PAIR_STICKY_CLAIM_CONFLICT = true
      ∧ t.pair.wait = some ((if s.bit F.PRT_PAIR_STATUS_PREF then 1 else 3) + s.burgee % 8) ∧ t.pins.yieldOut = false)
  ∧ (∀ s : State, s.pairState ≠ PairSt.claiming → ∀ c ∈ [Instr.claimComplete, .guardReadsHolding],
    Completes c s fun t => t = { s with pins := s.pinsNow })
  ∧ (∀ s : State, s.pairState = PairSt.starting → s.pair.wait = some 0 →
    Completes .claimRetry s fun t => t.pair = { s.pair with wait := none } ∧ t.regs = s.regs)
  ∧ (∀ s : State, s.pair.lost = true → 16 ≤ s.pair.low → s.pairState = PairSt.joinConfig →
    Completes .takeover s fun t => t.pairState = PairSt.joinConfig ∧ t.bit F.PRT_PAIR_STICKY_JOIN_ABORTED = true)
  ∧ (∀ s : State, s.pair.lost = true → 16 ≤ s.pair.low → s.pairState ∈ [PairSt.joinState, PairSt.standby] → s.pair.journal = [] →
      s.pair.heldClk = [] → s.lin.held = [] →
    Completes .takeover s fun t => t.pairState = PairSt.active ∧ t.pins.yieldOut = true ∧ Signalled 800 s t
      ∧ t.bit F.PRT_PAIR_STICKY_UNPROTECTED = true
      ∧ (s.pair.wasQual = true ∧ s.pairState = PairSt.standby → t.bit F.PRT_PAIR_STICKY_TAKEOVER_WARM = true)
      ∧ (s.pair.wasQual = false ∨ s.pairState = PairSt.joinState → t.bit F.PRT_PAIR_STICKY_COLD_TAKEOVER = true
          ∧ (∀ e ∈ t.queues, e.words = []) ∧ ∀ h ∈ t.hoists, h.ready = false))
  ∧ (∀ s : State, (s.pair.lost = false ∨ s.pair.low < 16) → Completes .takeover s fun t => t = { s with pins := s.pinsNow })

/-- The journal, the ledger and the digests pass between the units; a yield hands the work over; a join copies, loads and
catches up. A command whose condition does not hold leaves all but the pins as it is (the model's choice, log 26). What a
snapshot's acknowledgement closes is the model's reading (log 35). -/
def Obligations.PairedUnitsStayInStep : Prop :=
  (∀ (s : State) (n : Fin 16) (c : Cmd), s.MayRun 0x31 0 c → c.src = .slot n.val →
    (s.standbyQualified = true → s.pair.yieldAt = none → Completes .pairYield s fun t => InExecution c s.tick t
        ∧ t.pair.yieldAt = some (s.tick + 1 + s.cfg F.PRT_PAIR_CFG_YIELD_LEAD) ∧ t.pair.accepted = false)
      ∧ (s.standbyQualified = false → Completes .pairYield s fun t => ClosedUp n.val c Rc.refused t ∧ t.pair = s.pair))
  ∧ (∀ (s : State) (n : Fin 16) (c : Cmd), s.MayRun 0x32 1 c → c.src = .slot n.val →
    (s.pairState ∈ [PairSt.joinState, PairSt.standby] → Completes .pairResync s fun t => t.pair = s.pair
        ∧ ∃ b, t.mbox.busy = some b ∧ b.cmd = c ∧ b.n = 1)
      ∧ (s.pairState ∉ [PairSt.joinState, PairSt.standby] →
        Completes .pairResync s fun t => ClosedUp n.val c Rc.refused t ∧ t.pair = s.pair))
  ∧ (∀ (s : State) (n : BitVec 32) (l : LedgerMsg), s.NextPair Ty.ledger n →
    (s.ledgerMode = false → Completes (.ledger n l) s fun t => t.lin = s.lin)
      ∧ (s.ledgerMode = true → s.lin.settled ≤ l.tick → s.lin.quota = [] → l.entries = [] →
        Completes (.ledger n l) s fun t => t.lin.settled = l.tick + 1 ∧ t.lin.quota = [])
      ∧ (∀ e, s.ledgerMode = true → s.lin.settled ≤ l.tick → s.lin.quota = [] → l.entries = [e] → e.count ≠ 0 → 16 ≤ e.src →
          s.lin.held = [] → Completes (.ledger n l) s fun t => t.lin = { s.lin with quota := [(l.tick, [e])] }))
  ∧ (∀ s : State, s.ledgerMode = true → s.ftcState ≠ Ftc.disabled → s.lin.settled < s.tick → s.lin.held = [] → s.lin.quota = [] →
    Completes .ledgerLate s fun t => t.bit F.PRT_PAIR_STICKY_LEDGER_LATE = true ∧ t.lin.settled = s.tick)
  ∧ (∀ s : State, (s.ledgerMode = false ∨ s.tick ≤ s.lin.settled) → Completes .ledgerLate s fun t => t = { s with pins := s.pinsNow })
  ∧ (∀ (s : State) (q : BitVec 32) (e : JEntry), s.OnPairLink → follows s.pairState = true →
    (q.toNat = s.pair.jnext → Completes (.journal q e) s fun t => t.pair.jnext = (s.pair.jnext + 1) % 2 ^ 32
        ∧ t.pair.journal = s.pair.journal ++ [({ seq := q.toNat, entry := e, acked := true } : JWait)]
        ∧ (∃ n, t.out = .journalAck n q.toNat :: s.out)
        ∧ (entryAt e ≤ s.tick → s.ftcState ≠ Ftc.disabled →
            t.bit F.PRT_PAIR_STICKY_JOURNAL_LATE = true ∧ t.bit F.PRT_PAIR_STATUS_QUALIFIED = false))
      ∧ (q.toNat ≠ s.pair.jnext → (q.toNat + 1) % 2 ^ 32 = s.pair.jnext → Completes (.journal q e) s fun t => t.pair = s.pair
        ∧ (∃ n, t.out = .journalAck n q.toNat :: s.out) ∧ Counted 2 Viol.sequence s t)
      ∧ (q.toNat ≠ s.pair.jnext → (q.toNat + 1) % 2 ^ 32 ≠ s.pair.jnext → Completes (.journal q e) s fun t =>
        t.pair = { s.pair with gap := true } ∧ Counted 2 Viol.sequence s t))
  ∧ (∀ (s : State) (n q : BitVec 32), s.NextPair Ty.journalAck n →
    (s.pairState = PairSt.active → Completes (.journalAck n q) s fun t =>
        t.pair.journal = s.pair.journal.map fun w => if w.seq = q.toNat then { w with acked := true } else w)
      ∧ (s.pairState ≠ PairSt.active → Completes (.journalAck n q) s fun t => t.pair = s.pair ∧ Counted 2 Viol.semantic s t))
  ∧ (∀ (s : State) (w : JWait), s.pair.journal = [w] → s.tick < entryAt w.entry →
    Completes .journalApply s fun t => t = { s with pins := s.pinsNow })
  ∧ (∀ (s : State) (w : JWait) (v : Reg) (a : Nat), s.pair.journal = [w] →
      w.entry = .reg (BitVec.ofNat 27 R.PWR_KEEPER_SET) v a → a ≤ s.tick →
      ((s.plain R.PWR_KEEPER_SET v).hChange = true → s.halted R.PWR_KEEPER_SET = true) →
      s.refusedWrite (s.stored R.PWR_KEEPER_SET v) R.PWR_KEEPER_SET (s.plain R.PWR_KEEPER_SET v).act = false →
    Completes .journalApply s fun t => t.get F.PWR_KEEPER_SET = v.toNat % 256 ∧ t.pair.journal = []
      ∧ t.get F.PRT_PAIR_JSEQ = w.seq % 2 ^ 32)
  ∧ (∀ (s : State) (w : JWait) (v : Reg) (a : Nat), s.pair.journal = [w] → w.entry = .reg (BitVec.ofNat 27 R.CLK_FTC_CTRL) v a →
      a ≤ s.tick → follows s.pairState = true →
    Completes .journalApply s fun t => t.word R.CLK_FTC_CTRL = s.word R.CLK_FTC_CTRL ∧ t.pair.journal = []
      ∧ t.pair.heldClk = s.pair.heldClk ++ [(R.CLK_FTC_CTRL, v)])
  ∧ (∀ (s : State) (n : BitVec 32) (es : List DigestEntry), s.NextPair Ty.digest n →
    Completes (.digest n es) s fun t =>
      t.pair = { s.pair with peers := s.pair.peers ++ es.filter fun e => decide (s.tick ≤ e.tick + 127) })
  ∧ (∀ (s : State) (e : DigestEntry), s.compares = true → s.pair.mine = [e] → s.pair.peers = [] →
    (e.tick + s.cfg F.PRT_PAIR_CFG_CMP_WIN ≤ s.tick → Completes .digestMissing s fun t => t.pair.mine = []
        ∧ bitOf (t.get (F.PRT_PDIS (e.unit.val / 32))) (e.unit.val % 32) = true ∧ t.bit F.PRT_PAIR_STICKY_DISAGREE = true
        ∧ t.pair.disNow = true ∧ (s.pair.disNow = false → Signalled 801 s t))
      ∧ (s.tick < e.tick + s.cfg F.PRT_PAIR_CFG_CMP_WIN → Completes .digestMissing s fun t => t.pair = s.pair ∧ t.regs = s.regs))
  ∧ (∀ s : State, s.compares = false → Completes .digestMissing s fun t => t = { s with pins := s.pinsNow })
  ∧ (∀ s : State, s.pairState = PairSt.standby → s.pair.lost = false →
    (s.cfg F.PRT_PAIR_QUAL_QUAL ≤ s.pair.good → Completes .pairQualify s fun t => t.bit F.PRT_PAIR_STATUS_QUALIFIED = true
        ∧ t.pair = s.pair)
      ∧ (s.pair.good < s.cfg F.PRT_PAIR_QUAL_QUAL → Completes .pairQualify s fun t => t = { s with pins := s.pinsNow }))
  ∧ (∀ (s : State) (n : BitVec 32) (b : Nat), s.NextPair Ty.yield n →
    (s.pairState = PairSt.standby → s.tick < b → Completes (.yieldMessage n b) s fun t => t.pair.yieldAt = some b
        ∧ t.pair.accepted = true ∧ ∃ k, t.out = .accept k :: s.out)
      ∧ (s.pairState ≠ PairSt.standby ∨ b ≤ s.tick →
        Completes (.yieldMessage n b) s fun t => t.pair = s.pair ∧ Counted 2 Viol.semantic s t))
  ∧ (∀ (s : State) (n : BitVec 32), s.NextPair Ty.pairAccept n →
    (∀ b, s.pairState = PairSt.active → s.pair.yieldAt = some b → s.tick < b →
        Completes (.accept n) s fun t => t.pair = { s.pair with accepted := true })
      ∧ (s.pair.yieldAt = none → Completes (.accept n) s fun t => t.pair = s.pair ∧ Counted 2 Viol.semantic s t))
  ∧ (∀ (s : State) (b : Nat), s.pair.yieldAt = some b →
    (b ≤ s.tick → s.pairState = PairSt.active → Completes .yieldHandover s fun t => t.pair.yieldAt = none
        ∧ t.pairState = (if s.pair.accepted then PairSt.standby else PairSt.active)
        ∧ (s.pair.accepted = false → t.bit F.PRT_PAIR_STICKY_YIELD_FAILED = true))
      ∧ (b ≤ s.tick → s.pairState = PairSt.standby → s.lin.held = [] → s.pair.heldClk = [] →
        Completes .yieldHandover s fun t => t.pairState = PairSt.active ∧ t.pair.yieldAt = none)
      ∧ (s.tick < b → Completes .yieldHandover s fun t => t = { s with pins := s.pinsNow }))
  ∧ (∀ s : State, s.pairState = PairSt.joinConfig → s.superTick = true →
    (s.pair.copied = true → Completes .joinConfigComplete s fun t => t.pairState = PairSt.joinState
        ∧ t.pair.t0 = some s.tick ∧ t.lin.logging = true)
      ∧ (s.pair.copied = false → Completes .joinConfigComplete s fun t => t = { s with pins := s.pinsNow }))
  ∧ (∀ (s : State) (q : BitVec 32) (p : SnapPart), s.OnPairLink →
    (s.pairState = PairSt.joinState → q.toNat = s.pair.partNext → p ≠ .last → Completes (.snapshot q p) s fun t =>
        t.pair = { s.pair with parts := s.pair.parts ++ [p], partNext := (s.pair.partNext + 1) % 2 ^ 32 })
      ∧ (∀ a bs, s.pairState = PairSt.joinConfig → q.toNat = s.pair.partNext → p = .sram a bs → a + bs.length ≤ 0x3C00000 →
        Completes (.snapshot q p) s fun t => t.rdBytes Sp.sram a bs.length = bs ∧ t.pair.partNext = (s.pair.partNext + 1) % 2 ^ 32)
      ∧ (s.pairState ∈ [PairSt.joinConfig, PairSt.joinState] → q.toNat = s.pair.partNext → p = .last →
        Completes (.snapshot q p) s fun t => t.pair.copied = true ∧ ∃ n, t.out = .snapshotAck n :: s.out)
      ∧ (s.pairState ∈ [PairSt.joinConfig, PairSt.joinState] → q.toNat ≠ s.pair.partNext →
        Completes (.snapshot q p) s fun t => t.pair = s.pair ∧ Counted 2 Viol.sequence s t)
      ∧ (s.pairState ∉ [PairSt.joinConfig, PairSt.joinState] →
        Completes (.snapshot q p) s fun t => t.pair = s.pair ∧ Counted 2 Viol.semantic s t))
  ∧ (∀ (s : State) (n : BitVec 32), s.NextPair Ty.snapshotAck n → s.pairState = PairSt.active →
    (s.pair.t0 ≠ none → Completes (.snapshotAck n) s fun t => t.pair = { s.pair with t0 := none })
      ∧ (∀ h, s.pair.t0 = none → s.pair.peer = some h → h.state.val = PairSt.joinConfig →
        Completes (.snapshotAck n) s fun t => t.pair = { s.pair with copied := true }))
  ∧ (∀ (s : State) (a : Nat), s.pair.t0 = some a → s.pairState = PairSt.joinState →
    (s.pair.copied = true → s.pair.loaded = false → s.superTick = true → a < s.tick → Completes .snapshotLoad s fun t =>
        t.pair.loaded = true ∧ t.pair.parts = [] ∧ ∀ h ∈ t.hoists, h.w = a - 1 ∧ h.ready = false)
      ∧ (s.pair.copied = false ∨ s.tick ≤ a → Completes .snapshotLoad s fun t => t = { s with pins := s.pinsNow }))
  ∧ (∀ s : State, s.pairState = PairSt.joinState → s.pair.loaded = true →
    (16 ≤ s.pair.noBreach → Completes .catchUpComplete s fun t => t.pairState = PairSt.standby ∧ t.pair.good = 0)
      ∧ (s.pair.noBreach < 16 → Completes .catchUpComplete s fun t => t = { s with pins := s.pinsNow }))
  ∧ (∀ s : State, s.pairState = PairSt.joinState →
    (s.lin.logging = true → Completes .logFull s fun t => t.bit F.PRT_PAIR_STICKY_LOG_FULL = true ∧ t.lin.logging = false
        ∧ t.lin.log = [] ∧ t.pair.loaded = false ∧ t.pair.resync = s.on F.PRT_PAIR_CFG_AUTO_RESYNC ∧ t.pairState = PairSt.joinState)
      ∧ (s.lin.logging = false → Completes .logFull s fun t => t = { s with pins := s.pinsNow }))

/-! ## The halyard hierarchy (chapter 15) -/

/-- Hails, offers, joins, leaves, losses, time exchange and repeats move the membership of a worker and the table of a manager.
A command whose condition does not hold leaves all but the pins as it is (the model's choice, log 26). The form of an
acknowledgement, and the sequence number of a frame to a stranger, are the model's (logs 34, 65). -/
def Obligations.MembershipFollowsFrames : Prop :=
  (∀ s : State, s.isManager = true → s.hierOn = true → s.cfg F.LIN_DISC_CFG_HAIL_PER ≤ s.hal.hail →
    Completes .managerHailTimer s fun t => t.hal.hail = 0 ∧ SentFrame t Ty.hail 0 s.helloWords
      ∧ t.hal.hailSeq = some ((seqOf s.hal.tx .manager Ty.hail + 1) % 2 ^ 32))
  ∧ (∀ s : State, s.hal.hail < s.cfg F.LIN_DISC_CFG_HAIL_PER → Completes .managerHailTimer s fun t => t = { s with pins := s.pinsNow })
  ∧ (∀ (s : State) (f : HalFrame) (p : Option Partner), s.HalTakes Ty.hail f p → s.isWorker = true →
    (s.halState ∈ [HalSt.unbound, HalSt.orphan] → Completes (.hail f) s fun t =>
        SentFrame t Ty.answer f.src (s.helloWords ++ [BitVec.ofNat 64 f.num]) ∧ t.halState = s.halState)
      ∧ (s.halState ∉ [HalSt.unbound, HalSt.orphan] → Completes (.hail f) s fun t => t.halState = s.halState ∧ t.hal.tx = s.hal.tx)
      ∧ (p = some .manager → Completes (.hail f) s fun t => t.get F.HAL_MGR_ALT = f.word 1))
  ∧ (∀ (s : State) (f : HalFrame), s.HalTakes Ty.answer f none → s.isManager = true →
    (∀ m, s.hal.hailSeq = some (f.word 2 % 2 ^ 32) → s.freeEntry = some m → s.hal.joinOpen = true →
        Completes (.answeringPennant f) s fun t => t.memState m = Mem.seen ∧ t.memBurgee m = f.src.toNat
          ∧ (t.member m).offer = true ∧ Signalled 833 s t)
      ∧ (∀ m, s.hal.hailSeq = some (f.word 2 % 2 ^ 32) → s.freeEntry = some m → s.hal.joinOpen = false →
        Completes (.answeringPennant f) s fun t => t.hal.members = s.hal.members ∧ t.memState m = s.memState m)
      ∧ (s.hal.hailSeq ≠ some (f.word 2 % 2 ^ 32) → Completes (.answeringPennant f) s fun t =>
        t.hal.members = s.hal.members ∧ Counted 1 Viol.sequence s t))
  ∧ (∀ (s : State) (f : HalFrame), s.HalTakes Ty.neg f (some .manager) →
    (bitsOf (f.word 1) 56 8 = Ty.accept → s.halState = HalSt.joining → s.hal.before < 4 →
        (∃ e ∈ s.hal.sent, e.who = .manager ∧ e.frame.type = Ty.accept ∧ e.frame.num = f.word 1 % 2 ^ 32) →
        Completes (.negPennant f) s fun t => t.halState = s.hal.before
          ∧ ∀ e ∈ t.hal.sent, ¬ (e.who = .manager ∧ e.frame.type = Ty.accept ∧ e.frame.num = f.word 1 % 2 ^ 32))
      ∧ (s.hal.sent = [] → Completes (.negPennant f) s fun t => t.halState = s.halState ∧ t.mbox = s.mbox))
  ∧ (∀ (s : State) (f : HalFrame) (p : Option Partner), s.HalTakes Ty.offer f p →
    (s.offerReason f = 0 → Completes (.joinOffer f) s fun t => t.halState = HalSt.joining ∧ t.get F.HAL_MGR = f.src.toNat
        ∧ t.get F.HAL_STATE_ADDR = f.word 0 % 2 ^ 14 ∧ SentFrame t Ty.accept f.src [BitVec.ofNat 64 (s.get F.HAL_STATE_CONFIG_GEN)]
        ∧ Awaits t .manager Ty.accept
        ∧ (s.on F.HAL_CFG_AUTO_FTC = true → s.bit F.CLK_FTC_CTRL_ENABLE = false → t.hal.autoFtc = true
            ∧ t.get F.CLK_FTC_SET = (f.word 1 / 8192 + 1) % 2 ^ 51))
      ∧ (s.offerReason f ≠ 0 → Completes (.joinOffer f) s fun t => t.halState = s.halState
        ∧ t.bit F.HAL_STICKY_OFFER_REFUSED = true ∧ Counted 1 Viol.semantic s t))
  ∧ (∀ s : State, s.hal.autoFtc = true → s.bit F.CLK_FTC_CTRL_ENABLE = false → s.ftcState = Ftc.disabled →
    Completes .autoFtcEnable s fun t => t.bit F.CLK_FTC_CTRL_ENABLE = true ∧ t.ftcState ≠ Ftc.disabled
      ∧ t.clk.tick = s.cfg F.CLK_FTC_SET ∧ t.hal.autoFtc = false)
  ∧ (∀ s : State, s.hal.autoFtc = false → Completes .autoFtcEnable s fun t => t = { s with pins := s.pinsNow })
  ∧ (∀ (s : State) (f : HalFrame) (m : Fin 128), s.HalTakes Ty.accept f (some (.member m)) → s.OwnAddress f →
    Completes (.joinAccept f) s fun t => t.memState m.val = Mem.paired
      ∧ t.get (F.HAL_MEM_STATE_CONFIG_GEN m.val) = f.word 0 % 65536 ∧ (t.member m.val).silent = 0
      ∧ t.out.head? = some (.halAck f.port.val f.type f.num f.src.toNat) ∧ ¬ Awaits t (.member m) Ty.offer)
  ∧ (∀ (s : State) (f : HalFrame) (r : Member), s.HalTakes Ty.accept f none → bitOf (f.word 0) 32 = true → s.isManager = true →
      (s.hal.members.find? fun r => r.peer = f.src.toNat ∧ r.peer ≠ 0 ∧ s.memState r.num ≠ Mem.absent) = some r → r.num < 128 →
    Completes (.joinAccept f) s fun t => t.memState r.num = Mem.paired ∧ t.memBurgee r.num = f.src.toNat
      ∧ (t.member r.num).peer = s.memBurgee r.num)
  ∧ (∀ (s : State) (f : HalFrame) (m : Fin 128), s.HalTakes Ty.leave f (some (.member m)) → s.OwnAddress f →
    Completes (.leave f) s fun t => t.out.head? = some (.halAck f.port.val f.type f.num f.src.toNat)
      ∧ (s.memState m.val ≠ Mem.lost → t.memState m.val = s.memState m.val))
  ∧ (∀ (s : State) (f : HalFrame) (p : Option Partner), s.HalTakes Ty.release f p →
    (p = some .manager → s.halState ≠ HalSt.unbound → Completes (.halReleaseFrame f) s fun t => t.halState = HalSt.unbound
        ∧ Signalled 834 s t)
      ∧ (p ≠ some .manager ∨ s.halState = HalSt.unbound → Completes (.halReleaseFrame f) s fun t => t.halState = s.halState
        ∧ Counted 1 Viol.semantic s t))
  ∧ (∀ (s : State) (f : HalFrame) (e : Sent), s.hierOn = true → f.port.val = s.hierPort →
      (s.hal.sent.find? fun e => e.frame.ty = f.ty ∧ e.frame.seq = f.seq ∧ (e.frame.dst = f.src ∨ e.frame.dst = 0)) = some e →
      e.who = .manager →
    (e.frame.type = Ty.accept → s.halState = HalSt.joining → Completes (.halyardAcknowledgement f) s fun t =>
        t.halState = HalSt.member ∧ Signalled 834 s t ∧ e ∉ t.hal.sent)
      ∧ (e.frame.type = Ty.leave → s.halState = HalSt.member → Completes (.halyardAcknowledgement f) s fun t =>
        t.halState = HalSt.unbound ∧ Signalled 834 s t ∧ e ∉ t.hal.sent))
  ∧ (∀ (s : State) (f : HalFrame), s.hal.sent = [] →
    Completes (.halyardAcknowledgement f) s fun t => t = { s with pins := s.pinsNow })
  ∧ (∀ s : State, (s.halState = HalSt.member → 3 ≤ s.hal.mgrSilent → Completes .managerLost s fun t => t.halState = HalSt.orphan
        ∧ t.bit F.HAL_STICKY_MGR_LOST = true ∧ Signalled 834 s t)
      ∧ (s.hal.mgrSilent < 3 → Completes .managerLost s fun t => t = { s with pins := s.pinsNow }))
  ∧ (∀ (s : State) (m : Fin 128),
    (s.isManager = true → 0 < m.val → s.memState m.val = Mem.paired → 3 ≤ (s.member m.val).silent →
        Completes (.memberLost m) s fun t => t.memState m.val = Mem.lost ∧ Signalled 833 s t)
      ∧ ((s.member m.val).silent < 3 → Completes (.memberLost m) s fun t => t = { s with pins := s.pinsNow }))
  ∧ (∀ (s : State) (i : Nat) (e : Sent), s.hal.sent[i]? = some e →
    (s.tick < e.at_ + 8 → Completes (.retransmit i) s fun t => t = { s with pins := s.pinsNow })
      ∧ (e.at_ + 8 ≤ s.tick → e.tries < 16 → s.hierOn = true → Completes (.retransmit i) s fun t =>
        t.out = .hal e.frame :: s.out ∧ t.hal.sent[i]? = some { e with at_ := s.tick, tries := e.tries + 1 })
      ∧ (∀ m : Fin 128, e.at_ + 8 ≤ s.tick → 16 ≤ e.tries → e.who = .member m → e.frame.type = Ty.offer →
        s.memState m.val ≠ Mem.absent →
        Completes (.retransmit i) s fun t => t.memState m.val = Mem.lost ∧ t.hal.sent = s.hal.sent.eraseIdx i))
  ∧ (∀ s : State, s.superTick = true → s.halState = HalSt.member → s.hierOn = true →
    Completes .timeReqSend s fun t => t.hal.timeReq = some (s.ts64, s.tick) ∧ SentFrame t Ty.timeReq (BitVec.ofNat 64 (s.get F.HAL_MGR))
        [BitVec.ofNat 64 s.ts64]
      ∧ (s.hal.timeReq ≠ none → t.bit F.HAL_STICKY_TIME_INVALID = true))
  ∧ (∀ s : State, s.superTick = false → Completes .timeReqSend s fun t => t = { s with pins := s.pinsNow })
  ∧ (∀ (s : State) (f : HalFrame) (m : Fin 128) (t2 t3 : Word), s.HalTakes Ty.timeReq f (some (.member m)) → s.OwnAddress f →
    Completes (.timeReq f t2 t3) s fun t => SentFrame t Ty.timeResp f.src [f.payload.getD 0 0, t2, t3]
      ∧ (t.member m.val).silent = 0)
  ∧ (∀ (s : State) (f : HalFrame) (t4 : Word) (a b : Nat), s.HalTakes Ty.timeResp f (some .manager) → s.hal.timeReq = some (a, b) →
      f.word 0 = a →
    Completes (.timeResp f t4) s fun t => t.hal.timeReq = none
      ∧ t.get F.HAL_TIME_LAST_OFFSET = unsgn 16 (timeResult a (f.word 1) (f.word 2) t4.toNat).2
      ∧ t.get F.HAL_TIME_LAST_RTT = unsgn 16 (timeResult a (f.word 1) (f.word 2) t4.toNat).1
      ∧ ((s.cfg F.HAL_TIME_CFG_RTT_MAX : Int) < (timeResult a (f.word 1) (f.word 2) t4.toNat).1 ∨ b / 16 ≠ s.tick / 16 →
          t.bit F.HAL_STICKY_TIME_INVALID = true))
  ∧ (∀ (s : State) (n : Fin 16) (c : Cmd), s.MayRun 0x40 1 c → c.src = .slot n.val →
    Completes .halJoinOpen s fun t => t.hal.joinOpen = bitOf (c.arg 0) 0 ∧ ClosedUp n.val c 0 t)
  ∧ (∀ (s : State) (n : Fin 16) (c : Cmd), s.MayRun 0x41 1 c → c.src = .slot n.val → s.isManager = true → s.hierOn = true →
      0 < c.arg 0 → c.arg 0 < 128 →
    (s.memState (c.arg 0) ∈ [Mem.seen, Mem.paired] → Completes .halRelease s fun t => t.memState (c.arg 0) = Mem.absent
        ∧ InExecution c s.tick t ∧ Awaits t (memPartner (c.arg 0)) Ty.release ∧ Signalled 833 s t)
      ∧ (s.memState (c.arg 0) = Mem.lost → Completes .halRelease s fun t => t.memState (c.arg 0) = Mem.absent ∧ ClosedUp n.val c 0 t)
      ∧ (s.memState (c.arg 0) = Mem.absent → Completes .halRelease s fun t => ClosedUp n.val c Rc.badArg t))
  ∧ (∀ (s : State) (n : Fin 16) (c : Cmd), s.MayRun 0x45 0 c → c.src = .slot n.val →
    (s.halState = HalSt.member → s.hierOn = true → Completes .halLeave s fun t => InExecution c s.tick t
        ∧ Awaits t .manager Ty.leave ∧ t.halState = HalSt.member)
      ∧ (s.halState ≠ HalSt.member → Completes .halLeave s fun t => ClosedUp n.val c Rc.refused t ∧ t.halState = s.halState))
  ∧ (∀ (s : State) (p : Fin 2),
    (s.bit (F.HAL_H_STATUS_LINK p.val) = true → Completes (.halyardLinkLoss p) s (fun t =>
        t.bit (F.HAL_H_STATUS_LINK p.val) = false ∧ t.bit (F.HAL_H_STICKY_LINK_LOST p.val) = true ∧ Signalled 832 s t)
        ∧ Completes (.halyardLinkReturn p) s fun t => t = { s with pins := s.pinsNow })
      ∧ (s.bit (F.HAL_H_STATUS_LINK p.val) = false → Completes (.halyardLinkReturn p) s (fun t =>
        t.bit (F.HAL_H_STATUS_LINK p.val) = true ∧ t.bit (F.HAL_H_STATUS_PCS_LOCK p.val) = true ∧ Signalled 832 s t)
        ∧ Completes (.halyardLinkLoss p) s fun t => t = { s with pins := s.pinsNow }))

/-- Remote commands, register writes, image pushes, events and software data pass between a manager and its members; violations
are counted, and quarantines begin and end. A command whose condition does not hold leaves all but the pins as it is (the
model's choice, log 26). The layouts of COMMAND and IMAGE_CHUNK payloads are the model's (logs 66, 67). -/
def Obligations.RemoteWorkAndQuarantines : Prop :=
  (∀ (s : State) (f : HalFrame), s.HalTakes Ty.command f (some .manager) →
    (s.halState = HalSt.member → f.payload.length = 1 + Nat.min 12 (bitsOf (f.word 0) 8 4) → Completes (.halCommand f) s fun t =>
        (∃ c, t.mbox.queue = s.mbox.queue ++ [c] ∧ c.op = bitsOf (f.word 0) 0 8 ∧ c.argWords = bitsOf (f.word 0) 8 4
          ∧ c.tag = bitsOf (f.word 0) 16 16 ∧ c.src = .frame f ∧ c.seq = s.mbox.next
          ∧ ∀ i < Nat.min 12 (bitsOf (f.word 0) 8 4), c.arg i = f.word (1 + i) % 2 ^ 32)
        ∧ ∃ g, t.out.head? = some (.hal g) ∧ g.type = Ty.result ∧ g.word 0 = 1)
      ∧ (s.halState = HalSt.orphan → Completes (.halCommand f) s fun t => t.mbox = s.mbox ∧ Counted 1 Viol.semantic s t))
  ∧ (∀ (s : State) (f : HalFrame) (m : Fin 128) (n : Fin 16) (c : Cmd), s.HalTakes Ty.result f (some (.member m)) →
      s.Executing 0x42 c → c.src = .slot n.val → f.word 0 % 4 = 2 → s.memAddr m.val = c.arg 0 →
    Completes (.halResult f) s fun t => ClosedUp n.val c 0 t ∧ t.get (F.SUP_MBOX_ARG n.val 0) = f.word 1 % 2 ^ 32)
  ∧ (∀ (s : State) (f : HalFrame), s.HalTakes Ty.result f none → Completes (.halResult f) s fun t => t.mbox = s.mbox)
  ∧ (∀ (s : State) (f : HalFrame) (w : Word), s.HalTakes Ty.regWrite f (some .manager) → s.halState = HalSt.member → f.payload = [w] →
    (w.toNat / 2 ^ 32 % 4 ≠ 0 → Completes (.halRegWriteFrame f) s fun t => SentFrame t Ty.regAck f.src [0] ∧ Signalled 961 s t)
      ∧ (∀ off, w.toNat / 2 ^ 32 % 4 = 0 → w.toNat / 2 ^ 32 = 0x4000000 + off → s.sramKind off 4 true = none →
        Completes (.halRegWriteFrame f) s fun t => SentFrame t Ty.regAck f.src [1] ∧ t.rdLE Sp.sram off 4 = w.toNat % 2 ^ 32))
  ∧ (∀ (s : State) (f : HalFrame) (m : Fin 128) (n : Fin 16) (c : Cmd), s.HalTakes Ty.regAck f (some (.member m)) → s.OwnAddress f →
      s.Executing 0x43 c → c.src = .slot n.val → c.arg 0 = m.val →
    Completes (.regAck f) s fun t => ClosedUp n.val c 0 t ∧ t.get (F.SUP_MBOX_ARG n.val 0) = f.word 0 % 2 ^ 32
      ∧ ¬ Awaits t (.member m) Ty.regWrite)
  ∧ (∀ (s : State) (f : HalFrame), s.HalTakes Ty.chunk f (some .manager) → s.halState = HalSt.member →
    (bitOf (f.word (s.halAddr % 128 / 64)) (s.halAddr % 128 % 64) = false → Completes (.imageChunk f) s fun t =>
        t.mem = s.mem ∧ t.mbox = s.mbox ∧ t.hal.pushIn = s.hal.pushIn)
      ∧ (bitOf (f.word (s.halAddr % 128 / 64)) (s.halAddr % 128 % 64) = true → f.word 3 = 0 →
        8 * f.payload.length < 0x80 + 32 → s.regionTakes 0 (wordsBytes (f.payload.drop 4)).length = true →
        Completes (.imageChunk f) s fun t => t.mbox = s.mbox
          ∧ t.hal.pushIn = some { id := f.word 2 % 2 ^ 16, bytes := 8 * (f.payload.length - 4) }
          ∧ t.rdBytes Sp.sram (s.cfg F.HAL_IMG_BASE_OFF) (8 * (f.payload.length - 4)) = wordsBytes (f.payload.drop 4)))
  ∧ (∀ (s : State) (f : HalFrame) (m : Fin 128) (n : Fin 16) (c : Cmd) (p : PushOut),
      s.HalTakes Ty.imgStatus f (some (.member m)) → s.OwnAddress f → s.Executing 0x44 c → c.src = .slot n.val →
      s.hal.pushOut = some p → m.val ∈ p.asked → m.val ∉ p.answered →
    ((∀ k ∈ p.asked, k = m.val ∨ k ∈ p.answered) → Completes (.imageStatus f) s fun t => ClosedUp n.val c 0 t ∧ t.hal.pushOut = none
        ∧ Signalled 837 s t)
      ∧ (∀ k ∈ p.asked, k ≠ m.val → k ∉ p.answered → Completes (.imageStatus f) s fun t => t.mbox = s.mbox
        ∧ Signalled 837 s t ∧ ∃ q, t.hal.pushOut = some q ∧ q.answered = m.val :: p.answered
          ∧ (m.val ∈ q.good ↔ f.word 0 % 256 = 0 ∨ m.val ∈ p.good)))
  ∧ (∀ (s : State) (n : Fin 16) (c : Cmd) (p : PushOut), s.Executing 0x44 c → c.src = .slot n.val → s.hal.pushOut = some p →
    (p.last + 2000 ≤ s.tick → Completes .imagePushTimeout s fun t => ClosedUp n.val c 0 t ∧ t.hal.pushOut = none)
      ∧ (s.tick < p.last + 2000 → Completes .imagePushTimeout s fun t => t = { s with pins := s.pinsNow }))
  ∧ (∀ (s : State) (f : HalFrame) (p : Option Partner) (c : Instr) (e : Queue),
      (c = .halEvent f ∧ s.HalTakes Ty.event f p ∨ c = .halUser f ∧ s.HalTakes Ty.user f p) → s.lin.waiting = [] →
      s.cfg F.MAP_PW_CLASS_SID ≠ s.cfg F.HAL_SID_RX_SID → s.sinkQueues (s.cfg F.HAL_SID_RX_SID) s.tick = [e.num] →
      s.queue e.num = some e → e.flush = none → s.cfg (F.QUE_W_CFG_READER e.num) ≠ Reader.release →
      e.words.length + f.words.length ≤ s.capacity e.num →
    Completes c s fun t => ∃ e', t.queue e.num = some e' ∧ e'.words.map (·.data) = e.words.map (·.data) ++ f.words
      ∧ ∀ w ∈ e'.words, w ∈ e.words ∨ w.arr = s.tick)
  ∧ (∀ (s : State) (n : Fin 16) (c : Cmd), s.MayRun 0x42 2 c → c.src = .slot n.val → s.isManager = true → s.hierOn = true →
    (∀ m, s.memAt (c.arg 0) = some m → s.memState m = Mem.paired → Completes .halSendCmd s fun t => InExecution c s.tick t
        ∧ Awaits t (memPartner m) Ty.command)
      ∧ (s.memAt (c.arg 0) = none → Completes .halSendCmd s fun t => ClosedUp n.val c Rc.refused t ∧ t.hal.sent = s.hal.sent))
  ∧ (∀ (s : State) (n : Fin 16) (c : Cmd), s.MayRun 0x43 3 c → c.src = .slot n.val → s.isManager = true → s.hierOn = true →
      0 < c.arg 0 → c.arg 0 < 128 → s.memState (c.arg 0) = Mem.paired →
    (0 < c.arg 2 → c.arg 2 ≤ 256 → c.arg 1 + 8 * c.arg 2 ≤ 0x3C00000 → Completes .halRegWrite s fun t => InExecution c s.tick t
        ∧ Awaits t (memPartner (c.arg 0)) Ty.regWrite)
      ∧ (256 < c.arg 2 → Completes .halRegWrite s fun t => ClosedUp n.val c Rc.badArg t ∧ t.hal.sent = s.hal.sent))
  ∧ (∀ (s : State) (n : Fin 16) (c : Cmd), s.MayRun 0x44 9 c → c.src = .slot n.val → s.isManager = true → s.hierOn = true →
    (0 < c.arg 1 → c.arg 0 + c.arg 1 ≤ 0x3C00000 → 0 < c.arg 2 → c.arg 2 < 2 ^ 32 → c.arg 6 < 256 → c.arg 7 < 131072 →
        c.arg 8 < 0x400000 →
        Completes .halImagePush s fun t => InExecution c s.tick t ∧ ∃ p, t.hal.pushOut = some p ∧ p.last = s.tick ∧ p.answered = []
          ∧ ∀ k < 32, (k ∈ p.asked ↔ bitOf (c.arg 2) k = true))
      ∧ (c.arg 1 = 0 → Completes .halImagePush s fun t => ClosedUp n.val c Rc.badArg t ∧ t.hal.pushOut = s.hal.pushOut))
  ∧ (∀ (s : State) (n : Fin 16) (c : Cmd), s.MayRun 0x46 2 c → c.src = .slot n.val →
    (c.arg 0 = 3 → Completes .halQuarClear s fun t => t.quarantined .host = false ∧ t.bit F.HAL_QUAR_STATUS_HOST = false
        ∧ ClosedUp n.val c 0 t)
      ∧ (3 < c.arg 0 → Completes .halQuarClear s fun t => ClosedUp n.val c Rc.badArg t))
  ∧ (∀ (s : State) (p : Partner) (a : Nat), (s.peer p).due = some a →
    (a ≤ s.tick → Completes (.quarantineStart p) s fun t =>
        (t.peer p).ends = some (s.tick + s.cfg (F.HAL_VIOL_QTICKS_QTICKS p.kind)) ∧ (t.peer p).due = none ∧ Signalled 836 s t)
      ∧ (s.tick < a → Completes (.quarantineStart p) s fun t => t = { s with pins := s.pinsNow }))
  ∧ (∀ (s : State) (p : Partner) (a : Nat), (s.peer p).ends = some a →
    (a ≤ s.tick → Completes (.quarantineEnd p) s fun t => t.quarantined p = false
        ∧ (p = .manager → t.bit F.HAL_QUAR_STATUS_MGR = false) ∧ (p = .host → t.bit F.HAL_QUAR_STATUS_HOST = false))
      ∧ (s.tick < a → Completes (.quarantineEnd p) s fun t => t = { s with pins := s.pinsNow }))
  ∧ (∀ (s : State) (p : Partner) (ty : Byte),
    (s.quarantined p = false → Completes (.malformedMessage p ty) s fun t => Counted p.kind Viol.malformed s t)
      ∧ (s.quarantined p = true → Completes (.malformedMessage p ty) s fun t =>
        (t.peer p).msgs = (s.peer p).msgs + 1 ∧ ∀ k < 4, ∀ j < 4, t.get (F.HAL_VCNT k j) = s.get (F.HAL_VCNT k j)))

/-! ## Events, the recorder, tallies (chapter 16) -/

/-- The overflow record, an unmasked vector's message and the tally snapshot leave; the recorder starts, stops, flushes, reads,
writes its staged records, resumes, and loses its drive; the drive's completions act. A command whose condition does not hold
leaves all but the pins as it is (the model's choice, log 26). -/
def Obligations.EventsRecorderAndTallies : Prop :=
  (∀ s : State,
    (s.bit F.EVT_CTRL_ENABLE = true → s.evt.overflow = true → s.ringAdmits 0 = true → s.linkUp = true →
      Completes .overflowRecord s fun t => t.evt.overflow = false ∧ t.evt.dropped = [0, 0, 0, 0]
        ∧ t.get F.EVT_RING_TAIL_TAIL = (s.get F.EVT_RING_TAIL_TAIL + 1) % 2 ^ s.ringLog
        ∧ t.rdLE Sp.host (s.get F.EVT_RING_BASE * 4096 + s.get F.EVT_RING_TAIL_TAIL * 32) 8 = s.ts64 % 2 ^ 64
        ∧ t.rdLE Sp.host (s.get F.EVT_RING_BASE * 4096 + s.get F.EVT_RING_TAIL_TAIL * 32 + 16) 8
          = (s.evt.dropped.getD 0 0 * 2 ^ 48 + s.evt.dropped.getD 1 0 * 2 ^ 32 + s.evt.dropped.getD 2 0 * 2 ^ 16
            + s.evt.dropped.getD 3 0) % 2 ^ 64)
    ∧ (s.evt.overflow = false → Completes .overflowRecord s fun t => t = { s with pins := s.pinsNow }))
  ∧ (∀ (s : State) (v : Fin 256),
    (bitOf (s.rd Sp.msix (0x1000 + v.val / 8)).toNat (v.val % 8) = true → s.linkUp = true → Completes (.msixUnmask v) s fun t =>
        t.out.head? = some (.msix v.val (s.rdLE Sp.msix (16 * v.val) 8) (s.rdLE Sp.msix (16 * v.val + 8) 4))
          ∧ bitOf (t.rd Sp.msix (0x1000 + v.val / 8)).toNat (v.val % 8) = false
          ∧ bitOf (t.rd Sp.msix (16 * v.val + 12)).toNat 0 = false)
    ∧ (bitOf (s.rd Sp.msix (0x1000 + v.val / 8)).toNat (v.val % 8) = false → Completes (.msixUnmask v) s fun t =>
        t.out = s.out ∧ bitOf (t.rd Sp.msix (16 * v.val + 12)).toNat 0 = false))
  ∧ (∀ (s : State) (n : Fin 16) (c : Cmd), s.MayRun 0x50 2 c → c.src = .slot n.val →
    (s.recState = RecSt.idle → c.arg 0 + 2 ^ 32 * c.arg 1 < s.cfg F.REC_RING_BLOCKS → s.recRing ≤ 2 ^ 44 →
        s.cfg F.REC_RESV_LINES ≤ s.cfg F.REC_STAGE_LINES →
        s.cfg F.REC_STAGE_BASE * 64 + s.cfg F.REC_STAGE_LINES * 64 ≤ 2 ^ 26 → s.recUnitOk = true → s.recPowered = true →
        Completes .recStart s fun t => t.recState = RecSt.starting
          ∧ t.rec_.flight = s.rec_.flight ++ [.init (s.cfg F.REC_NSID)] ∧ ∃ b, t.mbox.busy = some b ∧ b.cmd = c)
    ∧ (s.recState ≠ RecSt.idle → Completes .recStart s fun t => ClosedUp n.val c Rc.refused t ∧ t.recState = s.recState))
  ∧ (∀ (s : State) (n : Fin 16) (c : Cmd), s.MayRun 0x51 0 c → c.src = .slot n.val →
    (s.recState = RecSt.idle → Completes .recStop s fun t => ClosedUp n.val c Rc.refused t ∧ t.recState = RecSt.idle)
    ∧ (s.recState = RecSt.driveLost → Completes .recStop s fun t => ClosedUp n.val c 0 t ∧ t.recState = RecSt.idle)
    ∧ (s.recState ≠ RecSt.idle → s.recState ≠ RecSt.driveLost → Completes .recStop s fun t => t.recState = RecSt.stopping
        ∧ ∃ b, t.mbox.busy = some b ∧ b.cmd = c))
  ∧ (∀ (s : State) (n : Fin 16) (c : Cmd), s.MayRun 0x52 0 c → c.src = .slot n.val →
    (s.recLive = true → Completes .recFlush s fun t => t.rec_.flight = s.rec_.flight ++ [.flush]
        ∧ ∃ b, t.mbox.busy = some b ∧ b.cmd = c ∧ b.n = (s.rec_.flight.filter (· = .flush)).length + 1)
    ∧ (s.recLive = false → Completes .recFlush s fun t => ClosedUp n.val c Rc.refused t ∧ t.rec_.flight = s.rec_.flight))
  ∧ (∀ (s : State) (n : Fin 16) (c : Cmd), s.MayRun 0x53 4 c → c.src = .slot n.val → s.recLive = true →
    (1 ≤ c.arg 2 → c.arg 2 ≤ 256 → c.arg 3 + c.arg 2 * s.recBs ≤ 2 ^ 26 → Completes .recRead s fun t => InExecution c s.tick t
        ∧ t.rec_.flight = s.rec_.flight ++ [.read (c.arg 0 + 2 ^ 32 * c.arg 1) (c.arg 2) (c.arg 3)])
    ∧ (c.arg 2 = 0 ∨ 256 < c.arg 2 → Completes .recRead s fun t => ClosedUp n.val c Rc.badArg t))
  ∧ (∀ (s : State) (b : RecBody), s.recState = RecSt.recording → s.recPowered = true → s.rec_.staged = [b] → b.must = true →
      s.on F.REC_CFG_FULL_MODE = false → s.rec_.lost = [] →
      s.rec_.pos % s.recRing + s.recSize b.payload.length ≤ s.recRing →
    Completes .recordWrite s fun t => t.rec_.staged = [] ∧ t.rec_.assigned = some (s.get F.REC_SEQ_NEXT)
      ∧ t.get F.REC_SEQ_NEXT = (s.get F.REC_SEQ_NEXT + 1) % 2 ^ 64 ∧ t.rec_.pos = s.rec_.pos + s.recSize b.payload.length
      ∧ t.recState = RecSt.recording)
  ∧ (∀ s : State, s.recState ≠ RecSt.recording → s.recState ≠ RecSt.stopping →
    Completes .recordWrite s fun t => t = { s with pins := s.pinsNow })
  ∧ (∀ s : State,
    (s.recState = RecSt.recording → s.recPowered = true → s.cfg F.REC_FLUSH_PER ≤ s.rec_.since → Completes .recFlushPeriod s fun t =>
        t.rec_.flight.getLast? = some .flush ∧ t.rec_.since = 0 ∧ t.rec_.part = s.rec_.part)
    ∧ (s.rec_.since < s.cfg F.REC_FLUSH_PER → Completes .recFlushPeriod s fun t => t = { s with pins := s.pinsNow }))
  ∧ (∀ s : State,
    (s.recState = RecSt.full → s.on F.REC_CFG_FULL_MODE = true → s.recPowered = true → s.recRoom s.gapBytes.length = true →
      Completes .recResume s fun t => t.recState = RecSt.recording ∧ t.rec_.lost = [] ∧ Signalled 896 s t)
    ∧ (s.recState ≠ RecSt.full → Completes .recResume s fun t => t = { s with pins := s.pinsNow }))
  ∧ (∀ (s : State) (why : DriveFault),
    (s.recState ≠ RecSt.idle → s.recState ≠ RecSt.driveLost → s.mbox.busy = none → Completes (.driveLost why) s fun t =>
        t.recState = RecSt.driveLost ∧ t.rec_.flight = [] ∧ t.rec_.staged = [] ∧ t.bit F.REC_STICKY_DRIVE_LOST_SEEN = true
          ∧ (why = .removed → t.bit F.REC_STATUS_DRIVE_PRESENT = false) ∧ Signalled 896 s t)
    ∧ (s.recState = RecSt.idle → Completes (.driveLost why) s fun t => t.recState = RecSt.idle ∧ t.rec_ = s.rec_))
  ∧ (∀ (s : State) (ok : Bool), s.rec_.flight = [] → Completes (.nvmeCompletion ok) s fun t => t = { s with pins := s.pinsNow })
  ∧ (∀ (s : State) (n : Fin 16) (c : Cmd) (ns : Nat) (r : List NvmeCmd), s.rec_.flight = .init ns :: r → s.Executing 0x50 c →
      c.src = .slot n.val → s.recState = RecSt.starting →
    Completes (.nvmeCompletion true) s (fun t => t.recState = RecSt.recording ∧ ClosedUp n.val c 0 t
        ∧ t.bit F.REC_STATUS_DRIVE_PRESENT = true)
      ∧ Completes (.nvmeCompletion false) s fun t => t.recState = RecSt.idle ∧ ClosedUp n.val c Rc.refused t
        ∧ t.bit F.REC_STICKY_NVME_ERR = true)
  ∧ (∀ (s : State) (lba : Nat) (bs : List Byte) (fua : Bool) (last : Option Nat) (r : List NvmeCmd),
      s.rec_.flight = .write lba bs fua last :: r → lba * s.recBs + bs.length ≤ 2 ^ 64 →
    Completes (.nvmeCompletion true) s (fun t => t.rec_.flight = r ∧ t.rec_.written = last.or s.rec_.written
        ∧ t.rdBytes Sp.nvme (lba * s.recBs) bs.length = bs ∧ t.recState = s.recState
        ∧ (∀ q, fua = true → last = some q → q < 2 ^ 64 → s.rec_.durable = none → t.get F.REC_DURABLE_SEQ = q))
      ∧ (s.recState = RecSt.recording → s.mbox.busy = none → Completes (.nvmeCompletion false) s fun t =>
        t.recState = RecSt.driveLost ∧ t.rec_.flight = [] ∧ t.bit F.REC_STICKY_NVME_ERR = true))
  ∧ (∀ (s : State) (n : Fin 16) (c : Cmd) (b : Busy) (q : Nat) (r : List NvmeCmd), s.rec_.flight = .flush :: r →
      s.mbox.busy = some b → b.cmd = c → b.jseq = none → c.op = 0x52 → b.n ≤ 1 → c.src = .slot n.val → s.rec_.written = some q →
      s.rec_.durable = none → q < 2 ^ 64 →
    Completes (.nvmeCompletion true) s fun t => ClosedUp n.val c 0 t ∧ t.get F.REC_DURABLE_SEQ = q
      ∧ t.get (F.SUP_MBOX_ARG n.val 0) = q % 2 ^ 32)
  ∧ (∀ (s : State) (n : Fin 16) (c : Cmd) (lba blocks addr : Nat) (r : List NvmeCmd), s.rec_.flight = .read lba blocks addr :: r →
      s.Executing 0x53 c → c.src = .slot n.val → addr + blocks * s.recBs ≤ 2 ^ 26 →
    Completes (.nvmeCompletion true) s fun t => ClosedUp n.val c 0 t
      ∧ t.rdBytes Sp.sram addr (blocks * s.recBs) = s.rdBytes Sp.nvme (lba * s.recBs) (blocks * s.recBs))
  ∧ (∀ s : State, s.on F.TAL_CTRL_ENABLE = true → s.tick % s.cfg F.TAL_CTRL_PERIOD = 0 →
    (ringFull (s.cfg F.TAL_RING_SLOTS) (s.get F.TAL_RING_HEAD) (s.get F.TAL_RING_TAIL) = false →
        (s.on F.TAL_CTRL_WHERE = true → s.linkUp = true) → Completes .tallySnapshot s fun t =>
        t.get F.TAL_RING_TAIL = (s.get F.TAL_RING_TAIL + 1) % 2 ^ s.cfg F.TAL_RING_SLOTS
          ∧ t.rdLE (if s.on F.TAL_CTRL_WHERE then Sp.host else Sp.sram)
              (s.cfg F.TAL_RING_BASE * 2048 + 2048 * s.get F.TAL_RING_TAIL) 8 = s.tick * 8192 % 2 ^ 64
          ∧ t.rdLE (if s.on F.TAL_CTRL_WHERE then Sp.host else Sp.sram)
              (s.cfg F.TAL_RING_BASE * 2048 + 2048 * s.get F.TAL_RING_TAIL + 8) 8 = s.tally.seq % 2 ^ 64)
    ∧ (ringFull (s.cfg F.TAL_RING_SLOTS) (s.get F.TAL_RING_HEAD) (s.get F.TAL_RING_TAIL) = true → Completes .tallySnapshot s fun t =>
        t.bit F.TAL_STICKY_SNAP_LOST = true ∧ t.get F.TAL_RING_TAIL = s.get F.TAL_RING_TAIL ∧ Signalled 965 s t))
  ∧ (∀ s : State, s.on F.TAL_CTRL_ENABLE = false → Completes .tallySnapshot s fun t => t = { s with pins := s.pinsNow })
end

