-- ==== Sys2Proof/Laws/Sparse.lean ====
section
/-! SUPPORT. Laws of sparse sorted maps: read after write, other keys, and the canonical form that every operation keeps. -/

namespace Sys2Proof.Machine

variable {β : Type}

theorem Sparse.find_erase (m : List (Nat × β)) (k j : Nat) :
    Sparse.find (Sparse.erase m k) j = if j = k then none else Sparse.find m j := by
  induction m with
  | nil => simp [Sparse.erase, Sparse.find]
  | cons p r ih =>
    obtain ⟨a, b⟩ := p
    by_cases h : a = k
    · simp only [Sparse.erase, h, if_true, ih, Sparse.find]
      by_cases hj : j = k
      · simp [hj]
      · have hk : ¬ k = j := fun e => hj e.symm
        simp [hj, hk]
    · simp only [Sparse.erase, h, if_false, Sparse.find, ih]
      by_cases hj : j = k
      · have : ¬ a = j := fun e => h (e.trans hj)
        simp [hj, h]
      · simp [hj]

theorem Sparse.find_insert (m : List (Nat × β)) (k j : Nat) (v : β) (h : Sparse.find m k = none) :
    Sparse.find (Sparse.insert m k v) j = if j = k then some v else Sparse.find m j := by
  induction m with
  | nil =>
    by_cases hj : j = k
    · simp [Sparse.insert, Sparse.find, hj]
    · have : ¬ k = j := fun e => hj e.symm
      simp [Sparse.insert, Sparse.find, hj, this]
  | cons p r ih =>
    obtain ⟨a, b⟩ := p
    have hak : ¬ a = k := by
      intro e; simp [Sparse.find, e] at h
    have hr : Sparse.find r k = none := by simpa [Sparse.find, hak] using h
    by_cases hlt : a < k
    · simp only [Sparse.insert, hlt, if_true, Sparse.find, ih hr]
      by_cases hj : j = k
      · simp [hj, hak]
      · simp [hj]
    · simp only [Sparse.insert, hlt, if_false]
      by_cases hj : j = k
      · simp [Sparse.find, hj]
      · have : ¬ k = j := fun e => hj e.symm
        simp [Sparse.find, hj, this]

variable [DecidableEq β]

/-- A write and a read of one key, and of any other. -/
theorem Sparse.get_set (d : β) (m : List (Nat × β)) (k j : Nat) (v : β) :
    Sparse.get d (Sparse.set d m k v) j = if j = k then v else Sparse.get d m j := by
  unfold Sparse.set Sparse.get
  by_cases hv : v = d
  · rw [if_pos hv, Sparse.find_erase]
    by_cases hj : j = k <;> simp [hj, hv]
  · have hn : Sparse.find (Sparse.erase m k) k = none := by simp [Sparse.find_erase]
    rw [if_neg hv, Sparse.find_insert _ _ _ _ hn, Sparse.find_erase]
    by_cases hj : j = k <;> simp [hj]

/-- The default that a read falls back to does not matter to the writes of other keys. -/
theorem Sparse.get_set_ne (d e : β) (m : List (Nat × β)) (k j : Nat) (v : β) (h : j ≠ k) :
    Sparse.get d (Sparse.set e m k v) j = Sparse.get d m j := by
  unfold Sparse.set Sparse.get
  by_cases hv : v = e
  · rw [if_pos hv, Sparse.find_erase, if_neg h]
  · have hn : Sparse.find (Sparse.erase m k) k = none := by simp [Sparse.find_erase]
    rw [if_neg hv, Sparse.find_insert _ _ _ _ hn, if_neg h, Sparse.find_erase, if_neg h]

/-! ## The canonical form -/

/-- The canonical form, unfolded at a first entry: its value is not the default, every later key is larger, the rest is in the form. -/
theorem Sparse.wf_cons (d : β) (a : Nat) (b : β) (r : List (Nat × β)) :
    Sparse.wf d ((a, b) :: r) = true ↔ b ≠ d ∧ (∀ p ∈ r, a < p.1) ∧ Sparse.wf d r = true := by
  induction r generalizing a b with
  | nil => simp [Sparse.wf]
  | cons p r ih =>
    obtain ⟨a', b'⟩ := p
    have hw : Sparse.wf d ((a, b) :: (a', b') :: r) = (decide (b ≠ d) && decide (a < a') && Sparse.wf d ((a', b') :: r)) := rfl
    rw [hw]
    simp only [Bool.and_eq_true, decide_eq_true_eq, List.mem_cons, forall_eq_or_imp]
    constructor
    · rintro ⟨⟨h1, h2⟩, h3⟩
      refine ⟨h1, ⟨h2, fun p hp => ?_⟩, h3⟩
      exact Nat.lt_trans h2 (((ih a' b').mp h3).2.1 p hp)
    · rintro ⟨h1, ⟨h2, _⟩, h3⟩
      exact ⟨⟨h1, h2⟩, h3⟩

/-- Leaving entries out keeps the canonical form. -/
theorem Sparse.wf_filter (d : β) (m : List (Nat × β)) (f : Nat × β → Bool) (h : Sparse.wf d m = true) :
    Sparse.wf d (m.filter f) = true := by
  induction m with
  | nil => exact h
  | cons p r ih =>
    obtain ⟨a, b⟩ := p
    obtain ⟨h1, h2, h3⟩ := (Sparse.wf_cons d a b r).mp h
    by_cases hp : f (a, b)
    · rw [List.filter_cons_of_pos hp]
      refine (Sparse.wf_cons d a b _).mpr ⟨h1, fun q hq => h2 q (List.mem_of_mem_filter hq), ih h3⟩
    · rw [List.filter_cons_of_neg hp]; exact ih h3

theorem Sparse.erase_eq_filter (m : List (Nat × β)) (k : Nat) : Sparse.erase m k = m.filter fun p => p.1 ≠ k := by
  induction m with
  | nil => rfl
  | cons p r ih =>
    obtain ⟨a, b⟩ := p
    by_cases h : a = k
    · simp [Sparse.erase, h, ih]
    · simp [Sparse.erase, h, ih]

theorem Sparse.mem_insert (m : List (Nat × β)) (k : Nat) (v : β) (p : Nat × β) :
    p ∈ Sparse.insert m k v ↔ p = (k, v) ∨ p ∈ m := by
  induction m with
  | nil => simp [Sparse.insert]
  | cons q r ih =>
    obtain ⟨a, b⟩ := q
    by_cases h : a < k
    · simp only [Sparse.insert, h, if_true, List.mem_cons, ih]; tauto
    · simp only [Sparse.insert, h, if_false, List.mem_cons]

theorem Sparse.wf_insert (d : β) (m : List (Nat × β)) (k : Nat) (v : β) (hv : v ≠ d) (hk : ∀ p ∈ m, p.1 ≠ k)
    (h : Sparse.wf d m = true) : Sparse.wf d (Sparse.insert m k v) = true := by
  induction m with
  | nil => simp [Sparse.insert, Sparse.wf, hv]
  | cons p r ih =>
    obtain ⟨a, b⟩ := p
    obtain ⟨h1, h2, h3⟩ := (Sparse.wf_cons d a b r).mp h
    have hak : a ≠ k := hk (a, b) (List.mem_cons_self ..)
    by_cases hlt : a < k
    · simp only [Sparse.insert, hlt, if_true]
      refine (Sparse.wf_cons d a b _).mpr ⟨h1, fun q hq => ?_, ih (fun q hq => hk q (List.mem_cons_of_mem _ hq)) h3⟩
      rcases (Sparse.mem_insert r k v q).mp hq with e | e
      · rw [e]; exact hlt
      · exact h2 q e
    · simp only [Sparse.insert, hlt, if_false]
      refine (Sparse.wf_cons d k v _).mpr ⟨hv, fun q hq => ?_, h⟩
      rcases List.mem_cons.mp hq with e | e
      · rw [e]; exact Nat.lt_of_le_of_ne (Nat.le_of_not_lt hlt) (fun e => hak e.symm)
      · exact Nat.lt_trans (Nat.lt_of_le_of_ne (Nat.le_of_not_lt hlt) (fun e => hak e.symm)) (h2 q e)

/-- A write keeps the canonical form. -/
theorem Sparse.wf_set (d : β) (m : List (Nat × β)) (k : Nat) (v : β) (h : Sparse.wf d m = true) :
    Sparse.wf d (Sparse.set d m k v) = true := by
  unfold Sparse.set
  rw [Sparse.erase_eq_filter]
  have hf := Sparse.wf_filter d m (fun p => p.1 ≠ k) h
  by_cases hv : v = d
  · rw [if_pos hv]; exact hf
  · rw [if_neg hv]
    refine Sparse.wf_insert d _ k v hv (fun p hp => ?_) hf
    simpa using (List.mem_filter.mp hp).2

end Sys2Proof.Machine
end

