-- ==== Sys2Proof/Laws/Memory.lean ====
section
/-! SUPPORT. Laws of the byte memories: read after write, other bytes, and the canonical form `Memory.wf` that every memory
operation keeps. -/

namespace Sys2Proof.Machine

theorem Memory.read_write (m : List Host.Cell) (k j : Nat) (b : Byte) :
    Memory.read (Memory.write m k b) j = if j = k then b else Memory.read m j := Sparse.get_set _ _ _ _ _

theorem Memory.wf_write (m : List Host.Cell) (k : Nat) (b : Byte) (h : Memory.wf m = true) :
    Memory.wf (Memory.write m k b) = true := Sparse.wf_set _ _ _ _ h

theorem Memory.wf_writeAll (m : List Host.Cell) (k : Nat) (bs : List Byte) (h : Memory.wf m = true) :
    Memory.wf (Memory.writeAll m k bs) = true := by
  induction bs generalizing m k with
  | nil => exact h
  | cons b r ih => exact ih _ _ (Memory.wf_write m k b h)

theorem Memory.wf_filter (m : List Host.Cell) (f : Host.Cell → Bool) (h : Memory.wf m = true) :
    Memory.wf (m.filter f) = true := Sparse.wf_filter _ m f h

/-- What bytes written at rising keys read as: the byte written, or what the key read as before. -/
theorem Memory.read_writeAll (m : List Host.Cell) (k j : Nat) (bs : List Byte) :
    Memory.read (Memory.writeAll m k bs) j = if h : k ≤ j ∧ j < k + bs.length then bs[j - k]'(by omega) else Memory.read m j := by
  induction bs generalizing m k with
  | nil =>
    have h : ¬ (k ≤ j ∧ j < k + ([] : List Byte).length) := by simp
    rw [dif_neg h]; rfl
  | cons b r ih =>
    rw [Memory.writeAll, ih, Memory.read_write]
    by_cases h1 : k + 1 ≤ j ∧ j < k + 1 + r.length
    · have h2 : k ≤ j ∧ j < k + (b :: r).length := by simp only [List.length_cons]; omega
      rw [dif_pos h1, dif_pos h2]
      have e : j - k = (j - (k + 1)) + 1 := by omega
      simp only [e, List.getElem_cons_succ]
    · rw [dif_neg h1]
      by_cases h3 : j = k
      · have h2 : k ≤ j ∧ j < k + (b :: r).length := by simp only [List.length_cons]; omega
        rw [if_pos h3, dif_pos h2]; simp [h3]
      · have h2 : ¬ (k ≤ j ∧ j < k + (b :: r).length) := by simp only [List.length_cons]; omega
        rw [if_neg h3, dif_neg h2]

/-- The memory of a state is in canonical form. -/
def State.memWf (s : State) : Prop := Memory.wf s.mem = true

theorem State.memWf_wr (s : State) (sp a : Nat) (bs : List Byte) (h : s.memWf) : (s.wr sp a bs).memWf :=
  Memory.wf_writeAll _ _ _ h
theorem State.memWf_wrLE (s : State) (sp a n v : Nat) (h : s.memWf) : (s.wrLE sp a n v).memWf := State.memWf_wr s sp a _ h
theorem State.memWf_dropSpaces (s : State) (drop : Nat → Bool) (h : s.memWf) : (s.dropSpaces drop).memWf :=
  Memory.wf_filter _ _ h
theorem State.memWf_zeroSpan (s : State) (sp a n : Nat) (h : s.memWf) : (s.zeroSpan sp a n).memWf :=
  Memory.wf_filter _ _ h
/-- A state with the same memory is in canonical form too. -/
theorem State.memWf_of_mem {s t : State} (e : t.mem = s.mem) (h : s.memWf) : t.memWf := by
  unfold State.memWf at *; rw [e]; exact h

theorem State.memWf_reset : State.reset.memWf := rfl

/-- Keys of distinct spaces differ. -/
theorem memKey_space (sp sp' a a' : Nat) (h : sp ≠ sp') : memKey sp a ≠ memKey sp' a' := by
  unfold memKey
  have h1 : a % 2 ^ 64 < 2 ^ 64 := Nat.mod_lt _ (Nat.two_pow_pos 64)
  have h2 : a' % 2 ^ 64 < 2 ^ 64 := Nat.mod_lt _ (Nat.two_pow_pos 64)
  omega

/-- Bytes written within a space leave every byte outside them as it was. -/
theorem State.rd_wr_outside (s : State) (sp a sp' a' : Nat) (bs : List Byte)
    (h : memKey sp' a' < memKey sp a ∨ memKey sp a + bs.length ≤ memKey sp' a') :
    (s.wr sp a bs).rd sp' a' = s.rd sp' a' := by
  unfold State.rd State.wr
  simp only [Memory.read_writeAll]
  rw [dif_neg]; omega

/-- A byte written reads back. -/
theorem State.rd_wr_inside (s : State) (sp a i : Nat) (bs : List Byte) (hi : i < bs.length) (hk : memKey sp (a + i) = memKey sp a + i) :
    (s.wr sp a bs).rd sp (a + i) = bs[i] := by
  unfold State.rd State.wr
  simp only [Memory.read_writeAll, hk]
  rw [dif_pos (by omega)]
  congr 1; omega

/-- Bytes read back from a string written at address 0 of a space. -/
theorem State.rdBytes_wr_zero (s : State) (sp k n : Nat) (bs : List Byte) (h : k + n ≤ bs.length) (hl : bs.length ≤ 2 ^ 64) :
    (s.wr sp 0 bs).rdBytes sp k n = (bs.drop k).take n := by
  refine List.ext_getElem (by simp [State.rdBytes]; omega) fun i h1 h2 => ?_
  have hi : i < n := by simpa [State.rdBytes] using h1
  have hk : memKey sp (0 + (k + i)) = memKey sp 0 + (k + i) := by unfold memKey; omega
  have := State.rd_wr_inside s sp 0 (k + i) bs (by omega) hk
  simp only [Nat.zero_add] at this
  simp [State.rdBytes, this]

end Sys2Proof.Machine
end

