-- ==== Sys2Proof/Laws/Registers.lean ====
section
/-! SUPPORT. Laws of the register file: a field reads what was set, and every other field reads as before; what the operations
on fields leave alone. -/

namespace Sys2Proof.Machine

/-! ## Words -/

theorem State.word_lt (s : State) (k : Nat) : s.word k < 2 ^ 32 := BitVec.isLt _
theorem State.liveWord_lt (s : State) (k : Nat) : s.liveWord k < 2 ^ 32 := BitVec.isLt _

theorem State.word_setWord (s : State) (k j v : Nat) : (s.setWord k v).word j = if j = k then v % 2 ^ 32 else s.word j := by
  unfold State.word State.setWord
  by_cases h : j = k
  · subst h; simp [Sparse.get_set]
  · simp only [if_neg h]; rw [Sparse.get_set_ne _ _ _ _ _ _ h]

@[simp] theorem State.word_setWord_same (s : State) (k v : Nat) : (s.setWord k v).word k = v % 2 ^ 32 := by
  simp [State.word_setWord]
theorem State.word_setWord_ne (s : State) (k j v : Nat) (h : j ≠ k) : (s.setWord k v).word j = s.word j := by
  simp [State.word_setWord, h]
@[simp] theorem State.liveWord_setWord (s : State) (k j v : Nat) : (s.setWord k v).liveWord j = s.liveWord j := rfl
@[simp] theorem State.word_setLive (s : State) (k j v : Nat) : (s.setLive k v).word j = s.word j := rfl
theorem State.liveWord_setLive (s : State) (k j v : Nat) :
    (s.setLive k v).liveWord j = if j = k then v % 2 ^ 32 else s.liveWord j := by
  unfold State.liveWord State.setLive
  by_cases h : j = k
  · subst h; simp [Sparse.get_set]
  · simp only [if_neg h]; rw [Sparse.get_set_ne _ _ _ _ _ _ h]

/-! ## Fields -/

/-- The register words a field lies in. -/
def Fld.keys (f : Fld) : List Nat := if f.lo + f.w ≤ 32 then [f.reg] else [f.reg, f.reg + 4]
/-- Whether two fields share no bit: no common word, or bits apart in one word. -/
def Fld.apart (f g : Fld) : Bool :=
  (f.keys.all fun k => !g.keys.contains k)
    || (decide (f.lo + f.w ≤ 32) && decide (g.lo + g.w ≤ 32) && decide (f.reg = g.reg)
      && (decide (f.lo + f.w ≤ g.lo) || decide (g.lo + g.w ≤ f.lo)))

/-- A field reads alike in states whose words at its keys agree. -/
theorem State.get_congr {s t : State} (f : Fld) (h : ∀ k ∈ f.keys, t.word k = s.word k) : t.get f = s.get f := by
  unfold State.get
  unfold Fld.keys at h
  by_cases hn : f.lo + f.w ≤ 32
  · simp only [hn, if_true, List.mem_singleton, forall_eq] at h ⊢; rw [h]
  · simp only [hn, if_false, List.mem_cons, List.not_mem_nil, or_false, forall_eq_or_imp, forall_eq] at h ⊢
    rw [h.1, h.2]

/-- Setting a field writes no word but its own. -/
theorem State.word_set_ne (s : State) (f : Fld) (v k : Nat) (h : k ∉ f.keys) : (s.set f v).word k = s.word k := by
  unfold Fld.keys at h
  unfold State.set
  by_cases hn : f.lo + f.w ≤ 32
  · simp only [hn, if_true, List.mem_singleton] at h ⊢; rw [State.word_setWord_ne _ _ _ _ h]
  · simp only [hn, if_false, List.mem_cons, List.not_mem_nil, or_false, not_or] at h ⊢
    rw [State.word_setWord_ne _ _ _ _ h.2, State.word_setWord_ne _ _ _ _ h.1]

/-- A field of at most 64 bits reads the value it was set to, as far as it fits. -/
theorem State.get_set_same (s : State) (f : Fld) (v : Nat) (h : f.lo + f.w ≤ 64) : (s.set f v).get f = v % 2 ^ f.w := by
  unfold State.get State.set
  by_cases hn : f.lo + f.w ≤ 32
  · simp only [hn, if_true]
    rw [State.word_setWord_same, Nat.mod_eq_of_lt (putBits_lt _ _ _ _ 32 (s.word_lt _) hn), bitsOf_putBits_same]
  · simp only [hn, if_false]
    have hne : f.reg ≠ f.reg + 4 := by omega
    rw [State.word_setWord_ne _ _ _ _ hne, State.word_setWord_same, State.word_setWord_same]
    have hlt : s.word f.reg + 2 ^ 32 * s.word (f.reg + 4) < 2 ^ 64 := by
      have h1 := s.word_lt f.reg
      have h2 := s.word_lt (f.reg + 4)
      omega
    have hp := putBits_lt _ _ _ v 64 hlt h
    have hb := bitsOf_putBits_same (s.word f.reg + 2 ^ 32 * s.word (f.reg + 4)) f.lo f.w v
    generalize putBits (s.word f.reg + 2 ^ 32 * s.word (f.reg + 4)) f.lo f.w v = n at hp hb ⊢
    have e : n % 2 ^ 32 % 2 ^ 32 + 2 ^ 32 * (n / 2 ^ 32 % 2 ^ 32) = n := by omega
    rw [e, hb]

theorem State.get_set_same_lt (s : State) (f : Fld) (v : Nat) (h : f.lo + f.w ≤ 64) (hv : v < 2 ^ f.w) : (s.set f v).get f = v := by
  rw [State.get_set_same _ _ _ h, Nat.mod_eq_of_lt hv]

/-- A field apart from the one set reads as before. -/
theorem State.get_set_apart (s : State) (f g : Fld) (v : Nat) (h : f.apart g = true) : (s.set f v).get g = s.get g := by
  unfold Fld.apart at h
  rw [Bool.or_eq_true] at h
  rcases h with h | h
  · refine State.get_congr g fun k hk => State.word_set_ne s f v k fun hf => ?_
    have := List.all_eq_true.mp h k hf
    simp [hk] at this
  · simp only [Bool.and_eq_true, Bool.or_eq_true, decide_eq_true_eq] at h
    obtain ⟨⟨⟨hf, hg⟩, hr⟩, ho⟩ := h
    unfold State.get State.set
    simp only [hf, hg, if_true]
    rw [← hr, State.word_setWord_same, Nat.mod_eq_of_lt (putBits_lt _ _ _ _ 32 (s.word_lt _) hf)]
    exact bitsOf_putBits_other _ _ _ _ _ _ (by omega)

theorem State.get_lt (s : State) (f : Fld) : s.get f < 2 ^ f.w := by
  unfold State.get; split <;> exact bitsOf_lt _ _ _

theorem State.bit_set_apart (s : State) (f g : Fld) (v : Nat) (h : f.apart g = true) : (s.set f v).bit g = s.bit g := by
  unfold State.bit; rw [State.get_set_apart _ _ _ _ h]
theorem State.get_put_apart (s : State) (f g : Fld) (b : Bool) (h : f.apart g = true) : (s.put f b).get g = s.get g :=
  State.get_set_apart _ _ _ _ h
theorem State.bit_put_apart (s : State) (f g : Fld) (b : Bool) (h : f.apart g = true) : (s.put f b).bit g = s.bit g :=
  State.bit_set_apart _ _ _ _ h
theorem State.get_put_same (s : State) (f : Fld) (b : Bool) (h : f.lo + f.w ≤ 64) (hw : 0 < f.w) : (s.put f b).get f = b2n b := by
  refine State.get_set_same_lt _ _ _ h ?_
  have h1 := b2n_lt b
  have h2 : 2 ^ 1 ≤ 2 ^ f.w := Nat.pow_le_pow_right (by omega) hw
  omega
theorem State.bit_put_same (s : State) (f : Fld) (b : Bool) (h : f.lo + f.w ≤ 64) (hw : 0 < f.w) : (s.put f b).bit f = b := by
  unfold State.bit; rw [State.get_put_same _ _ _ h hw]; cases b <;> rfl
theorem State.get_orF_apart (s : State) (f g : Fld) (v : Nat) (h : f.apart g = true) : (s.orF f v).get g = s.get g :=
  State.get_set_apart _ _ _ _ h
theorem State.get_orF_same (s : State) (f : Fld) (v : Nat) (h : f.lo + f.w ≤ 64) (hv : v < 2 ^ f.w) :
    (s.orF f v).get f = s.get f ||| v := State.get_set_same_lt _ _ _ h (Nat.or_lt_two_pow (s.get_lt f) hv)
theorem State.get_inc_apart (s : State) (f g : Fld) (n : Nat) (h : f.apart g = true) : (s.inc f n).get g = s.get g :=
  State.get_set_apart _ _ _ _ h
theorem State.get_inc_same (s : State) (f : Fld) (n : Nat) (h : f.lo + f.w ≤ 64) : (s.inc f n).get f = (s.get f + n) % 2 ^ f.w := by
  unfold State.inc; rw [State.get_set_same _ _ _ h, Nat.mod_mod]
theorem State.get_incSat_apart (s : State) (f g : Fld) (h : f.apart g = true) : (s.incSat f).get g = s.get g := by
  unfold State.incSat; split
  · exact State.get_set_apart _ _ _ _ h
  · rfl

/-! ## Words that an operation writes, by block -/

theorem State.word_put_ne (s : State) (f : Fld) (b : Bool) (k : Nat) (h : k ∉ f.keys) : (s.put f b).word k = s.word k :=
  State.word_set_ne _ _ _ _ h
theorem State.word_orF_ne (s : State) (f : Fld) (v k : Nat) (h : k ∉ f.keys) : (s.orF f v).word k = s.word k :=
  State.word_set_ne _ _ _ _ h
theorem State.word_inc_ne (s : State) (f : Fld) (n k : Nat) (h : k ∉ f.keys) : (s.inc f n).word k = s.word k :=
  State.word_set_ne _ _ _ _ h
theorem State.word_incSat_ne (s : State) (f : Fld) (k : Nat) (h : k ∉ f.keys) : (s.incSat f).word k = s.word k := by
  unfold State.incSat; split
  · exact State.word_set_ne _ _ _ _ h
  · rfl

/-! ## Control outputs (R13, R139, R143) -/

theorem State.liveWord_set (s : State) (f : Fld) (v k : Nat) : (s.set f v).liveWord k = s.liveWord k := by
  unfold State.set; split <;> rfl
theorem State.heldOf_set (s : State) (f : Fld) (v k : Nat) : (s.set f v).heldOf k = s.heldOf k := by
  unfold State.set; split <;> rfl

/-- A control word acts alike in states that agree on its words and its freeze. -/
theorem State.ctlWord_congr {s t : State} (fr : Bool) (k : Nat) (hw : t.word k = s.word k) (hl : t.liveWord k = s.liveWord k)
    (hh : t.heldOf k = s.heldOf k) : t.ctlWord fr k = s.ctlWord fr k := by
  unfold State.ctlWord; rw [hh, hw, hl]

theorem State.cfg_congr {s t : State} (f : Fld) (hw : ∀ k ∈ f.keys, t.word k = s.word k)
    (hl : ∀ k ∈ f.keys, t.liveWord k = s.liveWord k) (hh : ∀ k ∈ f.keys, t.heldOf k = s.heldOf k) : t.cfg f = s.cfg f := by
  have hc : ∀ k ∈ f.keys, t.ctlWord f.frame k = s.ctlWord f.frame k := fun k hk =>
    State.ctlWord_congr _ _ (hw k hk) (hl k hk) (hh k hk)
  unfold State.cfg
  unfold Fld.keys at hc
  by_cases hn : f.lo + f.w ≤ 32
  · simp only [hn, if_true, List.mem_singleton, forall_eq] at hc ⊢; rw [hc]
  · simp only [hn, if_false, List.mem_cons, List.not_mem_nil, or_false, forall_eq_or_imp, forall_eq] at hc ⊢
    rw [hc.1, hc.2]

/-- Setting a field leaves the configuration of fields in other words as it acts. -/
theorem State.cfg_set_ne (s : State) (f g : Fld) (v : Nat) (h : ∀ k ∈ g.keys, k ∉ f.keys) : (s.set f v).cfg g = s.cfg g :=
  State.cfg_congr g (fun k hk => State.word_set_ne s f v k (h k hk)) (fun k _ => State.liveWord_set s f v k)
    fun k _ => State.heldOf_set s f v k
theorem State.on_set_ne (s : State) (f g : Fld) (v : Nat) (h : ∀ k ∈ g.keys, k ∉ f.keys) : (s.set f v).on g = s.on g := by
  unfold State.on; rw [State.cfg_set_ne _ _ _ _ h]

end Sys2Proof.Machine
end

