-- ==== Sys2Proof/Laws/State.lean ====
section
/-! SUPPORT. What each operation leaves alone of the state, one lemma per field, and what the answer of a command is. -/

namespace Sys2Proof.Machine


/-! ## `setWord` -/

@[simp] theorem State.setWord_mem (s : State) (k v : Nat) : (s.setWord k v).mem = s.mem := rfl
@[simp] theorem State.setWord_clk (s : State) (k v : Nat) : (s.setWord k v).clk = s.clk := rfl
@[simp] theorem State.setWord_evt (s : State) (k v : Nat) : (s.setWord k v).evt = s.evt := rfl
@[simp] theorem State.setWord_pwr (s : State) (k v : Nat) : (s.setWord k v).pwr = s.pwr := rfl
@[simp] theorem State.setWord_hoists (s : State) (k v : Nat) : (s.setWord k v).hoists = s.hoists := rfl
@[simp] theorem State.setWord_ctx (s : State) (k v : Nat) : (s.setWord k v).ctx = s.ctx := rfl
@[simp] theorem State.setWord_images (s : State) (k v : Nat) : (s.setWord k v).images = s.images := rfl
@[simp] theorem State.setWord_queues (s : State) (k v : Nat) : (s.setWord k v).queues = s.queues := rfl
@[simp] theorem State.setWord_ckus (s : State) (k v : Nat) : (s.setWord k v).ckus = s.ckus := rfl
@[simp] theorem State.setWord_marks (s : State) (k v : Nat) : (s.setWord k v).marks = s.marks := rfl
@[simp] theorem State.setWord_sampled (s : State) (k v : Nat) : (s.setWord k v).sampled = s.sampled := rfl
@[simp] theorem State.setWord_lin (s : State) (k v : Nat) : (s.setWord k v).lin = s.lin := rfl
@[simp] theorem State.setWord_map (s : State) (k v : Nat) : (s.setWord k v).map = s.map := rfl
@[simp] theorem State.setWord_sels (s : State) (k v : Nat) : (s.setWord k v).sels = s.sels := rfl
@[simp] theorem State.setWord_vox (s : State) (k v : Nat) : (s.setWord k v).vox = s.vox := rfl
@[simp] theorem State.setWord_pair (s : State) (k v : Nat) : (s.setWord k v).pair = s.pair := rfl
@[simp] theorem State.setWord_mbox (s : State) (k v : Nat) : (s.setWord k v).mbox = s.mbox := rfl
@[simp] theorem State.setWord_boot (s : State) (k v : Nat) : (s.setWord k v).boot = s.boot := rfl
@[simp] theorem State.setWord_rec_ (s : State) (k v : Nat) : (s.setWord k v).rec_ = s.rec_ := rfl
@[simp] theorem State.setWord_hal (s : State) (k v : Nat) : (s.setWord k v).hal = s.hal := rfl
@[simp] theorem State.setWord_tally (s : State) (k v : Nat) : (s.setWord k v).tally = s.tally := rfl
@[simp] theorem State.setWord_offered (s : State) (k v : Nat) : (s.setWord k v).offered = s.offered := rfl
@[simp] theorem State.setWord_pins (s : State) (k v : Nat) : (s.setWord k v).pins = s.pins := rfl
@[simp] theorem State.setWord_out (s : State) (k v : Nat) : (s.setWord k v).out = s.out := rfl
@[simp] theorem State.setWord_free (s : State) (k v : Nat) : (s.setWord k v).free = s.free := rfl
@[simp] theorem State.setWord_pending (s : State) (k v : Nat) : (s.setWord k v).pending = s.pending := rfl

/-! ## `setLive` -/

@[simp] theorem State.setLive_mem (s : State) (k v : Nat) : (s.setLive k v).mem = s.mem := rfl
@[simp] theorem State.setLive_clk (s : State) (k v : Nat) : (s.setLive k v).clk = s.clk := rfl
@[simp] theorem State.setLive_evt (s : State) (k v : Nat) : (s.setLive k v).evt = s.evt := rfl
@[simp] theorem State.setLive_pwr (s : State) (k v : Nat) : (s.setLive k v).pwr = s.pwr := rfl
@[simp] theorem State.setLive_hoists (s : State) (k v : Nat) : (s.setLive k v).hoists = s.hoists := rfl
@[simp] theorem State.setLive_ctx (s : State) (k v : Nat) : (s.setLive k v).ctx = s.ctx := rfl
@[simp] theorem State.setLive_images (s : State) (k v : Nat) : (s.setLive k v).images = s.images := rfl
@[simp] theorem State.setLive_queues (s : State) (k v : Nat) : (s.setLive k v).queues = s.queues := rfl
@[simp] theorem State.setLive_ckus (s : State) (k v : Nat) : (s.setLive k v).ckus = s.ckus := rfl
@[simp] theorem State.setLive_marks (s : State) (k v : Nat) : (s.setLive k v).marks = s.marks := rfl
@[simp] theorem State.setLive_sampled (s : State) (k v : Nat) : (s.setLive k v).sampled = s.sampled := rfl
@[simp] theorem State.setLive_lin (s : State) (k v : Nat) : (s.setLive k v).lin = s.lin := rfl
@[simp] theorem State.setLive_map (s : State) (k v : Nat) : (s.setLive k v).map = s.map := rfl
@[simp] theorem State.setLive_sels (s : State) (k v : Nat) : (s.setLive k v).sels = s.sels := rfl
@[simp] theorem State.setLive_vox (s : State) (k v : Nat) : (s.setLive k v).vox = s.vox := rfl
@[simp] theorem State.setLive_pair (s : State) (k v : Nat) : (s.setLive k v).pair = s.pair := rfl
@[simp] theorem State.setLive_mbox (s : State) (k v : Nat) : (s.setLive k v).mbox = s.mbox := rfl
@[simp] theorem State.setLive_boot (s : State) (k v : Nat) : (s.setLive k v).boot = s.boot := rfl
@[simp] theorem State.setLive_rec_ (s : State) (k v : Nat) : (s.setLive k v).rec_ = s.rec_ := rfl
@[simp] theorem State.setLive_hal (s : State) (k v : Nat) : (s.setLive k v).hal = s.hal := rfl
@[simp] theorem State.setLive_tally (s : State) (k v : Nat) : (s.setLive k v).tally = s.tally := rfl
@[simp] theorem State.setLive_offered (s : State) (k v : Nat) : (s.setLive k v).offered = s.offered := rfl
@[simp] theorem State.setLive_pins (s : State) (k v : Nat) : (s.setLive k v).pins = s.pins := rfl
@[simp] theorem State.setLive_out (s : State) (k v : Nat) : (s.setLive k v).out = s.out := rfl
@[simp] theorem State.setLive_free (s : State) (k v : Nat) : (s.setLive k v).free = s.free := rfl
@[simp] theorem State.setLive_pending (s : State) (k v : Nat) : (s.setLive k v).pending = s.pending := rfl

/-! ## `set` -/

@[simp] theorem State.set_mem (s : State) (f : Fld) (v : Nat) : (s.set f v).mem = s.mem := by unfold State.set; split <;> rfl
@[simp] theorem State.set_clk (s : State) (f : Fld) (v : Nat) : (s.set f v).clk = s.clk := by unfold State.set; split <;> rfl
@[simp] theorem State.set_evt (s : State) (f : Fld) (v : Nat) : (s.set f v).evt = s.evt := by unfold State.set; split <;> rfl
@[simp] theorem State.set_pwr (s : State) (f : Fld) (v : Nat) : (s.set f v).pwr = s.pwr := by unfold State.set; split <;> rfl
@[simp] theorem State.set_hoists (s : State) (f : Fld) (v : Nat) : (s.set f v).hoists = s.hoists := by unfold State.set; split <;> rfl
@[simp] theorem State.set_ctx (s : State) (f : Fld) (v : Nat) : (s.set f v).ctx = s.ctx := by unfold State.set; split <;> rfl
@[simp] theorem State.set_images (s : State) (f : Fld) (v : Nat) : (s.set f v).images = s.images := by unfold State.set; split <;> rfl
@[simp] theorem State.set_queues (s : State) (f : Fld) (v : Nat) : (s.set f v).queues = s.queues := by unfold State.set; split <;> rfl
@[simp] theorem State.set_ckus (s : State) (f : Fld) (v : Nat) : (s.set f v).ckus = s.ckus := by unfold State.set; split <;> rfl
@[simp] theorem State.set_marks (s : State) (f : Fld) (v : Nat) : (s.set f v).marks = s.marks := by unfold State.set; split <;> rfl
@[simp] theorem State.set_sampled (s : State) (f : Fld) (v : Nat) : (s.set f v).sampled = s.sampled := by unfold State.set; split <;> rfl
@[simp] theorem State.set_lin (s : State) (f : Fld) (v : Nat) : (s.set f v).lin = s.lin := by unfold State.set; split <;> rfl
@[simp] theorem State.set_map (s : State) (f : Fld) (v : Nat) : (s.set f v).map = s.map := by unfold State.set; split <;> rfl
@[simp] theorem State.set_sels (s : State) (f : Fld) (v : Nat) : (s.set f v).sels = s.sels := by unfold State.set; split <;> rfl
@[simp] theorem State.set_vox (s : State) (f : Fld) (v : Nat) : (s.set f v).vox = s.vox := by unfold State.set; split <;> rfl
@[simp] theorem State.set_pair (s : State) (f : Fld) (v : Nat) : (s.set f v).pair = s.pair := by unfold State.set; split <;> rfl
@[simp] theorem State.set_mbox (s : State) (f : Fld) (v : Nat) : (s.set f v).mbox = s.mbox := by unfold State.set; split <;> rfl
@[simp] theorem State.set_boot (s : State) (f : Fld) (v : Nat) : (s.set f v).boot = s.boot := by unfold State.set; split <;> rfl
@[simp] theorem State.set_rec_ (s : State) (f : Fld) (v : Nat) : (s.set f v).rec_ = s.rec_ := by unfold State.set; split <;> rfl
@[simp] theorem State.set_hal (s : State) (f : Fld) (v : Nat) : (s.set f v).hal = s.hal := by unfold State.set; split <;> rfl
@[simp] theorem State.set_tally (s : State) (f : Fld) (v : Nat) : (s.set f v).tally = s.tally := by unfold State.set; split <;> rfl
@[simp] theorem State.set_offered (s : State) (f : Fld) (v : Nat) : (s.set f v).offered = s.offered := by unfold State.set; split <;> rfl
@[simp] theorem State.set_pins (s : State) (f : Fld) (v : Nat) : (s.set f v).pins = s.pins := by unfold State.set; split <;> rfl
@[simp] theorem State.set_out (s : State) (f : Fld) (v : Nat) : (s.set f v).out = s.out := by unfold State.set; split <;> rfl
@[simp] theorem State.set_free (s : State) (f : Fld) (v : Nat) : (s.set f v).free = s.free := by unfold State.set; split <;> rfl
@[simp] theorem State.set_pending (s : State) (f : Fld) (v : Nat) : (s.set f v).pending = s.pending := by unfold State.set; split <;> rfl

/-! ## `put` -/

@[simp] theorem State.put_mem (s : State) (f : Fld) (b : Bool) : (s.put f b).mem = s.mem := State.set_mem ..
@[simp] theorem State.put_clk (s : State) (f : Fld) (b : Bool) : (s.put f b).clk = s.clk := State.set_clk ..
@[simp] theorem State.put_evt (s : State) (f : Fld) (b : Bool) : (s.put f b).evt = s.evt := State.set_evt ..
@[simp] theorem State.put_pwr (s : State) (f : Fld) (b : Bool) : (s.put f b).pwr = s.pwr := State.set_pwr ..
@[simp] theorem State.put_hoists (s : State) (f : Fld) (b : Bool) : (s.put f b).hoists = s.hoists := State.set_hoists ..
@[simp] theorem State.put_ctx (s : State) (f : Fld) (b : Bool) : (s.put f b).ctx = s.ctx := State.set_ctx ..
@[simp] theorem State.put_images (s : State) (f : Fld) (b : Bool) : (s.put f b).images = s.images := State.set_images ..
@[simp] theorem State.put_queues (s : State) (f : Fld) (b : Bool) : (s.put f b).queues = s.queues := State.set_queues ..
@[simp] theorem State.put_ckus (s : State) (f : Fld) (b : Bool) : (s.put f b).ckus = s.ckus := State.set_ckus ..
@[simp] theorem State.put_marks (s : State) (f : Fld) (b : Bool) : (s.put f b).marks = s.marks := State.set_marks ..
@[simp] theorem State.put_sampled (s : State) (f : Fld) (b : Bool) : (s.put f b).sampled = s.sampled := State.set_sampled ..
@[simp] theorem State.put_lin (s : State) (f : Fld) (b : Bool) : (s.put f b).lin = s.lin := State.set_lin ..
@[simp] theorem State.put_map (s : State) (f : Fld) (b : Bool) : (s.put f b).map = s.map := State.set_map ..
@[simp] theorem State.put_sels (s : State) (f : Fld) (b : Bool) : (s.put f b).sels = s.sels := State.set_sels ..
@[simp] theorem State.put_vox (s : State) (f : Fld) (b : Bool) : (s.put f b).vox = s.vox := State.set_vox ..
@[simp] theorem State.put_pair (s : State) (f : Fld) (b : Bool) : (s.put f b).pair = s.pair := State.set_pair ..
@[simp] theorem State.put_mbox (s : State) (f : Fld) (b : Bool) : (s.put f b).mbox = s.mbox := State.set_mbox ..
@[simp] theorem State.put_boot (s : State) (f : Fld) (b : Bool) : (s.put f b).boot = s.boot := State.set_boot ..
@[simp] theorem State.put_rec_ (s : State) (f : Fld) (b : Bool) : (s.put f b).rec_ = s.rec_ := State.set_rec_ ..
@[simp] theorem State.put_hal (s : State) (f : Fld) (b : Bool) : (s.put f b).hal = s.hal := State.set_hal ..
@[simp] theorem State.put_tally (s : State) (f : Fld) (b : Bool) : (s.put f b).tally = s.tally := State.set_tally ..
@[simp] theorem State.put_offered (s : State) (f : Fld) (b : Bool) : (s.put f b).offered = s.offered := State.set_offered ..
@[simp] theorem State.put_pins (s : State) (f : Fld) (b : Bool) : (s.put f b).pins = s.pins := State.set_pins ..
@[simp] theorem State.put_out (s : State) (f : Fld) (b : Bool) : (s.put f b).out = s.out := State.set_out ..
@[simp] theorem State.put_free (s : State) (f : Fld) (b : Bool) : (s.put f b).free = s.free := State.set_free ..
@[simp] theorem State.put_pending (s : State) (f : Fld) (b : Bool) : (s.put f b).pending = s.pending := State.set_pending ..

/-! ## `orF` -/

@[simp] theorem State.orF_mem (s : State) (f : Fld) (v : Nat) : (s.orF f v).mem = s.mem := State.set_mem ..
@[simp] theorem State.orF_clk (s : State) (f : Fld) (v : Nat) : (s.orF f v).clk = s.clk := State.set_clk ..
@[simp] theorem State.orF_evt (s : State) (f : Fld) (v : Nat) : (s.orF f v).evt = s.evt := State.set_evt ..
@[simp] theorem State.orF_pwr (s : State) (f : Fld) (v : Nat) : (s.orF f v).pwr = s.pwr := State.set_pwr ..
@[simp] theorem State.orF_hoists (s : State) (f : Fld) (v : Nat) : (s.orF f v).hoists = s.hoists := State.set_hoists ..
@[simp] theorem State.orF_ctx (s : State) (f : Fld) (v : Nat) : (s.orF f v).ctx = s.ctx := State.set_ctx ..
@[simp] theorem State.orF_images (s : State) (f : Fld) (v : Nat) : (s.orF f v).images = s.images := State.set_images ..
@[simp] theorem State.orF_queues (s : State) (f : Fld) (v : Nat) : (s.orF f v).queues = s.queues := State.set_queues ..
@[simp] theorem State.orF_ckus (s : State) (f : Fld) (v : Nat) : (s.orF f v).ckus = s.ckus := State.set_ckus ..
@[simp] theorem State.orF_marks (s : State) (f : Fld) (v : Nat) : (s.orF f v).marks = s.marks := State.set_marks ..
@[simp] theorem State.orF_sampled (s : State) (f : Fld) (v : Nat) : (s.orF f v).sampled = s.sampled := State.set_sampled ..
@[simp] theorem State.orF_lin (s : State) (f : Fld) (v : Nat) : (s.orF f v).lin = s.lin := State.set_lin ..
@[simp] theorem State.orF_map (s : State) (f : Fld) (v : Nat) : (s.orF f v).map = s.map := State.set_map ..
@[simp] theorem State.orF_sels (s : State) (f : Fld) (v : Nat) : (s.orF f v).sels = s.sels := State.set_sels ..
@[simp] theorem State.orF_vox (s : State) (f : Fld) (v : Nat) : (s.orF f v).vox = s.vox := State.set_vox ..
@[simp] theorem State.orF_pair (s : State) (f : Fld) (v : Nat) : (s.orF f v).pair = s.pair := State.set_pair ..
@[simp] theorem State.orF_mbox (s : State) (f : Fld) (v : Nat) : (s.orF f v).mbox = s.mbox := State.set_mbox ..
@[simp] theorem State.orF_boot (s : State) (f : Fld) (v : Nat) : (s.orF f v).boot = s.boot := State.set_boot ..
@[simp] theorem State.orF_rec_ (s : State) (f : Fld) (v : Nat) : (s.orF f v).rec_ = s.rec_ := State.set_rec_ ..
@[simp] theorem State.orF_hal (s : State) (f : Fld) (v : Nat) : (s.orF f v).hal = s.hal := State.set_hal ..
@[simp] theorem State.orF_tally (s : State) (f : Fld) (v : Nat) : (s.orF f v).tally = s.tally := State.set_tally ..
@[simp] theorem State.orF_offered (s : State) (f : Fld) (v : Nat) : (s.orF f v).offered = s.offered := State.set_offered ..
@[simp] theorem State.orF_pins (s : State) (f : Fld) (v : Nat) : (s.orF f v).pins = s.pins := State.set_pins ..
@[simp] theorem State.orF_out (s : State) (f : Fld) (v : Nat) : (s.orF f v).out = s.out := State.set_out ..
@[simp] theorem State.orF_free (s : State) (f : Fld) (v : Nat) : (s.orF f v).free = s.free := State.set_free ..
@[simp] theorem State.orF_pending (s : State) (f : Fld) (v : Nat) : (s.orF f v).pending = s.pending := State.set_pending ..

/-! ## `inc` -/

@[simp] theorem State.inc_mem (s : State) (f : Fld) (n : Nat) : (s.inc f n).mem = s.mem := State.set_mem ..
@[simp] theorem State.inc_clk (s : State) (f : Fld) (n : Nat) : (s.inc f n).clk = s.clk := State.set_clk ..
@[simp] theorem State.inc_evt (s : State) (f : Fld) (n : Nat) : (s.inc f n).evt = s.evt := State.set_evt ..
@[simp] theorem State.inc_pwr (s : State) (f : Fld) (n : Nat) : (s.inc f n).pwr = s.pwr := State.set_pwr ..
@[simp] theorem State.inc_hoists (s : State) (f : Fld) (n : Nat) : (s.inc f n).hoists = s.hoists := State.set_hoists ..
@[simp] theorem State.inc_ctx (s : State) (f : Fld) (n : Nat) : (s.inc f n).ctx = s.ctx := State.set_ctx ..
@[simp] theorem State.inc_images (s : State) (f : Fld) (n : Nat) : (s.inc f n).images = s.images := State.set_images ..
@[simp] theorem State.inc_queues (s : State) (f : Fld) (n : Nat) : (s.inc f n).queues = s.queues := State.set_queues ..
@[simp] theorem State.inc_ckus (s : State) (f : Fld) (n : Nat) : (s.inc f n).ckus = s.ckus := State.set_ckus ..
@[simp] theorem State.inc_marks (s : State) (f : Fld) (n : Nat) : (s.inc f n).marks = s.marks := State.set_marks ..
@[simp] theorem State.inc_sampled (s : State) (f : Fld) (n : Nat) : (s.inc f n).sampled = s.sampled := State.set_sampled ..
@[simp] theorem State.inc_lin (s : State) (f : Fld) (n : Nat) : (s.inc f n).lin = s.lin := State.set_lin ..
@[simp] theorem State.inc_map (s : State) (f : Fld) (n : Nat) : (s.inc f n).map = s.map := State.set_map ..
@[simp] theorem State.inc_sels (s : State) (f : Fld) (n : Nat) : (s.inc f n).sels = s.sels := State.set_sels ..
@[simp] theorem State.inc_vox (s : State) (f : Fld) (n : Nat) : (s.inc f n).vox = s.vox := State.set_vox ..
@[simp] theorem State.inc_pair (s : State) (f : Fld) (n : Nat) : (s.inc f n).pair = s.pair := State.set_pair ..
@[simp] theorem State.inc_mbox (s : State) (f : Fld) (n : Nat) : (s.inc f n).mbox = s.mbox := State.set_mbox ..
@[simp] theorem State.inc_boot (s : State) (f : Fld) (n : Nat) : (s.inc f n).boot = s.boot := State.set_boot ..
@[simp] theorem State.inc_rec_ (s : State) (f : Fld) (n : Nat) : (s.inc f n).rec_ = s.rec_ := State.set_rec_ ..
@[simp] theorem State.inc_hal (s : State) (f : Fld) (n : Nat) : (s.inc f n).hal = s.hal := State.set_hal ..
@[simp] theorem State.inc_tally (s : State) (f : Fld) (n : Nat) : (s.inc f n).tally = s.tally := State.set_tally ..
@[simp] theorem State.inc_offered (s : State) (f : Fld) (n : Nat) : (s.inc f n).offered = s.offered := State.set_offered ..
@[simp] theorem State.inc_pins (s : State) (f : Fld) (n : Nat) : (s.inc f n).pins = s.pins := State.set_pins ..
@[simp] theorem State.inc_out (s : State) (f : Fld) (n : Nat) : (s.inc f n).out = s.out := State.set_out ..
@[simp] theorem State.inc_free (s : State) (f : Fld) (n : Nat) : (s.inc f n).free = s.free := State.set_free ..
@[simp] theorem State.inc_pending (s : State) (f : Fld) (n : Nat) : (s.inc f n).pending = s.pending := State.set_pending ..

/-! ## `incSat` -/

@[simp] theorem State.incSat_mem (s : State) (f : Fld) : (s.incSat f).mem = s.mem := by unfold State.incSat; split <;> simp
@[simp] theorem State.incSat_clk (s : State) (f : Fld) : (s.incSat f).clk = s.clk := by unfold State.incSat; split <;> simp
@[simp] theorem State.incSat_evt (s : State) (f : Fld) : (s.incSat f).evt = s.evt := by unfold State.incSat; split <;> simp
@[simp] theorem State.incSat_pwr (s : State) (f : Fld) : (s.incSat f).pwr = s.pwr := by unfold State.incSat; split <;> simp
@[simp] theorem State.incSat_hoists (s : State) (f : Fld) : (s.incSat f).hoists = s.hoists := by unfold State.incSat; split <;> simp
@[simp] theorem State.incSat_ctx (s : State) (f : Fld) : (s.incSat f).ctx = s.ctx := by unfold State.incSat; split <;> simp
@[simp] theorem State.incSat_images (s : State) (f : Fld) : (s.incSat f).images = s.images := by unfold State.incSat; split <;> simp
@[simp] theorem State.incSat_queues (s : State) (f : Fld) : (s.incSat f).queues = s.queues := by unfold State.incSat; split <;> simp
@[simp] theorem State.incSat_ckus (s : State) (f : Fld) : (s.incSat f).ckus = s.ckus := by unfold State.incSat; split <;> simp
@[simp] theorem State.incSat_marks (s : State) (f : Fld) : (s.incSat f).marks = s.marks := by unfold State.incSat; split <;> simp
@[simp] theorem State.incSat_sampled (s : State) (f : Fld) : (s.incSat f).sampled = s.sampled := by unfold State.incSat; split <;> simp
@[simp] theorem State.incSat_lin (s : State) (f : Fld) : (s.incSat f).lin = s.lin := by unfold State.incSat; split <;> simp
@[simp] theorem State.incSat_map (s : State) (f : Fld) : (s.incSat f).map = s.map := by unfold State.incSat; split <;> simp
@[simp] theorem State.incSat_sels (s : State) (f : Fld) : (s.incSat f).sels = s.sels := by unfold State.incSat; split <;> simp
@[simp] theorem State.incSat_vox (s : State) (f : Fld) : (s.incSat f).vox = s.vox := by unfold State.incSat; split <;> simp
@[simp] theorem State.incSat_pair (s : State) (f : Fld) : (s.incSat f).pair = s.pair := by unfold State.incSat; split <;> simp
@[simp] theorem State.incSat_mbox (s : State) (f : Fld) : (s.incSat f).mbox = s.mbox := by unfold State.incSat; split <;> simp
@[simp] theorem State.incSat_boot (s : State) (f : Fld) : (s.incSat f).boot = s.boot := by unfold State.incSat; split <;> simp
@[simp] theorem State.incSat_rec_ (s : State) (f : Fld) : (s.incSat f).rec_ = s.rec_ := by unfold State.incSat; split <;> simp
@[simp] theorem State.incSat_hal (s : State) (f : Fld) : (s.incSat f).hal = s.hal := by unfold State.incSat; split <;> simp
@[simp] theorem State.incSat_tally (s : State) (f : Fld) : (s.incSat f).tally = s.tally := by unfold State.incSat; split <;> simp
@[simp] theorem State.incSat_offered (s : State) (f : Fld) : (s.incSat f).offered = s.offered := by unfold State.incSat; split <;> simp
@[simp] theorem State.incSat_pins (s : State) (f : Fld) : (s.incSat f).pins = s.pins := by unfold State.incSat; split <;> simp
@[simp] theorem State.incSat_out (s : State) (f : Fld) : (s.incSat f).out = s.out := by unfold State.incSat; split <;> simp
@[simp] theorem State.incSat_free (s : State) (f : Fld) : (s.incSat f).free = s.free := by unfold State.incSat; split <;> simp
@[simp] theorem State.incSat_pending (s : State) (f : Fld) : (s.incSat f).pending = s.pending := by unfold State.incSat; split <;> simp

/-! ## `tal` -/

@[simp] theorem State.tal_mem (s : State) (b c n : Nat) : (s.tal b c n).mem = s.mem := by unfold State.tal; split <;> simp
@[simp] theorem State.tal_clk (s : State) (b c n : Nat) : (s.tal b c n).clk = s.clk := by unfold State.tal; split <;> simp
@[simp] theorem State.tal_evt (s : State) (b c n : Nat) : (s.tal b c n).evt = s.evt := by unfold State.tal; split <;> simp
@[simp] theorem State.tal_pwr (s : State) (b c n : Nat) : (s.tal b c n).pwr = s.pwr := by unfold State.tal; split <;> simp
@[simp] theorem State.tal_hoists (s : State) (b c n : Nat) : (s.tal b c n).hoists = s.hoists := by unfold State.tal; split <;> simp
@[simp] theorem State.tal_ctx (s : State) (b c n : Nat) : (s.tal b c n).ctx = s.ctx := by unfold State.tal; split <;> simp
@[simp] theorem State.tal_images (s : State) (b c n : Nat) : (s.tal b c n).images = s.images := by unfold State.tal; split <;> simp
@[simp] theorem State.tal_queues (s : State) (b c n : Nat) : (s.tal b c n).queues = s.queues := by unfold State.tal; split <;> simp
@[simp] theorem State.tal_ckus (s : State) (b c n : Nat) : (s.tal b c n).ckus = s.ckus := by unfold State.tal; split <;> simp
@[simp] theorem State.tal_marks (s : State) (b c n : Nat) : (s.tal b c n).marks = s.marks := by unfold State.tal; split <;> simp
@[simp] theorem State.tal_sampled (s : State) (b c n : Nat) : (s.tal b c n).sampled = s.sampled := by unfold State.tal; split <;> simp
@[simp] theorem State.tal_lin (s : State) (b c n : Nat) : (s.tal b c n).lin = s.lin := by unfold State.tal; split <;> simp
@[simp] theorem State.tal_map (s : State) (b c n : Nat) : (s.tal b c n).map = s.map := by unfold State.tal; split <;> simp
@[simp] theorem State.tal_sels (s : State) (b c n : Nat) : (s.tal b c n).sels = s.sels := by unfold State.tal; split <;> simp
@[simp] theorem State.tal_vox (s : State) (b c n : Nat) : (s.tal b c n).vox = s.vox := by unfold State.tal; split <;> simp
@[simp] theorem State.tal_pair (s : State) (b c n : Nat) : (s.tal b c n).pair = s.pair := by unfold State.tal; split <;> simp
@[simp] theorem State.tal_mbox (s : State) (b c n : Nat) : (s.tal b c n).mbox = s.mbox := by unfold State.tal; split <;> simp
@[simp] theorem State.tal_boot (s : State) (b c n : Nat) : (s.tal b c n).boot = s.boot := by unfold State.tal; split <;> simp
@[simp] theorem State.tal_rec_ (s : State) (b c n : Nat) : (s.tal b c n).rec_ = s.rec_ := by unfold State.tal; split <;> simp
@[simp] theorem State.tal_hal (s : State) (b c n : Nat) : (s.tal b c n).hal = s.hal := by unfold State.tal; split <;> simp
@[simp] theorem State.tal_tally (s : State) (b c n : Nat) : (s.tal b c n).tally = s.tally := by unfold State.tal; split <;> simp
@[simp] theorem State.tal_offered (s : State) (b c n : Nat) : (s.tal b c n).offered = s.offered := by unfold State.tal; split <;> simp
@[simp] theorem State.tal_pins (s : State) (b c n : Nat) : (s.tal b c n).pins = s.pins := by unfold State.tal; split <;> simp
@[simp] theorem State.tal_out (s : State) (b c n : Nat) : (s.tal b c n).out = s.out := by unfold State.tal; split <;> simp
@[simp] theorem State.tal_free (s : State) (b c n : Nat) : (s.tal b c n).free = s.free := by unfold State.tal; split <;> simp
@[simp] theorem State.tal_pending (s : State) (b c n : Nat) : (s.tal b c n).pending = s.pending := by unfold State.tal; split <;> simp

/-! ## `wr` -/

@[simp] theorem State.wr_regs (s : State) (sp a : Nat) (bs : List Byte) : (s.wr sp a bs).regs = s.regs := rfl
@[simp] theorem State.wr_clk (s : State) (sp a : Nat) (bs : List Byte) : (s.wr sp a bs).clk = s.clk := rfl
@[simp] theorem State.wr_evt (s : State) (sp a : Nat) (bs : List Byte) : (s.wr sp a bs).evt = s.evt := rfl
@[simp] theorem State.wr_pwr (s : State) (sp a : Nat) (bs : List Byte) : (s.wr sp a bs).pwr = s.pwr := rfl
@[simp] theorem State.wr_hoists (s : State) (sp a : Nat) (bs : List Byte) : (s.wr sp a bs).hoists = s.hoists := rfl
@[simp] theorem State.wr_ctx (s : State) (sp a : Nat) (bs : List Byte) : (s.wr sp a bs).ctx = s.ctx := rfl
@[simp] theorem State.wr_images (s : State) (sp a : Nat) (bs : List Byte) : (s.wr sp a bs).images = s.images := rfl
@[simp] theorem State.wr_queues (s : State) (sp a : Nat) (bs : List Byte) : (s.wr sp a bs).queues = s.queues := rfl
@[simp] theorem State.wr_ckus (s : State) (sp a : Nat) (bs : List Byte) : (s.wr sp a bs).ckus = s.ckus := rfl
@[simp] theorem State.wr_marks (s : State) (sp a : Nat) (bs : List Byte) : (s.wr sp a bs).marks = s.marks := rfl
@[simp] theorem State.wr_sampled (s : State) (sp a : Nat) (bs : List Byte) : (s.wr sp a bs).sampled = s.sampled := rfl
@[simp] theorem State.wr_lin (s : State) (sp a : Nat) (bs : List Byte) : (s.wr sp a bs).lin = s.lin := rfl
@[simp] theorem State.wr_map (s : State) (sp a : Nat) (bs : List Byte) : (s.wr sp a bs).map = s.map := rfl
@[simp] theorem State.wr_sels (s : State) (sp a : Nat) (bs : List Byte) : (s.wr sp a bs).sels = s.sels := rfl
@[simp] theorem State.wr_vox (s : State) (sp a : Nat) (bs : List Byte) : (s.wr sp a bs).vox = s.vox := rfl
@[simp] theorem State.wr_pair (s : State) (sp a : Nat) (bs : List Byte) : (s.wr sp a bs).pair = s.pair := rfl
@[simp] theorem State.wr_mbox (s : State) (sp a : Nat) (bs : List Byte) : (s.wr sp a bs).mbox = s.mbox := rfl
@[simp] theorem State.wr_boot (s : State) (sp a : Nat) (bs : List Byte) : (s.wr sp a bs).boot = s.boot := rfl
@[simp] theorem State.wr_rec_ (s : State) (sp a : Nat) (bs : List Byte) : (s.wr sp a bs).rec_ = s.rec_ := rfl
@[simp] theorem State.wr_hal (s : State) (sp a : Nat) (bs : List Byte) : (s.wr sp a bs).hal = s.hal := rfl
@[simp] theorem State.wr_tally (s : State) (sp a : Nat) (bs : List Byte) : (s.wr sp a bs).tally = s.tally := rfl
@[simp] theorem State.wr_offered (s : State) (sp a : Nat) (bs : List Byte) : (s.wr sp a bs).offered = s.offered := rfl
@[simp] theorem State.wr_pins (s : State) (sp a : Nat) (bs : List Byte) : (s.wr sp a bs).pins = s.pins := rfl
@[simp] theorem State.wr_out (s : State) (sp a : Nat) (bs : List Byte) : (s.wr sp a bs).out = s.out := rfl
@[simp] theorem State.wr_free (s : State) (sp a : Nat) (bs : List Byte) : (s.wr sp a bs).free = s.free := rfl
@[simp] theorem State.wr_pending (s : State) (sp a : Nat) (bs : List Byte) : (s.wr sp a bs).pending = s.pending := rfl

/-! ## `wrLE` -/

@[simp] theorem State.wrLE_regs (s : State) (sp a n v : Nat) : (s.wrLE sp a n v).regs = s.regs := rfl
@[simp] theorem State.wrLE_clk (s : State) (sp a n v : Nat) : (s.wrLE sp a n v).clk = s.clk := rfl
@[simp] theorem State.wrLE_evt (s : State) (sp a n v : Nat) : (s.wrLE sp a n v).evt = s.evt := rfl
@[simp] theorem State.wrLE_pwr (s : State) (sp a n v : Nat) : (s.wrLE sp a n v).pwr = s.pwr := rfl
@[simp] theorem State.wrLE_hoists (s : State) (sp a n v : Nat) : (s.wrLE sp a n v).hoists = s.hoists := rfl
@[simp] theorem State.wrLE_ctx (s : State) (sp a n v : Nat) : (s.wrLE sp a n v).ctx = s.ctx := rfl
@[simp] theorem State.wrLE_images (s : State) (sp a n v : Nat) : (s.wrLE sp a n v).images = s.images := rfl
@[simp] theorem State.wrLE_queues (s : State) (sp a n v : Nat) : (s.wrLE sp a n v).queues = s.queues := rfl
@[simp] theorem State.wrLE_ckus (s : State) (sp a n v : Nat) : (s.wrLE sp a n v).ckus = s.ckus := rfl
@[simp] theorem State.wrLE_marks (s : State) (sp a n v : Nat) : (s.wrLE sp a n v).marks = s.marks := rfl
@[simp] theorem State.wrLE_sampled (s : State) (sp a n v : Nat) : (s.wrLE sp a n v).sampled = s.sampled := rfl
@[simp] theorem State.wrLE_lin (s : State) (sp a n v : Nat) : (s.wrLE sp a n v).lin = s.lin := rfl
@[simp] theorem State.wrLE_map (s : State) (sp a n v : Nat) : (s.wrLE sp a n v).map = s.map := rfl
@[simp] theorem State.wrLE_sels (s : State) (sp a n v : Nat) : (s.wrLE sp a n v).sels = s.sels := rfl
@[simp] theorem State.wrLE_vox (s : State) (sp a n v : Nat) : (s.wrLE sp a n v).vox = s.vox := rfl
@[simp] theorem State.wrLE_pair (s : State) (sp a n v : Nat) : (s.wrLE sp a n v).pair = s.pair := rfl
@[simp] theorem State.wrLE_mbox (s : State) (sp a n v : Nat) : (s.wrLE sp a n v).mbox = s.mbox := rfl
@[simp] theorem State.wrLE_boot (s : State) (sp a n v : Nat) : (s.wrLE sp a n v).boot = s.boot := rfl
@[simp] theorem State.wrLE_rec_ (s : State) (sp a n v : Nat) : (s.wrLE sp a n v).rec_ = s.rec_ := rfl
@[simp] theorem State.wrLE_hal (s : State) (sp a n v : Nat) : (s.wrLE sp a n v).hal = s.hal := rfl
@[simp] theorem State.wrLE_tally (s : State) (sp a n v : Nat) : (s.wrLE sp a n v).tally = s.tally := rfl
@[simp] theorem State.wrLE_offered (s : State) (sp a n v : Nat) : (s.wrLE sp a n v).offered = s.offered := rfl
@[simp] theorem State.wrLE_pins (s : State) (sp a n v : Nat) : (s.wrLE sp a n v).pins = s.pins := rfl
@[simp] theorem State.wrLE_out (s : State) (sp a n v : Nat) : (s.wrLE sp a n v).out = s.out := rfl
@[simp] theorem State.wrLE_free (s : State) (sp a n v : Nat) : (s.wrLE sp a n v).free = s.free := rfl
@[simp] theorem State.wrLE_pending (s : State) (sp a n v : Nat) : (s.wrLE sp a n v).pending = s.pending := rfl

/-! ## `dropSpaces` -/

@[simp] theorem State.dropSpaces_regs (s : State) (drop : Nat → Bool) : (s.dropSpaces drop).regs = s.regs := rfl
@[simp] theorem State.dropSpaces_clk (s : State) (drop : Nat → Bool) : (s.dropSpaces drop).clk = s.clk := rfl
@[simp] theorem State.dropSpaces_evt (s : State) (drop : Nat → Bool) : (s.dropSpaces drop).evt = s.evt := rfl
@[simp] theorem State.dropSpaces_pwr (s : State) (drop : Nat → Bool) : (s.dropSpaces drop).pwr = s.pwr := rfl
@[simp] theorem State.dropSpaces_hoists (s : State) (drop : Nat → Bool) : (s.dropSpaces drop).hoists = s.hoists := rfl
@[simp] theorem State.dropSpaces_ctx (s : State) (drop : Nat → Bool) : (s.dropSpaces drop).ctx = s.ctx := rfl
@[simp] theorem State.dropSpaces_images (s : State) (drop : Nat → Bool) : (s.dropSpaces drop).images = s.images := rfl
@[simp] theorem State.dropSpaces_queues (s : State) (drop : Nat → Bool) : (s.dropSpaces drop).queues = s.queues := rfl
@[simp] theorem State.dropSpaces_ckus (s : State) (drop : Nat → Bool) : (s.dropSpaces drop).ckus = s.ckus := rfl
@[simp] theorem State.dropSpaces_marks (s : State) (drop : Nat → Bool) : (s.dropSpaces drop).marks = s.marks := rfl
@[simp] theorem State.dropSpaces_sampled (s : State) (drop : Nat → Bool) : (s.dropSpaces drop).sampled = s.sampled := rfl
@[simp] theorem State.dropSpaces_lin (s : State) (drop : Nat → Bool) : (s.dropSpaces drop).lin = s.lin := rfl
@[simp] theorem State.dropSpaces_map (s : State) (drop : Nat → Bool) : (s.dropSpaces drop).map = s.map := rfl
@[simp] theorem State.dropSpaces_sels (s : State) (drop : Nat → Bool) : (s.dropSpaces drop).sels = s.sels := rfl
@[simp] theorem State.dropSpaces_vox (s : State) (drop : Nat → Bool) : (s.dropSpaces drop).vox = s.vox := rfl
@[simp] theorem State.dropSpaces_pair (s : State) (drop : Nat → Bool) : (s.dropSpaces drop).pair = s.pair := rfl
@[simp] theorem State.dropSpaces_mbox (s : State) (drop : Nat → Bool) : (s.dropSpaces drop).mbox = s.mbox := rfl
@[simp] theorem State.dropSpaces_boot (s : State) (drop : Nat → Bool) : (s.dropSpaces drop).boot = s.boot := rfl
@[simp] theorem State.dropSpaces_rec_ (s : State) (drop : Nat → Bool) : (s.dropSpaces drop).rec_ = s.rec_ := rfl
@[simp] theorem State.dropSpaces_hal (s : State) (drop : Nat → Bool) : (s.dropSpaces drop).hal = s.hal := rfl
@[simp] theorem State.dropSpaces_tally (s : State) (drop : Nat → Bool) : (s.dropSpaces drop).tally = s.tally := rfl
@[simp] theorem State.dropSpaces_offered (s : State) (drop : Nat → Bool) : (s.dropSpaces drop).offered = s.offered := rfl
@[simp] theorem State.dropSpaces_pins (s : State) (drop : Nat → Bool) : (s.dropSpaces drop).pins = s.pins := rfl
@[simp] theorem State.dropSpaces_out (s : State) (drop : Nat → Bool) : (s.dropSpaces drop).out = s.out := rfl
@[simp] theorem State.dropSpaces_free (s : State) (drop : Nat → Bool) : (s.dropSpaces drop).free = s.free := rfl
@[simp] theorem State.dropSpaces_pending (s : State) (drop : Nat → Bool) : (s.dropSpaces drop).pending = s.pending := rfl

/-! ## `zeroSpan` -/

@[simp] theorem State.zeroSpan_regs (s : State) (sp a n : Nat) : (s.zeroSpan sp a n).regs = s.regs := rfl
@[simp] theorem State.zeroSpan_clk (s : State) (sp a n : Nat) : (s.zeroSpan sp a n).clk = s.clk := rfl
@[simp] theorem State.zeroSpan_evt (s : State) (sp a n : Nat) : (s.zeroSpan sp a n).evt = s.evt := rfl
@[simp] theorem State.zeroSpan_pwr (s : State) (sp a n : Nat) : (s.zeroSpan sp a n).pwr = s.pwr := rfl
@[simp] theorem State.zeroSpan_hoists (s : State) (sp a n : Nat) : (s.zeroSpan sp a n).hoists = s.hoists := rfl
@[simp] theorem State.zeroSpan_ctx (s : State) (sp a n : Nat) : (s.zeroSpan sp a n).ctx = s.ctx := rfl
@[simp] theorem State.zeroSpan_images (s : State) (sp a n : Nat) : (s.zeroSpan sp a n).images = s.images := rfl
@[simp] theorem State.zeroSpan_queues (s : State) (sp a n : Nat) : (s.zeroSpan sp a n).queues = s.queues := rfl
@[simp] theorem State.zeroSpan_ckus (s : State) (sp a n : Nat) : (s.zeroSpan sp a n).ckus = s.ckus := rfl
@[simp] theorem State.zeroSpan_marks (s : State) (sp a n : Nat) : (s.zeroSpan sp a n).marks = s.marks := rfl
@[simp] theorem State.zeroSpan_sampled (s : State) (sp a n : Nat) : (s.zeroSpan sp a n).sampled = s.sampled := rfl
@[simp] theorem State.zeroSpan_lin (s : State) (sp a n : Nat) : (s.zeroSpan sp a n).lin = s.lin := rfl
@[simp] theorem State.zeroSpan_map (s : State) (sp a n : Nat) : (s.zeroSpan sp a n).map = s.map := rfl
@[simp] theorem State.zeroSpan_sels (s : State) (sp a n : Nat) : (s.zeroSpan sp a n).sels = s.sels := rfl
@[simp] theorem State.zeroSpan_vox (s : State) (sp a n : Nat) : (s.zeroSpan sp a n).vox = s.vox := rfl
@[simp] theorem State.zeroSpan_pair (s : State) (sp a n : Nat) : (s.zeroSpan sp a n).pair = s.pair := rfl
@[simp] theorem State.zeroSpan_mbox (s : State) (sp a n : Nat) : (s.zeroSpan sp a n).mbox = s.mbox := rfl
@[simp] theorem State.zeroSpan_boot (s : State) (sp a n : Nat) : (s.zeroSpan sp a n).boot = s.boot := rfl
@[simp] theorem State.zeroSpan_rec_ (s : State) (sp a n : Nat) : (s.zeroSpan sp a n).rec_ = s.rec_ := rfl
@[simp] theorem State.zeroSpan_hal (s : State) (sp a n : Nat) : (s.zeroSpan sp a n).hal = s.hal := rfl
@[simp] theorem State.zeroSpan_tally (s : State) (sp a n : Nat) : (s.zeroSpan sp a n).tally = s.tally := rfl
@[simp] theorem State.zeroSpan_offered (s : State) (sp a n : Nat) : (s.zeroSpan sp a n).offered = s.offered := rfl
@[simp] theorem State.zeroSpan_pins (s : State) (sp a n : Nat) : (s.zeroSpan sp a n).pins = s.pins := rfl
@[simp] theorem State.zeroSpan_out (s : State) (sp a n : Nat) : (s.zeroSpan sp a n).out = s.out := rfl
@[simp] theorem State.zeroSpan_free (s : State) (sp a n : Nat) : (s.zeroSpan sp a n).free = s.free := rfl
@[simp] theorem State.zeroSpan_pending (s : State) (sp a n : Nat) : (s.zeroSpan sp a n).pending = s.pending := rfl

/-! ## `emit` -/

@[simp] theorem State.emit_regs (s : State) (x : Out) : (s.emit x).regs = s.regs := rfl
@[simp] theorem State.emit_mem (s : State) (x : Out) : (s.emit x).mem = s.mem := rfl
@[simp] theorem State.emit_clk (s : State) (x : Out) : (s.emit x).clk = s.clk := rfl
@[simp] theorem State.emit_evt (s : State) (x : Out) : (s.emit x).evt = s.evt := rfl
@[simp] theorem State.emit_pwr (s : State) (x : Out) : (s.emit x).pwr = s.pwr := rfl
@[simp] theorem State.emit_hoists (s : State) (x : Out) : (s.emit x).hoists = s.hoists := rfl
@[simp] theorem State.emit_ctx (s : State) (x : Out) : (s.emit x).ctx = s.ctx := rfl
@[simp] theorem State.emit_images (s : State) (x : Out) : (s.emit x).images = s.images := rfl
@[simp] theorem State.emit_queues (s : State) (x : Out) : (s.emit x).queues = s.queues := rfl
@[simp] theorem State.emit_ckus (s : State) (x : Out) : (s.emit x).ckus = s.ckus := rfl
@[simp] theorem State.emit_marks (s : State) (x : Out) : (s.emit x).marks = s.marks := rfl
@[simp] theorem State.emit_sampled (s : State) (x : Out) : (s.emit x).sampled = s.sampled := rfl
@[simp] theorem State.emit_lin (s : State) (x : Out) : (s.emit x).lin = s.lin := rfl
@[simp] theorem State.emit_map (s : State) (x : Out) : (s.emit x).map = s.map := rfl
@[simp] theorem State.emit_sels (s : State) (x : Out) : (s.emit x).sels = s.sels := rfl
@[simp] theorem State.emit_vox (s : State) (x : Out) : (s.emit x).vox = s.vox := rfl
@[simp] theorem State.emit_pair (s : State) (x : Out) : (s.emit x).pair = s.pair := rfl
@[simp] theorem State.emit_mbox (s : State) (x : Out) : (s.emit x).mbox = s.mbox := rfl
@[simp] theorem State.emit_boot (s : State) (x : Out) : (s.emit x).boot = s.boot := rfl
@[simp] theorem State.emit_rec_ (s : State) (x : Out) : (s.emit x).rec_ = s.rec_ := rfl
@[simp] theorem State.emit_hal (s : State) (x : Out) : (s.emit x).hal = s.hal := rfl
@[simp] theorem State.emit_tally (s : State) (x : Out) : (s.emit x).tally = s.tally := rfl
@[simp] theorem State.emit_offered (s : State) (x : Out) : (s.emit x).offered = s.offered := rfl
@[simp] theorem State.emit_pins (s : State) (x : Out) : (s.emit x).pins = s.pins := rfl
@[simp] theorem State.emit_free (s : State) (x : Out) : (s.emit x).free = s.free := rfl
@[simp] theorem State.emit_pending (s : State) (x : Out) : (s.emit x).pending = s.pending := rfl

@[simp] theorem State.emit_out (s : State) (x : Out) : (s.emit x).out = x :: s.out := rfl

/-! ## `draw` -/

@[simp] theorem State.draw_value (s : State) : s.draw.1 = Config.freeWord s.free := rfl
@[simp] theorem State.draw_next (s : State) : s.draw.2 = { s with free := s.free + 1 } := rfl

/-! ## Reads of what another operation wrote -/

@[simp] theorem State.get_wr (s : State) (sp a : Nat) (bs : List Byte) (g : Fld) : (s.wr sp a bs).get g = s.get g := rfl
@[simp] theorem State.bit_wr (s : State) (sp a : Nat) (bs : List Byte) (g : Fld) : (s.wr sp a bs).bit g = s.bit g := rfl
@[simp] theorem State.cfg_wr (s : State) (sp a : Nat) (bs : List Byte) (g : Fld) : (s.wr sp a bs).cfg g = s.cfg g := rfl
@[simp] theorem State.on_wr (s : State) (sp a : Nat) (bs : List Byte) (g : Fld) : (s.wr sp a bs).on g = s.on g := rfl
@[simp] theorem State.word_wr (s : State) (sp a : Nat) (bs : List Byte) (g : Nat) : (s.wr sp a bs).word g = s.word g := rfl
@[simp] theorem State.get_wrLE (s : State) (sp a n v : Nat) (g : Fld) : (s.wrLE sp a n v).get g = s.get g := rfl
@[simp] theorem State.bit_wrLE (s : State) (sp a n v : Nat) (g : Fld) : (s.wrLE sp a n v).bit g = s.bit g := rfl
@[simp] theorem State.cfg_wrLE (s : State) (sp a n v : Nat) (g : Fld) : (s.wrLE sp a n v).cfg g = s.cfg g := rfl
@[simp] theorem State.on_wrLE (s : State) (sp a n v : Nat) (g : Fld) : (s.wrLE sp a n v).on g = s.on g := rfl
@[simp] theorem State.word_wrLE (s : State) (sp a n v : Nat) (g : Nat) : (s.wrLE sp a n v).word g = s.word g := rfl
@[simp] theorem State.get_dropSpaces (s : State) (drop : Nat → Bool) (g : Fld) : (s.dropSpaces drop).get g = s.get g := rfl
@[simp] theorem State.bit_dropSpaces (s : State) (drop : Nat → Bool) (g : Fld) : (s.dropSpaces drop).bit g = s.bit g := rfl
@[simp] theorem State.cfg_dropSpaces (s : State) (drop : Nat → Bool) (g : Fld) : (s.dropSpaces drop).cfg g = s.cfg g := rfl
@[simp] theorem State.on_dropSpaces (s : State) (drop : Nat → Bool) (g : Fld) : (s.dropSpaces drop).on g = s.on g := rfl
@[simp] theorem State.word_dropSpaces (s : State) (drop : Nat → Bool) (g : Nat) : (s.dropSpaces drop).word g = s.word g := rfl
@[simp] theorem State.get_zeroSpan (s : State) (sp a n : Nat) (g : Fld) : (s.zeroSpan sp a n).get g = s.get g := rfl
@[simp] theorem State.bit_zeroSpan (s : State) (sp a n : Nat) (g : Fld) : (s.zeroSpan sp a n).bit g = s.bit g := rfl
@[simp] theorem State.cfg_zeroSpan (s : State) (sp a n : Nat) (g : Fld) : (s.zeroSpan sp a n).cfg g = s.cfg g := rfl
@[simp] theorem State.on_zeroSpan (s : State) (sp a n : Nat) (g : Fld) : (s.zeroSpan sp a n).on g = s.on g := rfl
@[simp] theorem State.word_zeroSpan (s : State) (sp a n : Nat) (g : Nat) : (s.zeroSpan sp a n).word g = s.word g := rfl
@[simp] theorem State.get_emit (s : State) (x : Out) (g : Fld) : (s.emit x).get g = s.get g := rfl
@[simp] theorem State.bit_emit (s : State) (x : Out) (g : Fld) : (s.emit x).bit g = s.bit g := rfl
@[simp] theorem State.cfg_emit (s : State) (x : Out) (g : Fld) : (s.emit x).cfg g = s.cfg g := rfl
@[simp] theorem State.on_emit (s : State) (x : Out) (g : Fld) : (s.emit x).on g = s.on g := rfl
@[simp] theorem State.word_emit (s : State) (x : Out) (g : Nat) : (s.emit x).word g = s.word g := rfl

/-! ## The answer of a command -/

/-- The answer is the next state, its pins those of the events that are pending, its queue as the command found it. -/
theorem settle_eq (s t : State) : settle s t = .next { t with pending := s.pending, pins := t.pinsNow } := rfl

/-- What a command answers, from what it makes of the state. -/
theorem settle_next {s t u : State} (h : settle s t = .next u) : u = { t with pending := s.pending, pins := t.pinsNow } := by
  rw [settle_eq] at h; injection h with h; exact h.symm

/-- Registers of the answer. -/
theorem settle_get {s t u : State} (h : settle s t = .next u) (f : Fld) : u.get f = t.get f := by
  rw [settle_next h]; rfl
theorem settle_word {s t u : State} (h : settle s t = .next u) (k : Nat) : u.word k = t.word k := by
  rw [settle_next h]; rfl
theorem settle_mem {s t u : State} (h : settle s t = .next u) : u.mem = t.mem := by
  rw [settle_next h]

/-- The pins depend on the registers alone. -/
theorem State.pinsNow_congr {s t : State} (h : t.regs = s.regs) : t.pinsNow = s.pinsNow := by
  have hw : ∀ k, t.word k = s.word k := fun k => by unfold State.word; rw [h]
  have hg : ∀ f, t.get f = s.get f := fun f => State.get_congr f fun k _ => hw k
  have hl : ∀ k, t.liveWord k = s.liveWord k := fun k => by unfold State.liveWord; rw [h]
  have hh : ∀ k, t.heldOf k = s.heldOf k := fun k => by unfold State.heldOf; rw [h]
  have hc : ∀ f, t.on f = s.on f := fun f => by
    unfold State.on; rw [State.cfg_congr f (fun k _ => hw k) (fun k _ => hl k) fun k _ => hh k]
  unfold State.pinsNow State.bit
  simp only [hg, hc]

/-! ## Iteration -/

/-- What every turn of an iteration keeps, the whole keeps. -/
theorem State.each_keeps {α : Type} (P : State → Prop) (g : State → α → State) (hg : ∀ s a, P s → P (g s a)) (l : List α) (s : State)
    (h : P s) : P (s.each l g) := by
  unfold State.each
  induction l generalizing s with
  | nil => exact h
  | cons a r ih => exact ih _ (hg s a h)

@[simp] theorem State.each_nil {α : Type} (s : State) (g : State → α → State) : s.each [] g = s := rfl
@[simp] theorem State.each_cons {α : Type} (s : State) (a : α) (l : List α) (g : State → α → State) :
    s.each (a :: l) g = (g s a).each l g := rfl

/-- A projection that every turn leaves alone, the whole leaves alone. -/
theorem State.each_same {α β : Type} (p : State → β) (g : State → α → State) (hg : ∀ s a, p (g s a) = p s) (l : List α) (s : State) :
    p (s.each l g) = p s :=
  State.each_keeps (fun t => p t = p s) g (fun t a h => (hg t a).trans h) l s rfl

end Sys2Proof.Machine
end

