-- ==== Sys2Proof/Laws/Events.lean ====
section
/-! SUPPORT. What raising an event can do (R468 to R473), said once: registers of `EVT` and counters of `TAL`, the bunting in
host memory and the pending bits of MSI-X vectors, what the bunting keeps, and what leaves the device; nothing else. -/

namespace Sys2Proof.Machine

/-- A register word of the blocks `EVT` and `TAL`. -/
def evtKey (k : Nat) : Prop := k / 0x100000 = 4 ∨ k / 0x100000 = 5

/-- State `t` is state `s` but for what raising events does. -/
structure SameButEvents (s t : State) : Prop where
  word : ∀ k, ¬ evtKey k → t.word k = s.word k
  live : t.regs.live = s.regs.live
  held : t.regs.held = s.regs.held
  armed : t.regs.armed = s.regs.armed
  memWf : s.memWf → t.memWf
  clk : t.clk = s.clk
  pwr : t.pwr = s.pwr
  hoists : t.hoists = s.hoists
  ctx : t.ctx = s.ctx
  images : t.images = s.images
  queues : t.queues = s.queues
  ckus : t.ckus = s.ckus
  marks : t.marks = s.marks
  sampled : t.sampled = s.sampled
  lin : t.lin = s.lin
  map : t.map = s.map
  sels : t.sels = s.sels
  vox : t.vox = s.vox
  pair : t.pair = s.pair
  mbox : t.mbox = s.mbox
  boot : t.boot = s.boot
  rec_ : t.rec_ = s.rec_
  hal : t.hal = s.hal
  tally : t.tally = s.tally
  offered : t.offered = s.offered
  pins : t.pins = s.pins
  free : t.free = s.free
  pending : t.pending = s.pending

theorem SameButEvents.refl (s : State) : SameButEvents s s := by
  constructor <;> first | exact id | (intros; rfl)

theorem SameButEvents.trans {s t u : State} (a : SameButEvents s t) (b : SameButEvents t u) : SameButEvents s u where
  word k h := (b.word k h).trans (a.word k h)
  live := b.live.trans a.live
  held := b.held.trans a.held
  armed := b.armed.trans a.armed
  memWf h := b.memWf (a.memWf h)
  clk := b.clk.trans a.clk
  pwr := b.pwr.trans a.pwr
  hoists := b.hoists.trans a.hoists
  ctx := b.ctx.trans a.ctx
  images := b.images.trans a.images
  queues := b.queues.trans a.queues
  ckus := b.ckus.trans a.ckus
  marks := b.marks.trans a.marks
  sampled := b.sampled.trans a.sampled
  lin := b.lin.trans a.lin
  map := b.map.trans a.map
  sels := b.sels.trans a.sels
  vox := b.vox.trans a.vox
  pair := b.pair.trans a.pair
  mbox := b.mbox.trans a.mbox
  boot := b.boot.trans a.boot
  rec_ := b.rec_.trans a.rec_
  hal := b.hal.trans a.hal
  tally := b.tally.trans a.tally
  offered := b.offered.trans a.offered
  pins := b.pins.trans a.pins
  free := b.free.trans a.free
  pending := b.pending.trans a.pending

theorem SameButEvents.set (s : State) (f : Fld) (v : Nat) (h : ∀ k ∈ f.keys, evtKey k) : SameButEvents s (s.set f v) := by
  constructor
  · exact fun k hk => State.word_set_ne s f v k fun hm => hk (h k hm)
  case memWf => exact fun hm => by simpa [State.memWf] using hm
  all_goals first | simp | (unfold State.set; split <;> rfl)

theorem SameButEvents.wrLE (s : State) (sp a n v : Nat) : SameButEvents s (s.wrLE sp a n v) := by
  constructor
  case memWf => exact State.memWf_wrLE s sp a n v
  all_goals (intros; rfl)
theorem SameButEvents.wr (s : State) (sp a : Nat) (bs : List Byte) : SameButEvents s (s.wr sp a bs) := by
  constructor
  case memWf => exact State.memWf_wr s sp a bs
  all_goals (intros; rfl)
theorem SameButEvents.emit (s : State) (x : Out) : SameButEvents s (s.emit x) := by
  constructor <;> first | exact id | (intros; rfl)
theorem SameButEvents.evt (s : State) (e : Evt) : SameButEvents s { s with evt := e } := by
  constructor <;> first | exact id | (intros; rfl)
theorem SameButEvents.gather (s : State) (e : Ev) : SameButEvents s (s.gather e) := SameButEvents.evt s _

/-- A field outside `EVT` and `TAL` reads as before. -/
theorem SameButEvents.get {s t : State} (h : SameButEvents s t) (f : Fld) (hf : ∀ k ∈ f.keys, ¬ evtKey k) : t.get f = s.get f :=
  State.get_congr f fun k hk => h.word k (hf k hk)
theorem SameButEvents.bit {s t : State} (h : SameButEvents s t) (f : Fld) (hf : ∀ k ∈ f.keys, ¬ evtKey k) : t.bit f = s.bit f := by
  unfold State.bit; rw [h.get f hf]
theorem SameButEvents.cfg {s t : State} (h : SameButEvents s t) (f : Fld) (hf : ∀ k ∈ f.keys, ¬ evtKey k) : t.cfg f = s.cfg f :=
  State.cfg_congr f (fun k hk => h.word k (hf k hk)) (fun k _ => by unfold State.liveWord; rw [h.live])
    fun k _ => by unfold State.heldOf; rw [h.held]

/-! ## Counters, messages, records -/

theorem evtKey_of_range (k : Nat) (h1 : 0x400000 ≤ k) (h2 : k < 0x600000) : evtKey k := by
  unfold evtKey; omega

theorem keys_narrow (f : Fld) (h : f.lo + f.w ≤ 32) : f.keys = [f.reg] := by unfold Fld.keys; rw [if_pos h]

theorem evtKeys_of_range (f : Fld) (h1 : 0x400000 ≤ f.reg) (h2 : f.reg + 4 < 0x600000) : ∀ k ∈ f.keys, evtKey k := by
  intro k hk
  unfold Fld.keys at hk
  split at hk <;> simp only [List.mem_cons, List.not_mem_nil, or_false] at hk
  · subst hk; exact evtKey_of_range _ h1 (by omega)
  · rcases hk with e | e <;> subst e <;> exact evtKey_of_range _ (by omega) (by omega)

theorem SameButEvents.setR (s : State) (f : Fld) (v : Nat) (h1 : 0x400000 ≤ f.reg) (h2 : f.reg + 4 < 0x600000) :
    SameButEvents s (s.set f v) := SameButEvents.set s f v (evtKeys_of_range f h1 h2)
theorem SameButEvents.putR (s : State) (f : Fld) (b : Bool) (h1 : 0x400000 ≤ f.reg) (h2 : f.reg + 4 < 0x600000) :
    SameButEvents s (s.put f b) := SameButEvents.setR s f _ h1 h2
theorem SameButEvents.orR (s : State) (f : Fld) (v : Nat) (h1 : 0x400000 ≤ f.reg) (h2 : f.reg + 4 < 0x600000) :
    SameButEvents s (s.orF f v) := SameButEvents.setR s f _ h1 h2
theorem SameButEvents.incR (s : State) (f : Fld) (n : Nat) (h1 : 0x400000 ≤ f.reg) (h2 : f.reg + 4 < 0x600000) :
    SameButEvents s (s.inc f n) := SameButEvents.setR s f _ h1 h2

/-- A counter of R487 advances. -/
theorem SameButEvents.tal (s : State) (b c n : Nat) (hb : b < 64) (hc : c < 8) : SameButEvents s (s.tal b c n) := by
  unfold State.tal
  split
  · refine SameButEvents.incR s _ _ ?_ ?_ <;> simp only [F.TAL_CNT, R.TAL_CNT] <;> omega
  · exact SameButEvents.refl s

theorem State.cfg_lt (s : State) (f : Fld) (h : f.rst < 2 ^ f.w) : s.cfg f < 2 ^ f.w := by
  unfold State.cfg
  simp only
  repeat' split
  all_goals first | exact h | exact bitsOf_lt _ _ _

/-- The message of a vector (R473). -/
theorem SameButEvents.message (s : State) (v : Nat) (hv : v < 256) : SameButEvents s (s.message v) := by
  unfold State.message
  split
  · exact SameButEvents.refl s
  · simp only
    split
    · exact SameButEvents.refl s
    · have h1 : SameButEvents s (s.set (F.EVT_ARM (v / 32)) (s.get (F.EVT_ARM (v / 32)) - 2 ^ (v % 32))) := by
        refine SameButEvents.setR s _ _ ?_ ?_ <;> simp only [F.EVT_ARM, R.EVT_ARM] <;> omega
      split
      · exact h1.trans (SameButEvents.wrLE _ _ _ _ _)
      · exact h1.trans ((SameButEvents.emit _ _).trans (SameButEvents.tal _ 4 2 1 (by omega) (by omega)))

theorem SameButEvents.vector (s t : State) (src : Nat) (h : SameButEvents s t) :
    SameButEvents s (t.message (t.cfg (F.EVT_ROUTE_VECTOR src))) :=
  h.trans (SameButEvents.message _ _ (State.cfg_lt _ _ (by simp [F.EVT_ROUTE_VECTOR])))

theorem SameButEvents.signalEvent (s : State) (src : Nat) (h : src < 1024) : SameButEvents s (s.signalEvent src) := by
  unfold State.signalEvent
  split
  · exact SameButEvents.refl s
  · have h1 : SameButEvents s (s.orF (F.EVT_PEND (src / 32)) (2 ^ (src % 32))) := by
      refine SameButEvents.orR s _ _ ?_ ?_ <;> simp only [F.EVT_PEND, R.EVT_PEND] <;> omega
    simp only
    split
    · exact SameButEvents.vector _ _ _ h1
    · exact h1

theorem SameButEvents.dropRecord (s : State) (c : Nat) (hc : c < 4) : SameButEvents s (s.dropRecord c) := by
  unfold State.dropRecord
  have h1 : SameButEvents s (((s.inc (F.EVT_DROP c) 1).put F.EVT_STICKY_OVERFLOW true).tal 4 1 1) := by
    refine ((SameButEvents.incR s _ _ ?_ ?_).trans (SameButEvents.putR _ _ _ ?_ ?_)).trans (SameButEvents.tal _ 4 1 1 (by omega) (by omega))
      <;> simp only [F.EVT_DROP, R.EVT_DROP, F.EVT_STICKY_OVERFLOW, R.EVT_STICKY] <;> omega
  exact (h1.trans (SameButEvents.evt _ _)).trans (SameButEvents.signalEvent _ 963 (by omega))

theorem SameButEvents.postRecord (s : State) (e : Ev) (c : Nat) : SameButEvents s (s.postRecord e c) := by
  unfold State.postRecord
  simp only
  refine SameButEvents.trans ?_ (SameButEvents.evt _ _)
  refine SameButEvents.trans (SameButEvents.trans ?_ (SameButEvents.incR _ _ _ ?_ ?_)) (SameButEvents.tal _ 4 0 1 (by omega) (by omega))
  · unfold State.when
    split
    · refine SameButEvents.trans ((SameButEvents.wr _ _ _ _).trans (SameButEvents.setR _ _ _ ?_ ?_)) (SameButEvents.setR _ _ _ ?_ ?_)
        <;> simp only [F.EVT_RING_TAIL_TAIL, F.EVT_RING_TAIL_LAP, R.EVT_RING_TAIL] <;> omega
    · refine (SameButEvents.wr _ _ _ _).trans (SameButEvents.setR _ _ _ ?_ ?_)
        <;> simp only [F.EVT_RING_TAIL_TAIL, R.EVT_RING_TAIL] <;> omega
  · simp only [F.EVT_RECORDS, R.EVT_RECORDS]; omega
  · simp only [F.EVT_RECORDS, R.EVT_RECORDS]; omega

theorem SameButEvents.record (s : State) (e : Ev) (hc : ∀ c, e.cls = some c → c < 4) : SameButEvents s (s.record e) := by
  unfold State.record
  have hcls : e.cls.getD (s.cfg (F.EVT_ROUTE_CLASS e.src)) < 4 := by
    cases h : e.cls with
    | none => exact State.cfg_lt s (F.EVT_ROUTE_CLASS e.src) (Nat.two_pow_pos 2)
    | some c => exact hc c h
  split
  · exact SameButEvents.refl s
  · simp only
    split
    · exact SameButEvents.dropRecord _ _ hcls
    · split
      · refine ((SameButEvents.incR s _ _ ?_ ?_).trans (SameButEvents.putR _ _ _ ?_ ?_)).trans (SameButEvents.tal _ 4 1 1 (by omega) (by omega))
          <;> simp only [F.EVT_DROP, R.EVT_DROP, F.EVT_STICKY_RING_ERR, R.EVT_STICKY] <;> omega
      · exact SameButEvents.postRecord _ _ _

/-- Raising an event of source below 1,024 and a class of R471. -/
theorem SameButEvents.raise (s : State) (e : Ev) (h : e.src < 1024) (hc : ∀ c, e.cls = some c → c < 4) :
    SameButEvents s (s.raise e) := by
  unfold State.raise
  split
  · exact SameButEvents.refl s
  · have h1 : SameButEvents s (s.orF (F.EVT_PEND (e.src / 32)) (2 ^ (e.src % 32))) := by
      refine SameButEvents.orR s _ _ ?_ ?_ <;> simp only [F.EVT_PEND, R.EVT_PEND] <;> omega
    simp only
    generalize s.orF (F.EVT_PEND (e.src / 32)) (2 ^ (e.src % 32)) = t at h1 ⊢
    have h2 : SameButEvents s (if t.on (F.EVT_ROUTE_RING e.src) ∧ e.src ≠ 963 then t.record e else t) := by
      split
      · exact h1.trans (SameButEvents.record t e hc)
      · exact h1
    generalize (if t.on (F.EVT_ROUTE_RING e.src) ∧ e.src ≠ 963 then t.record e else t) = u at h2 ⊢
    split
    · exact SameButEvents.vector _ _ _ h2
    · exact h2

end Sys2Proof.Machine
end

