-- ==== Sys2Proof/WellFormed.lean ====
section
/-! DEFINITION. Which commands are well formed: what the ranges of the operands' types do not say. A command whose one operand
is an index is well formed as it stands. `exec` asks for none of this: an ill-formed command has the effect its fields have. -/

namespace Sys2Proof

/-- Bits [lo+n-1:lo] of an instruction word (R209). -/
def AfiWord.field (a : AfiWord) (lo n : Nat) : Nat := a.w.toNat / 2 ^ lo % 2 ^ n
/-- Major opcode. -/
def AfiWord.op (a : AfiWord) : Nat := a.field 26 6
/-- Whether the prefix, if any, has the prefix's opcode (R211). -/
def AfiWord.pfxOk (a : AfiWord) : Bool := a.pfx.all fun p => p.toNat / 2 ^ 26 = 0x3F
/-- A word of a format without a long form (R210, R211). -/
def AfiWord.isOp (a : AfiWord) (op : Nat) : Bool := a.op = op && a.pfx.isNone
/-- A word of format I, short or long (R211). -/
def AfiWord.isImm (a : AfiWord) (op : Nat) : Bool := a.op = op && a.pfxOk
/-- An ALU operation: `fn` of opcode 0, or an opcode of its own in format I (R225, R230). -/
def AfiWord.isAlu (a : AfiWord) (fn : Nat) (opI : Option Nat) : Bool :=
  (a.isOp 0 && a.field 4 6 = fn) || opI.any a.isImm
/-- A bit-field operation (R225, R232). -/
def AfiWord.isBits (a : AfiWord) (fn : Nat) (opI : Option Nat) : Bool :=
  (a.isOp 0x0B && a.field 4 6 = fn) || opI.any a.isImm

/-- The alias that an address names (R137). -/
def Access.alias (a : Access) : Nat := a.addr.toNat / 0x40000 % 4
/-- An access has at least a byte, and at most a payload of 64 (R132). -/
def Access.wf (a : Access) : Bool := decide (0 < a.bytes ∧ a.bytes ≤ 64)

/-- The type of a discovery message (R273). -/
def DiscMsg.kind (m : DiscMsg) : Nat := m.w0.toNat / 2 ^ 56
/-- A halyard frame of a type, with at most 1,024 payload words (R440, R441). -/
def HalFrame.wf (f : HalFrame) (ty : Nat) : Bool := f.ty.toNat = ty && decide (f.payload.length ≤ 1024)

/-- A ledger entry lists check bits for every frame, or for none (R416). -/
def LedgerEntry.wf (e : LedgerEntry) : Bool := e.fcs.isEmpty || e.fcs.length = e.count
/-- A journal entry's command has at most 12 argument words (R150). -/
def JEntry.wf : JEntry → Bool
  | .reg _ _ _ => true
  | .cmd _ args _ _ => decide (args.length ≤ 12)
/-- A part of a snapshot has the size of what it names (R166, R171, R203). -/
def SnapPart.wf : SnapPart → Bool
  | .chan _ ws => decide (ws.length ≤ 32)
  | .locals _ bs => bs.length = 2048
  | .hoist bs => bs.length = 0xA0
  | .selector _ _ _ runs _ => runs.length = 4
  | .reg _ _ _ | .prog _ _ _ | .tileMem _ _ _ | .sram _ _ | .image _ _ _ _ _ _ _ _ | .queue _ _ _ | .unit _ _ _ | .last => true

/-- Whether a command is well formed: its operands agree with each other and with its row. -/
def Instr.wf : Instr → Bool
  | .tickBoundary m => m.temps.length = 12
  | .pennantEnterCmd v => v.getLsbD 0
  | .pennantExit v => v.getLsbD 1
  | .streamBeat _ _ ws => !ws.isEmpty && decide (ws.length ≤ 4)
  | .add _ w => w.isAlu 0 (some 1)
  | .sub _ w => w.isAlu 1 (some 2)
  | .and _ w => w.isAlu 2 (some 3)
  | .or _ w => w.isAlu 3 (some 4)
  | .xor _ w => w.isAlu 4 (some 5)
  | .min _ w => w.isAlu 5 (some 6)
  | .max _ w => w.isAlu 6 (some 7)
  | .adds _ w => w.isAlu 7 none
  | .minS _ w => w.isAlu 8 none
  | .maxS _ w => w.isAlu 9 none
  | .addsS _ w => w.isAlu 10 none
  | .ext _ w => w.isBits 0 (some 8)
  | .ins _ w => w.isBits 1 (some 9)
  | .rot _ w => w.isBits 2 (some 10)
  | .popc _ w => w.isBits 3 none
  | .clz _ w => w.isBits 4 none
  | .get _ w => w.isOp 0x10
  | .peek _ w => w.isOp 0x11
  | .put _ w => w.isOp 0x12
  | .skip _ w => w.isOp 0x13
  | .align _ w => w.isOp 0x14
  | .hunt _ w => w.isOp 0x19
  | .matchBits _ w => w.isOp 0x18
  | .cmp _ w => w.isOp 0x1C
  | .tst _ w => w.isOp 0x1D
  | .br _ w => w.isOp 0x20
  | .call _ w => w.isOp 0x21
  | .ret _ w => w.isOp 0x22
  | .yield _ w => w.isOp 0x23
  | .waitt _ w => w.isOp 0x24
  | .halt _ w => w.isOp 0x25
  | .ldc _ w => w.isOp 0x28
  | .stc _ w => w.isOp 0x29
  | .nextc _ w => w.isOp 0x2A
  | .enq _ w => w.isOp 0x2C
  | .deq _ w => w.isOp 0x2D
  | .qstat _ w => w.isOp 0x2E
  | .ptri _ w => w.isOp 0x30 && w.field 8 2 = 0
  | .bipa _ w => w.isOp 0x30 && w.field 8 2 = 1
  | .cmpd _ w => w.isOp 0x30 && w.field 8 2 = 2
  | .ilv _ w => w.isOp 0x31
  | .dilv _ w => w.isOp 0x32
  | .ckfReset _ w => w.isOp 0x33 && w.field 10 3 = 0
  | .ckfPrefix _ w => w.isOp 0x33 && w.field 10 3 = 1
  | .ckfFeed _ w => w.isOp 0x33 && w.field 10 3 = 2
  | .ckfSuffix _ w => w.isOp 0x33 && w.field 10 3 = 3
  | .ckfRead _ w => w.isOp 0x33 && w.field 10 3 = 4
  | .ckfCheck _ w => w.isOp 0x33 && w.field 10 3 = 5
  | .raise _ w => w.isImm 0x34
  | .pen _ w => w.isOp 0x35
  | .tickWork _ w => w.isImm 0x36 && w.field 0 14 = 0
  | .tickRef _ w => w.isImm 0x36 && w.field 0 14 = 1
  | .tickLive _ w => w.isImm 0x36 && w.field 0 14 = 2
  | .classify _ w => w.isImm 0x37
  | .ftcSnap v => v.getLsbD 0
  | .ftcEnable v => v.getLsbD 0
  | .domainSwitchRequest v => v.getLsbD 8
  | .fmStart _ v => v.getLsbD 16
  | .feedRetry v => v.getLsbD 0 || v.getLsbD 1
  | .pwrDomOn _ v => v.getLsbD 0
  | .pwrDomOff _ v => !v.getLsbD 0
  | .agingMeasure slow => slow.length = 8
  | .engineRetire v => v.getLsbD 8
  | .registerWrite a => a.wf
  | .setAliasWrite a => a.wf && a.write && a.alias = 1
  | .clearAliasWrite a => a.wf && a.write && a.alias = 2
  | .toggleAliasWrite a => a.wf && a.write && a.alias = 3
  | .commitGo _ v => v.getLsbD 0
  | .sramWindowWrite _ bs => !bs.isEmpty && decide (bs.length ≤ 64)
  | .parityClear v => v.getLsbD 0
  | .mboxSubmit _ v => v.getLsbD 0
  | .mboxRelease _ v => v.getLsbD 1
  | .ctxRead v => v.getLsbD 31
  | .tileDisable _ v => !v.getLsbD 0
  | .laneEnable _ v => v.getLsbD 0
  | .ethernetFrameReceive _ bytes => decide (4 < bytes.length)
  | .bundleFrameReceive _ bytes => bytes.length = 4860
  | .bundleFrameTransmit _ _ mgmt slots => mgmt.length = 64 && slots.length = 126 && slots.all fun x => decide (x.length ≤ 272)
  | .lineHail _ m => m.kind ≠ 2 && m.kind ≠ 3
  | .lineAnsweringPennant _ m => m.kind = 2
  | .negativeAnsweringPennant _ m => m.kind = 3
  | .discClear _ v => v.getLsbD 1
  | .queueEnable v => v.getLsbD 0
  | .queueDisable v => !v.getLsbD 0
  | .queueFlush v => v.getLsbD 0
  | .unitEnable _ v => v.getLsbD 0
  | .unitDisable _ v => !v.getLsbD 0
  | .swap _ v => v.getLsbD 0
  | .vpEnable _ v => v.getLsbD 0
  | .service _ v => v.getLsbD 0
  | .stop _ v => v.getLsbD 1
  | .vpRxFrame _ f => decide (f.samples.length ≤ 32)
  | .heartbeat _ h => decide (h.tick < 2 ^ 51)
  | .ledger _ l => l.entries.all LedgerEntry.wf
  | .journal _ e => e.wf
  | .digest _ es => !es.isEmpty
  | .snapshot _ p => p.wf
  | .halyardPortEnable _ v => v.getLsbD 0
  | .hail f => f.wf 0x01
  | .answeringPennant f => f.wf 0x02
  | .negPennant f => f.wf 0x03
  | .joinOffer f => f.wf 0x10
  | .joinAccept f => f.wf 0x11
  | .leave f => f.wf 0x12
  | .halReleaseFrame f => f.wf 0x13
  | .timeReq f _ _ => f.wf 0x20
  | .timeResp f _ => f.wf 0x21
  | .halCommand f => f.wf 0x30
  | .halResult f => f.wf 0x31
  | .halRegWriteFrame f => f.wf 0x32
  | .regAck f => f.wf 0x33
  | .imageChunk f => f.wf 0x40
  | .imageStatus f => f.wf 0x41
  | .halEvent f => f.wf 0x50
  | .halUser f => f.wf 0x51
  | .unbind v => v.getLsbD 0
  | .quarantineStart p => p ≠ .pair
  | .quarantineEnd p => p ≠ .pair
  | .vectorArm _ v => v ≠ 0
  | .evtEnable v => v.getLsbD 0
  | .recSourceEnable _ v => v.getLsbD 0
  | .tagEnable v => v.getLsbD 0
  | .chtResume v => v.getLsbD 0
  | .halyardAcknowledgement f => decide (f.payload.length ≤ 1024)
  | .superTickBoundary | .creditShortExpiry | .creditCauseClear | .pennantModeStart | .pennantPlacementMove
  | .pennantExitComplete | .releaseSample _ | .tickCloseMarker _ | .gateDeadline _ | .threadReady _ | .gateStallEnd _
  | .contextRefill _ _ | .referenceLoss _ | .referenceSwitch | .referenceQualify _ | .revertWaitExpiry | .acquireLock
  | .itoQualify | .xinWindow _ | .xinQualifyTimeout | .crystalMonitorTrip _ | .clockRetry | .pllCoast _ | .pllRestore _
  | .domainSwitchDone _ | .domainSwitchForce _ | .forcedDomainResume _ | .fmGateClose _ _ | .fmTimeout _ _ | .feedLost _ _
  | .feedRestored _ | .supervisorReload | .supervisorMismatch _ _ | .domainPowered _ | .keeperSetWrite _ | .retireAct
  | .calProgram _ | .calProgramDone _ | .scrubPass _ | .nop | .identify | .unknownCommand | .imageLoad | .imageUnload
  | .imageQuery | .hoistReimage | .bootLoad | .tableLoad | .tableClear | .deviceReset | .bootKeyProgram | .hoistLoad
  | .hoistUnload | .chanCommit | .pennantClear | .twinSet | .twinClear | .hoistMove | .ctxFlush | .pairStart | .pairYield
  | .pairResync | .pairStop | .halJoinOpen | .halRelease | .halSendCmd | .halRegWrite | .halImagePush | .halLeave
  | .halQuarClear | .recStart | .recStop | .recFlush | .recRead | .busHoldRelease _ | .masterDrainComplete _ | .txUnderrun _
  | .txOverrun _ | .laneLockLoss _ | .laneLockRegain _ | .dpClockStop _ | .dpClockReturn _ | .dpClockGlitch _
  | .dpRateWindow _ _ | .discoveryHailTimer | .discoveryTimeout _ | .setPhase _ | .resetPhase _ | .setRate _ | .xcChange _
  | .ptPointerAdjust _ _ | .flushApply _ | .watermarkClear _ _ | .runLoHold _ _ | .runLoad _ _ | .rampDownEnd _
  | .vpClockStop _ | .vpClockReturn _ | .vpRateResult _ _ | .vpTxBlock _ _ | .vpTxFrame _ | .xcBundleEmit
  | .selectorEnable _ _ | .selectorWtrExpiry _ | .heartbeatSend _ | .ledgerLate | .journalAck _ _ | .journalApply
  | .digestMissing | .pairQualify | .heartbeatLoss | .guardFault | .claimStart | .claimComplete | .claimRetry | .takeover
  | .yieldMessage _ _ | .accept _ | .yieldHandover | .joinConfigComplete | .snapshotAck _ | .snapshotLoad | .catchUpComplete
  | .logFull | .managerHailTimer | .timeReqSend | .retransmit _ | .managerLost | .memberLost _ | .autoFtcEnable
  | .overflowRecord | .msixUnmask _ | .recordWrite | .nvmeCompletion _ | .recFlushPeriod | .driveLost _ | .recResume
  | .tallySnapshot | .powerOnReset | .resetPin | .jtagReset | .hostLinkDown | .supervisorsStarted _ | .pllLock _
  | .pllLockTimeout _ | .calLoad | .bootVerify _ _ | .ddrTrained _ _ | .startScript | .scriptCommand | .scriptWait
  | .ddrChannelLost _ _ | .tileLost _ | .guardReadsHolding | .vpClockGlitch _ | .halyardLinkLoss _ | .halyardLinkReturn _
  | .hostLinkUp | .laneSignalLoss _ | .resetNRise _ | .domainOnTimeout _ | .imagePushTimeout | .malformedMessage _ _ => true

end Sys2Proof
end

