-- ==== Sys2Proof/Tests/Slice0.lean ====
section
/-! SUPPORT. The model's own tests: ill-formed commands that `Instr.wf` refuses, values and steps that the manual works out, and for
each statement with hypotheses a witness that meets the hypotheses of each of its clauses. -/

namespace Sys2Proof.Tests
open Sys2Proof Sys2Proof.Machine

set_option linter.unusedVariables false
set_option exponentiation.threshold 1000

/-! ## Small states -/

/-- The state with fields set, and in force. -/
def having (s : State) (l : List (Fld × Nat)) : State :=
  let s := l.foldl (fun s p => s.set p.1 p.2) s
  { s with regs := { s.regs with live := s.regs.vals } }
/-- The device after reset, with fields set. -/
def dev (l : List (Fld × Nat)) : State := having State.reset l
/-- A measurement of a quiet tick. -/
def quiet : Meas := ⟨0, 0, 0, 0, [], 0, false, false, false⟩
/-- A hoist of class V without a pennant placement, between two work ticks. -/
def hoist5 : Hoist :=
  { num := 5, cls := 1, lat := 2, typ := 0, wc := 100, tmin := 1, emerg := false, pennantAt := none, members := [3, 4], at_ := 5
    since := 0, w := 10 }
/-- The public key whose point is the base point. -/
def pointKey : List Byte := 4 :: natOctets 48 ecGx ++ natOctets 48 ecGy
/-- A boot image without firmware and script, and its signature under that key. -/
def bootHead : List Byte := leBytes 4 0x544F4F42 ++ leBytes 188 1 ++ pointKey ++ leBytes 95 0
def bootBytes : List Byte := bootHead ++ leBytes 48 ecGx ++ leBytes 48 ((octetsNat (sha384 bootHead) + ecGx) % ecN)
def bootDesc : BootImage := { powerMap := 0, ddrUse := 0, scriptAt := 0x180, scriptLen := 0 }
theorem pointKey_length : pointKey.length = 97 := by decide
theorem bootBytes_length : bootBytes.length = 480 := by simp [bootBytes, bootHead, pointKey, natOctets, leBytes_length]
set_option maxRecDepth 100000 in
theorem boot_signature : signatureGood ((bootBytes.drop 0xC0).take 97) ((bootBytes.drop 0).take 0x180) ((bootBytes.drop 0x180).take 96) = true := by
  decide +kernel
theorem boot_reads (s : State) (sp k n : Nat) (hm : s.mem = (State.reset.wr sp 0 bootBytes).mem) (h : k + n ≤ 480) :
    s.rdBytes sp k n = (bootBytes.drop k).take n := by
  have e : s.rdBytes sp k n = (State.reset.wr sp 0 bootBytes).rdBytes sp k n := by unfold State.rdBytes State.rd; rw [hm]
  rw [e]; exact State.rdBytes_wr_zero _ _ _ _ _ (by rw [bootBytes_length]; exact h) (by rw [bootBytes_length]; decide)
theorem boot_header (s : State) (sp limit : Nat) (hm : s.mem = (State.reset.wr sp 0 bootBytes).mem)
    (hl : limit = 0x1000000 ∨ limit = 0x1E0) : s.bootHeader sp 0 limit = (0, bootDesc) := by
  have r (k n : Nat) (h : k + n ≤ 480) := boot_reads s sp k n hm h
  simp (disch := decide) only [State.bootHeader, State.rdLE, r]
  rcases hl with rfl | rfl <;> decide +kernel
theorem boot_signed (s : State) (sp : Nat) (hm : s.mem = (State.reset.wr sp 0 bootBytes).mem) : s.bootSigned sp 0 bootDesc = true := by
  have r (k n : Nat) (h : k + n ≤ 480) := boot_reads s sp k n hm h
  simp (disch := decide) only [State.bootSigned, State.bootKey, BootImage.signed, bootDesc, r]
  exact boot_signature
theorem boot_judge (s : State) (sp limit : Nat) (hm : s.mem = (State.reset.wr sp 0 bootBytes).mem)
    (hl : limit = 0x1000000 ∨ limit = 0x1E0) (hk : s.boot.keySlot1 = some (sha384 pointKey)) :
    s.bootJudge sp 0 limit = (0, bootDesc) := by
  have hkey : s.bootKey sp 0 = pointKey := by
    rw [State.bootKey, boot_reads s sp _ _ hm (by decide)]; decide +kernel
  simp [State.bootJudge, boot_header s sp limit hm hl, boot_signed s sp hm, hkey, State.activeKey, hk]
/-- The bytes of a memory that holds `bs` from address `a` of space `sp`, in canonical form. -/
def cells (sp a : Nat) (bs : List Byte) : List Host.Cell :=
  (bs.zipIdx.filter fun p => p.1 ≠ 0).map fun p => (memKey sp a + p.2, p.1)
/-- The calibration staging page of the reset state but for its check value. -/
def pageHead : List Byte := (List.range 1023).flatMap fun i => leBytes 4 (State.reset.get (F.CAL_STAGE i))

theorem crc32_lt (bs : List Byte) : crc32 bs < 2 ^ 32 := by
  have step (c : Nat) (b : Byte) (h : c < 2 ^ 32) : crc32Step c b < 2 ^ 32 := by
    have hx : c ^^^ b.toNat < 2 ^ 32 := Nat.xor_lt_two_pow h (by have := b.isLt; omega)
    have fold (l : List Nat) : ∀ v < 2 ^ 32,
        l.foldl (fun v _ => if v % 2 = 1 then (v / 2) ^^^ 0xEDB88320 else v / 2) v < 2 ^ 32 := by
      induction l with
      | nil => intro v h; exact h
      | cons a l ih =>
        intro v h
        refine ih _ ?_
        dsimp only
        split
        · exact Nat.xor_lt_two_pow (by omega) (by omega)
        · omega
    exact fold _ _ hx
  have all (l : List Byte) : ∀ c < 2 ^ 32, l.foldl crc32Step c < 2 ^ 32 := by
    induction l with
    | nil => intro c h; exact h
    | cons b l ih => intro c h; exact ih _ (step c b h)
  exact Nat.xor_lt_two_pow (all bs _ (by omega)) (by omega)

theorem range_flatMap_succ (g : Nat → List Byte) (n : Nat) :
    (List.range (n + 1)).flatMap g = (List.range n).flatMap g ++ g n := by
  rw [List.range_succ, List.flatMap_append]; simp
theorem range_flatMap_length (f : Nat → Nat) (n : Nat) : ((List.range n).flatMap fun i => leBytes 4 (f i)).length = 4 * n := by
  induction n with
  | zero => rfl
  | succ n ih => rw [range_flatMap_succ, List.length_append, ih, leBytes_length]; omega

/-- A staged page with the check value of its other bytes is good. -/
theorem staged_page_good (v : Nat) (hv : v = crc32 pageHead) : pageCrcGood (State.reset.set (F.CAL_STAGE 1023) v).calStaged = true := by
  have hlt : v < 2 ^ 32 := hv ▸ crc32_lt _
  have hlast : (State.reset.set (F.CAL_STAGE 1023) v).get (F.CAL_STAGE 1023) = v := State.get_set_same_lt _ _ _ (by decide) hlt
  generalize hs : State.reset.set (F.CAL_STAGE 1023) v = s at hlast ⊢
  have hhead : (List.range 1023).flatMap (fun i => leBytes 4 (s.get (F.CAL_STAGE i))) = pageHead := by
    refine List.flatMap_congr fun i hi => congrArg (leBytes 4) ?_
    have hi := List.mem_range.mp hi
    subst hs
    refine State.get_congr _ fun k hk => State.word_set_ne _ _ _ _ ?_
    simp only [Fld.keys, F.CAL_STAGE, R.CAL_STAGE] at hk ⊢
    simp at hk ⊢
    omega
  have hall : s.calStaged = pageHead ++ leBytes 4 v := by
    have := range_flatMap_succ (fun i => leBytes 4 (s.get (F.CAL_STAGE i))) 1023
    rw [hhead, hlast] at this
    exact this
  have hlen : pageHead.length = 0xFFC := range_flatMap_length _ 1023
  unfold pageCrcGood
  rw [hall, List.take_left' hlen, List.drop_left' hlen, leNat_leBytes, ← hv]
  exact decide_eq_true (by omega)
theorem page_witness : ∃ (s : State) (v : Reg), s.InTables ∧ v.getLsbD 16 = true ∧ s.pwr.keyArmed = true
    ∧ s.get F.CAL_WRITES < 1000 ∧ s.bit F.CAL_STATUS_BUSY = false ∧ pageCrcGood s.calStaged = true := by
  obtain ⟨v, hv⟩ : ∃ v, v = crc32 pageHead := ⟨_, rfl⟩
  refine ⟨{ State.reset.set (F.CAL_STAGE 1023) v with pwr := { keyArmed := true } }, 0x10000, ?_, by decide, rfl, ?_, ?_,
    staged_page_good v hv⟩
  · exact (by decide : State.reset.InTables)
  · have h := State.get_set_apart State.reset (F.CAL_STAGE 1023) F.CAL_WRITES v (by decide)
    exact (h ▸ (by decide : State.reset.get F.CAL_WRITES < 1000) :)
  · have h := State.bit_set_apart State.reset (F.CAL_STAGE 1023) F.CAL_STATUS_BUSY v (by decide)
    exact (h.trans (by decide : State.reset.bit F.CAL_STATUS_BUSY = false) :)
/-- A mailbox command of the last slot. -/
def ask (op : Nat) (args : List Nat) : Cmd := { src := .slot 15, seq := 0x10009, op := op, argWords := 12, args := args, tag := 7 }
/-- The state with start-up ended and a command next in the mailbox. -/
def asked (s : State) (c : Cmd) : State :=
  { s with boot := { State.reset.boot with image := true, ran := true, trained := [0, 1], imageKey := pointKey }
           mbox := { queue := [c] } }
/-- A channel's cache entry whose first words are given. -/
def entry (c : Nat) (ws : List Nat) : CtxEntry :=
  { chan := c, words := ws.map (BitVec.ofNat 64) ++ List.replicate (32 - ws.length) 0, dirty := false, pinned := false }
/-- An image of 100 words in a tile. -/
def image7 (t : Nat) : Image :=
  { tile := t, id := 7, base := 0, codeWords := 100, constOff := 0x180000, constWords := 0, faultEntry := 0xFFFFFFFF, classes := 15 }
/-- The first words of a channel of `hoist5`, whose code is image 7. -/
def words5 : List Nat := [1 + 2 + 2 * 2 ^ 16 + 5 * 2 ^ 24, 7 * 2 ^ 32]
/-- The device in service, with the first two engines of tiles 0 and 1, image 7 there, and channels 3 and 4 of `hoist5`. -/
def serving : State :=
  { dev ([0, 1, 12, 96, 97, 104, 105, 156].map fun n => (F.PWR_DOM_STATUS_STATE n, 2)) with
    images := [image7 0, image7 1], ctx := [entry 3 words5, entry 4 words5] }
/-- The descriptor of `hoist5`. -/
def descriptor5 : List Byte :=
  leBytes 4 0x02000201 ++ leBytes 4 0xFFFF0500 ++ leBytes 24 100 ++ leBytes 2 3 ++ leBytes 126 4
/-- Image 9, of two words, as loaded at word 100 of tile 1; its arguments; the state with it staged and signed. -/
def image9 : Image :=
  { tile := 0, id := 9, base := 100, codeWords := 2, constOff := 0x180000, constWords := 0, faultEntry := 0xFFFFFFFF, classes := 15 }
def imageArgs : List Nat := [0, 2, 100, 0x180000]
def imageHead : List Byte :=
  leBytes 4 0x49464141 ++ leBytes 2 1 ++ leBytes 2 9 ++ leBytes 8 2 ++ leBytes 4 0xFFFFFFFF ++ leBytes 12 15
    ++ natOctets 48 (octetsNat (sha384 (leBytes 8 5))) ++ leBytes 48 0 ++ leBytes 8 5
def imageBytes : List Byte := imageHead ++ leBytes 48 ecGx ++ leBytes 48 ((octetsNat (sha384 imageHead) + ecGx) % ecN)
def imageStaged : State := { serving with mem := (State.reset.wr Sp.sram 0 imageBytes).mem }
theorem imageBytes_length : imageBytes.length = 232 := by simp [imageBytes, imageHead, natOctets, leBytes_length]
set_option maxRecDepth 100000 in
theorem image_signature : (decide (sha384 ((imageBytes.drop 0x80).take 8) = (imageBytes.drop 0x20).take 48)
    && signatureGood pointKey ((imageBytes.drop 0).take 0x88) ((imageBytes.drop 0x88).take 96)) = true := by
  decide +kernel
theorem image_reads (s : State) (k n : Nat) (hm : s.mem = (State.reset.wr Sp.sram 0 imageBytes).mem) (h : k + n ≤ 232) :
    s.rdBytes Sp.sram k n = (imageBytes.drop k).take n := by
  have e : s.rdBytes Sp.sram k n = (State.reset.wr Sp.sram 0 imageBytes).rdBytes Sp.sram k n := by unfold State.rdBytes State.rd; rw [hm]
  rw [e]; exact State.rdBytes_wr_zero _ _ _ _ _ (by rw [imageBytes_length]; exact h) (by rw [imageBytes_length]; decide)
theorem image_header (s : State) (hm : s.mem = (State.reset.wr Sp.sram 0 imageBytes).mem) :
    s.imageHeader 0 0 0 100 0x180000 = some image9 := by
  have r (k n : Nat) (h : k + n ≤ 232) := image_reads s k n hm h
  simp (disch := decide) only [State.imageHeader, State.rdLE, r]
  decide +kernel
theorem image_check (s : State) (hm : s.mem = (State.reset.wr Sp.sram 0 imageBytes).mem) (hi : s.images = serving.images) :
    s.imageLoadCheck (ask 0x10 imageArgs) = (Rc.ok, []) := by
  have h := image_header s hm
  unfold State.imageLoadCheck
  rw [show (ask 0x10 imageArgs).arg 0 = 0 from rfl, show (ask 0x10 imageArgs).arg 2 = 100 from rfl,
    show (ask 0x10 imageArgs).arg 3 = 0x180000 from rfl, show (ask 0x10 imageArgs).arg 1 = 2 from rfl, h]
  simp only [State.imageMeets, hi]
  decide +kernel
theorem image_signed (s : State) (hm : s.mem = (State.reset.wr Sp.sram 0 imageBytes).mem) (hk : s.boot.imageKey = pointKey) :
    s.imageSigned 0 0x88 = true := by
  have r (k n : Nat) (h : k + n ≤ 232) := image_reads s k n hm h
  simp (disch := decide) only [State.imageSigned, r, hk]
  exact image_signature
theorem image_unsigned (s : State) (hk : s.boot.imageKey = []) : s.imageSigned 0 0x88 = false := by
  simp [State.imageSigned, signatureGood, hk]
/-- Two S channels that may be twins: of hoists in tiles 0 and 1, on one stream. -/
def twinWords (h q : Nat) : List Nat := [1 + 4 * 2 ^ 16 + h * 2 ^ 24, 7 * 2 ^ 32, 2 ^ 15 + q + (2 ^ 15 + q + 2) * 2 ^ 16, 2 ^ 8 + q]
def twins : State :=
  { serving with
    hoists := [{ hoist5 with cls := 0, lat := 4, pennantAt := some 0, members := [3] },
               { hoist5 with num := 200, cls := 0, lat := 4, pennantAt := some 192, members := [4] }]
    ctx := [entry 3 (twinWords 5 1), entry 4 (twinWords 200 2)], queues := [{ num := 1 }, { num := 2 }] }
/-- An instruction of one word; of two. -/
def code1 (n : Nat) : AfiWord := ⟨none, BitVec.ofNat 32 n, false, none⟩
def code2 (hi lo : Nat) : AfiWord := ⟨some (BitVec.ofNat 32 (0x3F * 2 ^ 26 + hi)), BitVec.ofNat 32 lo, false, none⟩
/-- `hoist5` at work: at word 4 of image 7, with values in its registers and predicates. -/
def worker : Hoist :=
  { hoist5 with
    ready := true, allow := 10, img := 7, pc := 4
    t := [0, 5, 0xF000000000000003, 0x7FFFFFFFFFFFFFFF, 0x8000000000000000, 0x307, 2, 0xFFFF, 0, 0x123456789ABCDEF0, 12, 0, 0, 0, 0, 9].map
      (BitVec.ofNat 64)
    p := [false, true, false, true, false, false, false, false] }
/-- A queue's word. -/
def qword (d t arr : Nat) : QWord := { data := BitVec.ofNat 64 d, tag := BitVec.ofNat 5 t, arr := arr }
/-- The state in which `worker`, or `h` in its place, works: queues 1 (in), 2 (release), 3 (aux, written) and 4 (aux, read). -/
def working (h : Hoist) : State :=
  { having serving [(F.TILE_CTRL_ENABLE 0, 1), (F.QUE_W_CFG_WRITER 2, 1), (F.QUE_W_HOIST_W_HOIST 2, 5), (F.QUE_W_CFG_READER 2, 1),
      (F.QUE_W_CFG_WRITER 3, 1), (F.QUE_W_HOIST_W_HOIST 3, 5), (F.QUE_W_SUBST 1, 0x77), (F.CK_CFG_ENABLE 0, 1),
      (F.CK_CFG_WIDTH 0, 31), (F.CK_POLY 0, 0x04C11DB7), (F.CK_BIND_TARGET 0, 5), (F.CK_CFG_FOLDW 0, 4)] with
    hoists := [h, { hoist5 with num := 7, at_ := 7 }]
    ctx := [entry 3 (words5 ++ [2 ^ 15 + 1 + (2 ^ 15 + 2) * 2 ^ 16 + (2 ^ 15 + 3) * 2 ^ 32 + (2 ^ 15 + 4) * 2 ^ 48, 2 ^ 8]),
            entry 4 (words5 ++ [2 ^ 15 + 1 + (2 ^ 15 + 2) * 2 ^ 16, 0])]
    queues := [{ num := 1, gate := some 11, words := [qword 0x1122334455667788 0 9, qword 0x99AABBCCDDEEFF00 0 10] },
      { num := 2, gate := some 10 }, { num := 3, gate := some 10 },
      { num := 4, gate := some 11, words := [qword 6 3 10], incomplete := [10] }] }
/-- The tick generator runs, at tick `n`. -/
def ticking (s : State) (n : Nat) : State :=
  { having s [(F.CLK_STATUS_FTC_STATE, 1)] with clk := { tick := n } }
/-- What a register holds after reset, and that plus `n`. -/
def plus (key n : Nat) : Reg := BitVec.ofNat 32 (State.reset.word key + n)
/-- A discovery message with its check value. -/
def discMsg (w0 w1 w2 : Nat) : DiscMsg :=
  ⟨BitVec.ofNat 64 w0, BitVec.ofNat 64 w1, BitVec.ofNat 64 w2,
    BitVec.ofNat 64 (discCrc (BitVec.ofNat 64 w0) (BitVec.ofNat 64 w1) (BitVec.ofNat 64 w2))⟩
/-- A frame's bytes up to its check value: 12 bytes of addresses, the length field, data. -/
def frameBody (n : Nat) : List Byte := leBytes 12 0xABCDEF ++ [8, 0] ++ (List.range n).map (BitVec.ofNat 8)
def bundHead : List Byte := [0xB8, 0xB8, 0xB8, 0x47, 0x47, 0x47]
/-- A unit in a state of pair mode, its port enabled. -/
def paired (st : Nat) (l : List (Fld × Nat)) : State :=
  dev ([(F.HAL_H_CFG_ENABLE 0, 1), (F.HAL_H_CFG_PAIR 0, 1), (F.PRT_PAIR_STATUS_STATE, st)] ++ l)
/-- A heartbeat of a peer in a state, with a burgee. -/
def beat (st : Fin 8) (b : Nat) : Heartbeat :=
  { tick := 40, state := st, pref := false, qualified := true, pennant := false, burgee := BitVec.ofNat 64 b, jseq := 4 }

/-- A worker in a state of membership, and a manager with entry 5 in a state; burgees 77 and 88. -/
def hworker (st : Nat) (l : List (Fld × Nat)) : State :=
  dev ([(F.HAL_CFG_ROLE, 1), (F.HAL_H_CFG_ENABLE 1, 1), (F.HAL_STATE_STATE, st), (F.HAL_MGR, 77)] ++ l)
def hmanager (st : Nat) (l : List (Fld × Nat)) : State :=
  dev ([(F.HAL_CFG_ROLE, 3), (F.HAL_H_CFG_ENABLE 1, 1), (F.HAL_MEM_STATE_STATE 5, st), (F.HAL_MEM_BURGEE 5, 88)] ++ l)
/-- A hierarchy frame on `H1`. -/
def hframe (ty src addr : Nat) (ws : List Nat) : HalFrame :=
  { port := 1, etype := BitVec.ofNat 16 34998, vid := none, ty := BitVec.ofNat 8 ty, seq := 1, src := BitVec.ofNat 64 src, dst := 0
    srcAddr := BitVec.ofNat 14 addr, dstAddr := 0, bcast := false, payload := ws.map (BitVec.ofNat 64) }

set_option maxRecDepth 100000

/-! ## Ill-formed commands -/

/-- Register rows whose value lacks the row's bit, and instruction rows with another opcode. -/
theorem test_wf_refuses_fields_1 : ([
    .pennantEnterCmd 0, .pennantExit 0, .add 0 (code1 0xFFFFFFFF), .sub 0 (code1 0xFFFFFFFF), .and 0 (code1 0xFFFFFFFF),
    .or 0 (code1 0xFFFFFFFF), .xor 0 (code1 0xFFFFFFFF), .min 0 (code1 0xFFFFFFFF), .max 0 (code1 0xFFFFFFFF),
    .adds 0 (code1 0xFFFFFFFF), .minS 0 (code1 0xFFFFFFFF), .maxS 0 (code1 0xFFFFFFFF), .addsS 0 (code1 0xFFFFFFFF),
    .ext 0 (code1 0xFFFFFFFF), .ins 0 (code1 0xFFFFFFFF), .rot 0 (code1 0xFFFFFFFF), .popc 0 (code1 0xFFFFFFFF),
    .clz 0 (code1 0xFFFFFFFF), .get 0 (code1 0xFFFFFFFF), .peek 0 (code1 0xFFFFFFFF), .put 0 (code1 0xFFFFFFFF),
    .skip 0 (code1 0xFFFFFFFF), .align 0 (code1 0xFFFFFFFF), .hunt 0 (code1 0xFFFFFFFF), .matchBits 0 (code1 0xFFFFFFFF),
    .cmp 0 (code1 0xFFFFFFFF), .tst 0 (code1 0xFFFFFFFF), .br 0 (code1 0xFFFFFFFF), .call 0 (code1 0xFFFFFFFF),
    .ret 0 (code1 0xFFFFFFFF), .yield 0 (code1 0xFFFFFFFF), .waitt 0 (code1 0xFFFFFFFF), .halt 0 (code1 0xFFFFFFFF),
    .ldc 0 (code1 0xFFFFFFFF), .stc 0 (code1 0xFFFFFFFF), .nextc 0 (code1 0xFFFFFFFF), .enq 0 (code1 0xFFFFFFFF),
    .deq 0 (code1 0xFFFFFFFF), .qstat 0 (code1 0xFFFFFFFF), .ptri 0 (code1 0xFFFFFFFF)] :
    List Instr).all (fun i => !i.wf) = true := by decide
/-- Register rows whose value lacks the row's bit, and instruction rows with another opcode. -/
theorem test_wf_refuses_fields_2 : ([
    .bipa 0 (code1 0xFFFFFFFF), .cmpd 0 (code1 0xFFFFFFFF), .ilv 0 (code1 0xFFFFFFFF), .dilv 0 (code1 0xFFFFFFFF),
    .ckfReset 0 (code1 0xFFFFFFFF), .ckfPrefix 0 (code1 0xFFFFFFFF), .ckfFeed 0 (code1 0xFFFFFFFF),
    .ckfSuffix 0 (code1 0xFFFFFFFF), .ckfRead 0 (code1 0xFFFFFFFF), .ckfCheck 0 (code1 0xFFFFFFFF),
    .raise 0 (code1 0xFFFFFFFF), .pen 0 (code1 0xFFFFFFFF), .tickWork 0 (code1 0xFFFFFFFF),
    .tickRef 0 (code1 0xFFFFFFFF), .tickLive 0 (code1 0xFFFFFFFF), .classify 0 (code1 0xFFFFFFFF), .ftcSnap 0,
    .ftcEnable 0, .domainSwitchRequest 0, .fmStart 0 0, .feedRetry 0, .pwrDomOn 0 0, .pwrDomOff 0 1, .engineRetire 0,
    .commitGo .clk 0, .parityClear 0, .mboxSubmit 0 0, .mboxRelease 0 0, .ctxRead 0, .tileDisable 0 1, .laneEnable 0 0,
    .discClear 0 0, .queueEnable 0, .queueDisable 1, .queueFlush 0, .unitEnable 0 0, .unitDisable 0 1, .swap 0 0,
    .vpEnable 0 0, .service 0 0] :
    List Instr).all (fun i => !i.wf) = true := by decide
/-- Register rows whose value lacks the row's bit, and instruction rows with another opcode. -/
theorem test_wf_refuses_fields_3 : ([
    .stop 0 0, .halyardPortEnable 0 0, .unbind 0, .vectorArm 0 0, .evtEnable 0, .recSourceEnable 0 0, .tagEnable 0,
    .chtResume 0] :
    List Instr).all (fun i => !i.wf) = true := by decide
/-- Words with the row's major opcode and another function code, prefix or format. -/
theorem test_wf_refuses_subcodes : ([
    .ptri 0 (code1 0xC0000100), .bipa 0 (code1 0xC0000200), .cmpd 0 (code1 0xC0000000), .ckfReset 0 (code1 0xcc000400),
    .ckfPrefix 0 (code1 0xcc000800), .ckfFeed 0 (code1 0xcc000c00), .ckfSuffix 0 (code1 0xcc001000),
    .ckfRead 0 (code1 0xcc001400), .ckfCheck 0 (code1 0xcc000000), .tickWork 0 (code1 0xD8000001),
    .tickRef 0 (code1 0xD8000000), .tickLive 0 (code1 0xD8000000),
    .raise 0 ⟨some 0, BitVec.ofNat 32 (0x34 * 2 ^ 26), false, none⟩, .cmp 0 ⟨some 0xFC000000, 0x70000000, false, none⟩,
    .add 0 (code1 16), .ext 0 (code1 0x2C000010), .br 0 (code1 0x84000000)] :
    List Instr).all (fun i => !i.wf) = true := by decide
/-- Operands out of the row's range. -/
theorem test_wf_refuses_operands : ([
    .tickBoundary { quiet with temps := [0] }, .streamBeat 0 false [], .streamBeat 0 false (List.replicate 5 ⟨0, 0⟩),
    .agingMeasure [], .registerWrite { addr := 0, write := true, bytes := 0, be := 15, master := 0, value := 0 },
    .registerWrite { addr := 0, write := true, bytes := 65, be := 15, master := 0, value := 0 },
    .setAliasWrite { addr := 0, write := true, bytes := 4, be := 15, master := 0, value := 0 },
    .clearAliasWrite { addr := 0x40000, write := true, bytes := 4, be := 15, master := 0, value := 0 },
    .toggleAliasWrite { addr := 0x40000, write := true, bytes := 4, be := 15, master := 0, value := 0 },
    .setAliasWrite { addr := 0x40000, write := false, bytes := 4, be := 15, master := 0, value := 0 },
    .sramWindowWrite 0 [], .sramWindowWrite 0 (List.replicate 65 none), .ethernetFrameReceive 0 [1, 2, 3, 4],
    .bundleFrameReceive 0 [], .bundleFrameTransmit 0 0 [] (List.replicate 126 []),
    .bundleFrameTransmit 0 0 (List.replicate 64 0) [],
    .bundleFrameTransmit 0 0 (List.replicate 64 0) (List.replicate 126 (List.replicate 273 true)),
    .lineHail 0 (discMsg (2 * 2 ^ 56) 0 0), .lineHail 0 (discMsg (3 * 2 ^ 56) 0 0),
    .lineAnsweringPennant 0 (discMsg (3 * 2 ^ 56) 0 0), .negativeAnsweringPennant 0 (discMsg (2 * 2 ^ 56) 0 0),
    .vpRxFrame 0 ⟨0, List.replicate 33 0, true⟩, .heartbeat 0 { beat 3 7 with tick := 2 ^ 51 },
    .ledger 0 { tick := 0, entries := [⟨0, 2, [5]⟩] }, .journal 0 (.cmd 0 (List.replicate 13 0) [] 0), .digest 0 [],
    .snapshot 0 (.chan 0 (List.replicate 33 0)), .snapshot 0 (.locals 0 []), .snapshot 0 (.hoist []),
    .snapshot 0 (.selector 0 true none [] none), .quarantineStart .pair, .quarantineEnd .pair] :
    List Instr).all (fun i => !i.wf) = true := by decide
/-- Halyard frames of another type, or too long. -/
theorem test_wf_refuses_frames : ([
    .hail (hframe 0xFF 0 0 []), .answeringPennant (hframe 0xFF 0 0 []), .negPennant (hframe 0xFF 0 0 []),
    .joinOffer (hframe 0xFF 0 0 []), .joinAccept (hframe 0xFF 0 0 []), .leave (hframe 0xFF 0 0 []),
    .halReleaseFrame (hframe 0xFF 0 0 []), .halCommand (hframe 0xFF 0 0 []), .halResult (hframe 0xFF 0 0 []),
    .halRegWriteFrame (hframe 0xFF 0 0 []), .regAck (hframe 0xFF 0 0 []), .imageChunk (hframe 0xFF 0 0 []),
    .imageStatus (hframe 0xFF 0 0 []), .halEvent (hframe 0xFF 0 0 []), .halUser (hframe 0xFF 0 0 []),
    .timeReq (hframe 0xFF 0 0 []) 0 0, .timeResp (hframe 0xFF 0 0 []) 0, .hail (hframe 1 0 0 (List.replicate 1025 0)),
    .halyardAcknowledgement (hframe 1 0 0 (List.replicate 1025 0))] :
    List Instr).all (fun i => !i.wf) = true := by decide
/-- Well-formed commands. -/
theorem test_wf_takes : ([
    .tickBoundary { quiet with temps := List.replicate 12 0 }, .pennantEnterCmd 1, .pennantExit 2, .add 0 (code1 0),
    .add 0 ⟨some 0xFC000004, 0x04002345, false, none⟩, .ptri 0 (code1 0xC0000000), .ckfFeed 0 (code1 0xCC000800),
    .cmp 0 (code1 0x70085140),
    .setAliasWrite { addr := 0x2401F0, write := true, bytes := 4, be := 15, master := 0, value := 0 },
    .registerWrite { addr := 0x200008, write := false, bytes := 4, be := 15, master := 0, value := 0 },
    .hail (hframe 1 77 5 [1, 2]), .lineHail 0 (discMsg (2 ^ 56) 0 0), .ledger 0 { tick := 0, entries := [⟨0, 2, []⟩] },
    .quarantineStart .host, .queueDisable 0, .vectorArm 0 1] :
    List Instr).all (fun i => i.wf) = true := by decide

/-! ## Values the manual works out, and steps on small states -/

/-- What holds of the next state of an outcome. -/
def after (o : Host.Outcome State Fault Refusal) (p : State → Bool) : Bool := match o with | .next t => p t | _ => false
/-- A state whose queue holds one command. -/
def queued (s : State) (c : Instr) : State := { s with pending := [c] }
/-- The bits of a list of strings of zeros and ones at bit positions, in a view of 128 zeros. -/
def viewWith (bs : List Bool) (at_ : List Nat) : List Bool :=
  (List.range 128).map fun i => at_.any fun a => decide (a ≤ i) && bs.getD (i - a) false

/-- A step takes the front command off the queue. -/
theorem test_step_takes_front : after (step (queued State.reset .managerLost)) (fun t => t.pending = []) = true := by decide
/-- The band of the worked example of R70 (log 83 on its lower bound), and its eight counts. -/
theorem test_xin_counts : State.reset.xinInBand 32277 && State.reset.xinInBand 33259 && !State.reset.xinInBand 33260
    && !State.reset.xinInBand 98300
    && State.reset.xinSpanOk [32771, 32769, 32770, 32772, 32768, 32771, 32770, 32769] = true := by decide
/-- The worked example of R107: 24.4 W of base power under a cap of 40 W leave 9,750,000 slots of 200 pJ. -/
theorem test_budget_credit :
    ({ dev [(F.PWR_BUDGET_CAP_CAP, 80)] with pwr := {} } : State).creditFrom 24400000000 = 9750000 := by decide
/-- The worked example of R108: the demands of the four classes against that credit. -/
theorem test_budget_shares :
    ({ State.reset with hoists := [{ hoist5 with num := 0, cls := 0, wc := 600000 }, { hoist5 with num := 1, wc := 2400000 },
        { hoist5 with num := 2, cls := 2, wc := 6000000, tmin := 3000000 }, { hoist5 with num := 3, cls := 3, wc := 4000000 }] } :
      State).allowances 9750000 = [(0, 600000), (1, 2400000), (2, 6000000), (3, 750000)] := by decide
/-- The worked example of R137: `KEEP` of domain 60 is set at the set alias, and `ON` stays. -/
theorem test_keep_at_set_alias : after (step (queued (dev [(F.PWR_DOM_CTRL_ON 60, 1)])
      (.setAliasWrite { addr := 0x002401F0, write := true, bytes := 4, be := 15, master := 0, value := 2 })))
    (fun t => t.bit (F.PWR_DOM_CTRL_KEEP 60) && t.bit (F.PWR_DOM_CTRL_ON 60)) = true := by decide
/-- The worked example of R211: the prefix of the immediate 0x12345. -/
theorem test_prefix_immediate : after (step (queued (working worker) (.add 5 ⟨some 0xFC000004, BitVec.ofNat 32 (2 ^ 26 + 11 * 2 ^ 18 + 0x2345), false, none⟩)))
    (fun t => (t.hoist 5).map (fun h => (h.reg 11, h.pc)) = some (0x12345, 6)) = true := by decide
/-- The sum wraps at 64 bits (R230): the destination is a source. -/
theorem test_add_wraps : after (step (queued (working { worker with t := worker.t.set 1 0xFFFFFFFFFFFFFFFF })
      (.add 5 (code1 (2 ^ 18 + 2 ^ 14 + 2 * 2 ^ 10)))))
    (fun t => (t.hoist 5).map (·.reg 1) = some 0xF000000000000002) = true := by decide
/-- The worked example of R226: the word of `CMP.ltu p1, t1, 64`. -/
theorem test_cmp_word : after (step (queued (working worker) (.cmp 5 (code1 0x70085140)))) (fun t => (t.hoist 5).map (·.p.getD 1 false) = some true)
    = true := by decide
/-- The worked example of `HUNT`: the FAS at offsets 5 and 40 of the window. -/
theorem test_hunt_bitmap : huntBits (viewWith [false, false, true, true, false, true, true] [5, 40]) 0x3600000000000000 0xFE00000000000000 63
    = (0x0400000000800000, true) := by decide
/-- The worked example of `PTRI`: an increment, and the pointer after it. -/
theorem test_pointer_increment : pointerClass 0x6AEC 0x8046 3 false = 0x050302EC ∧ pointerClass 0x6847 0x8047 3 false = 0x47 := by decide
/-- The worked example of `CKF`: the check of "123456789" under the parameters of the fragment. -/
theorem test_unit_check : (((dev [(F.CK_CFG_WIDTH 17, 15), (F.CK_CFG_REFIN 17, 0), (F.CK_CFG_REFOUT 17, 0), (F.CK_POLY 17, 0x1021),
      (F.CK_INIT 17, 0xFFFF), (F.CK_XOR 17, 0)]).ckReset 17).ckBytes 17 [0x31, 0x32, 0x33, 0x34, 0x35, 0x36, 0x37, 0x38, 0x39]).ckFinal 17
    = 0x29B1 := by decide
/-- The reference value of CRC-32 for the same bytes. -/
theorem test_crc32 : crc32 [0x31, 0x32, 0x33, 0x34, 0x35, 0x36, 0x37, 0x38, 0x39] = 0xCBF43926 := by decide
/-- The digest of "abc" that FIPS 180-4's examples give. -/
theorem test_sha384 : octetsNat (sha384 [0x61, 0x62, 0x63])
    = 0xcb00753f45a35e8bb5a03d699ac65007272c32ab0eded1631a8b605a43ff5bed8086072ba1e7cc2358baeca134c825a7 := by decide +kernel
/-- The worked example of R352: the capacity of a class V queue with 31 lines of middle. -/
theorem test_queue_capacity : (dev [(F.QUE_W_CFG_CLASS 1, 1), (F.QUE_W_MIDSIZE 1, 31)]).capacity 1 = 264 := by decide
/-- The worked example of R394: full scale at the first frame of a ramp plays as 1. -/
theorem test_ramp_gain : gainFactor 64 64 = 1 ∧ gainFactor 64 0 = 32768 := by decide
/-- The worked example of R452. -/
theorem test_time_exchange : timeResult (160000 * 8192 + 99) (160000 * 8192 + 419) (160000 * 8192 + 899) (160000 * 8192 + 1179) = (600, 20) := by
  decide
/-- The worked example of R471: a T record is written while fewer than 3,327 are unread, a B record while fewer than 2,303. -/
theorem test_ring_reserves :
    let ring (n : Nat) : State := dev [(F.EVT_RING_SIZE_SIZE, 12), (F.EVT_RESV0_RESV_S, 256), (F.EVT_RESV0_RESV_V, 512),
      (F.EVT_RESV1_RESV_T, 1024), (F.EVT_RING_TAIL_TAIL, n)]
    (ring 3326).ringAdmits 2 && !(ring 3327).ringAdmits 2 && (ring 2302).ringAdmits 3 && !(ring 2303).ringAdmits 3
      && (ring 4094).ringAdmits 0 && !(ring 4095).ringAdmits 0 = true := by decide
/-- A write to an address that is no multiple of 4 stores nothing, and is logged (R132). -/
theorem test_unaligned_write : after (step (queued State.reset
      (.registerWrite { addr := 0x00200009, write := true, bytes := 4, be := 15, master := 0, value := 0x10101 })))
    (fun t => t.get F.PWR_BUDGET_CAP_CAP = State.reset.get F.PWR_BUDGET_CAP_CAP && t.get F.BUS_ERRLOG_COUNT = 1) = true := by decide
/-- The state of the invariants' statements: a step answers a next state, from settled pins. -/
theorem test_reset_steps : ∃ t, step State.reset = .next t ∧ (State.reset.PinsSettled ∨ State.reset.pending ≠ []) ∧ State.reset.InTables :=
  ⟨State.reset.idle, rfl, .inl rfl, by decide⟩

/-! ## Witnesses of the statements' hypotheses, clause by clause -/

theorem witness_StepRunsFrontCommand :
    (∃ s : State, ∃ c : Instr, ∃ rest : List Instr, s.pending = c :: rest)
    ∧ (∃ s : State, s.pending = []) :=
  ⟨⟨{ State.reset with pending := [.ret 0 ⟨none, 0, false, none⟩, .managerLost] }, .ret 0 ⟨none, 0, false, none⟩,
      [.managerLost], by decide⟩,
   ⟨State.reset, by decide⟩⟩

theorem witness_TickGeneratorCounts :
    (∃ s : State, ∃ v : Reg, s.InTables ∧ v.getLsbD 0 = true)
    ∧ (∃ s : State, ∃ v : Reg, s.InTables ∧ s.HostActs ∧ s.ftcState = Ftc.disabled ∧ s.bit F.CLK_FTC_CTRL_ENABLE = false
        ∧ v.getLsbD 0 = true)
    ∧ (∃ s : State, ∃ m : Meas, s.InTables ∧ s.ftcState ≠ Ftc.disabled ∧ s.boot.resetAt = none)
    ∧ (∃ s : State, ∃ m : Meas, s.InTables ∧ s.ftcState = Ftc.disabled)
    ∧ (∃ s : State, s.InTables ∧ s.superTick = true) :=
  ⟨⟨State.reset, 1, by decide⟩,
   ⟨State.reset, 1, by decide⟩,
   ⟨dev [(F.CLK_STATUS_FTC_STATE, 1)], quiet, by decide⟩,
   ⟨State.reset, quiet, by decide⟩,
   ⟨dev [(F.CLK_STATUS_FTC_STATE, 1)], by decide⟩⟩

theorem witness_ReferencesFollowTheirRules :
    (∃ s : State, ∃ sl : RefSlot, s.InTables ∧ s.refKind sl ≠ 0 ∧ (s.refKind sl = 1 → 8 ≤ s.refMiss sl))
    ∧ (∃ s : State, ∃ sl : RefSlot, ∃ a : Nat, s.InTables ∧ s.clk.lossAt = some a ∧ a < s.tick ∧ s.activeRef = some sl
        ∧ (s.ftcState = Ftc.locked ∨ s.ftcState = Ftc.acquire))
    ∧ (∃ s : State, ∃ sl : RefSlot, s.InTables ∧ s.refPresent (s.refKind sl) = true ∧ s.refQual sl = false
        ∧ s.cfg F.CLK_FTC_CTRL_QUAL * 1024 ≤ s.refTicks sl)
    ∧ (∃ s : State, s.InTables ∧ s.activeRef = some .alt ∧ s.clk.priQual = true ∧ s.on F.CLK_FTC_CTRL_REVERT = true
        ∧ s.cfg F.CLK_FTC_CTRL_WTR * 1024 ≤ s.clk.wtrTicks)
    ∧ (∃ s : State, s.InTables ∧ s.ftcState = Ftc.acquire ∧ 64 ≤ s.clk.lockTicks) :=
  ⟨⟨{ dev [(F.CLK_FTC_REF_SEL_PRI, 4), (F.CLK_FTC_REF_SEL_ALT, 1), (F.CLK_STATUS_FTC_STATE, 3), (F.CLK_STATUS_FTC_ACTIVE_REF, 1)] with clk := { tick := 100, lossAt := some 99, altMiss := 8 } }, .alt, by decide⟩,
   ⟨{ dev [(F.CLK_FTC_REF_SEL_PRI, 4), (F.CLK_FTC_REF_SEL_ALT, 1), (F.CLK_STATUS_FTC_STATE, 3), (F.CLK_STATUS_FTC_ACTIVE_REF, 1)] with clk := { tick := 100, lossAt := some 99, altMiss := 8 } }, .pri, 99, by decide⟩,
   ⟨{ dev [(F.CLK_FTC_REF_SEL_PRI, 4), (F.CLK_STATUS_FTC_STATE, 1), (F.CLK_FTC_CTRL_QUAL, 1)] with clk := { priTicks := 1024 } }, .pri, by decide⟩,
   ⟨{ dev [(F.CLK_FTC_REF_SEL_PRI, 4), (F.CLK_STATUS_FTC_STATE, 3), (F.CLK_STATUS_FTC_ACTIVE_REF, 2), (F.CLK_FTC_CTRL_REVERT, 1), (F.CLK_FTC_CTRL_WTR, 1)] with clk := { priQual := true, wtrTicks := 1024 } }, by decide⟩,
   ⟨{ dev [(F.CLK_STATUS_FTC_STATE, 2), (F.CLK_STATUS_FTC_ACTIVE_REF, 1)] with clk := { lockTicks := 64 } }, by decide⟩⟩

theorem witness_OscillatorsQualifyAndFail :
    (∃ s : State, s.InTables ∧ s.bit F.CLK_STATUS_ITO_OK = false ∧ s.clk.oscOn = true ∧ s.boot.supDone = true
        ∧ s.boot.held = false)
    ∧ (∃ s : State, ∃ count : Nat, s.InTables ∧ s.bit F.CLK_STATUS_ITO_OK = true ∧ s.clk.oscOn = true
        ∧ s.bit F.CLK_STATUS_XIN_OK = false)
    ∧ (∃ s : State, ∃ count : Nat, s.InTables ∧ s.bit F.CLK_STATUS_ITO_OK = true ∧ s.clk.oscOn = true
        ∧ s.bit F.CLK_STATUS_XIN_OK = true ∧ s.xinInBand count = false ∧ 1 ≤ s.clk.badCounts)
    ∧ (∃ s : State, s.InTables ∧ s.bit F.CLK_STATUS_XIN_OK = false ∧ s.bit F.CLK_STATUS_ITO_OK = true ∧ 64 ≤ s.clk.windows)
    ∧ (∃ s : State, ∃ why : XtalTrip, s.InTables ∧ s.boot.supDone = true ∧ s.bit F.CLK_STATUS_ITO_OK = false)
    ∧ (∃ s : State, ∃ why : XtalTrip, s.InTables ∧ s.boot.supDone = true ∧ s.bit F.CLK_STATUS_ITO_OK = true
        ∧ s.bit F.CLK_STATUS_XIN_OK = true)
    ∧ (∃ s : State, s.InTables ∧ s.clk.oscOn = false) :=
  ⟨⟨{ State.reset with boot := { State.reset.boot with supDone := true } }, by decide⟩,
   ⟨dev [(F.CLK_STATUS_ITO_OK, 1)], 0, by decide⟩,
   ⟨{ dev [(F.CLK_STATUS_ITO_OK, 1), (F.CLK_STATUS_XIN_OK, 1), (F.CLK_STATUS_FTC_STATE, 3)] with clk := { badCounts := 1 } }, 0,
       by decide⟩,
   ⟨{ dev [(F.CLK_STATUS_ITO_OK, 1)] with clk := { windows := 64 } }, by decide⟩,
   ⟨{ State.reset with boot := { State.reset.boot with supDone := true } }, .stop, by decide⟩,
   ⟨{ dev [(F.CLK_STATUS_ITO_OK, 1), (F.CLK_STATUS_XIN_OK, 1)] with boot := { State.reset.boot with supDone := true } }, .stop,
       by decide⟩,
   ⟨{ State.reset with clk := { oscOn := false } }, by decide⟩⟩

theorem witness_PllsCoastLockAndReturn :
    (∃ s : State, ∃ p : Pll, s.InTables ∧ s.coasting p = false)
    ∧ (∃ s : State, ∃ p : Pll, s.InTables ∧ s.pllInputOk p = true ∧ 1024 ≤ s.clk.pllHeld.getD (pllIdx p) 0)
    ∧ (∃ s : State, ∃ p : Pll, s.InTables ∧ s.pllInputOk p = true ∧ (∀ q, p = .quad q → s.domWorks (144 + q.val) = true))
    ∧ (∃ s : State, ∃ p : Pll, s.InTables ∧ s.bit F.CLK_STATUS_XIN_OK = true ∧ pllIdx p < 3 ∧ pllIdx p ∉ s.boot.pllDone)
    ∧ (∃ s : State, ∃ x : Fin 2, ∃ why : DdrLoss, s.InTables ∧ why ≠ .coast ∧ s.bit (ddrLostBit x.val) = false)
    ∧ (∃ s : State, ∃ x : Fin 2, s.InTables ∧ s.bit F.CLK_STATUS_DDR_COAST = true) :=
  ⟨⟨State.reset, .quad 3, by decide⟩,
   ⟨{ dev [(F.CLK_STATUS_XIN_OK, 1)] with clk := { pllHeld := [0, 0, 0, 0, 0, 0, 1024] } }, .quad 3, by decide⟩,
   ⟨dev [(F.CLK_STATUS_XIN_OK, 1), (F.PWR_DOM_STATUS_STATE 147, 2)], .quad 3, ⟨by decide, by decide,
       by intro q h; injection h with h; subst h; decide⟩⟩,
   ⟨dev [(F.CLK_STATUS_XIN_OK, 1)], .ddr, by decide⟩,
   ⟨State.reset, 1, .uncorrectable, by decide⟩,
   ⟨dev [(F.CLK_STATUS_DDR_COAST, 1)], 1, by decide⟩⟩

theorem witness_ClockDomainsAndMeters :
    (∃ s : State, ∃ v : Reg, s.InTables ∧ v.getLsbD 8 = true ∧ s.domReject (domOf v) (srcOf v) = false)
    ∧ (∃ s : State, ∃ v : Reg, s.InTables ∧ v.getLsbD 8 = true ∧ s.domReject (domOf v) (srcOf v) = true)
    ∧ (∃ s : State, ∃ d : Fin 11, ∃ p : Nat × Nat, s.InTables ∧ s.clk.switching.find? (·.1 = d.val) = some p ∧ p.2 < 4)
    ∧ (∃ s : State, ∃ d : Fin 11, s.InTables ∧ d.val ∈ s.clk.forced)
    ∧ (∃ s : State, ∃ n : Fin 32, ∃ v : Reg, s.InTables ∧ s.bit (F.CLK_FM_CTRL_VOX_OWNED n.val) = false ∧ v.getLsbD 16 = true)
    ∧ (∃ s : State, ∃ n : Fin 32, ∃ count : Nat, s.InTables ∧ n.val ∈ s.clk.metering) :=
  ⟨⟨State.reset, 0x113, by decide⟩,
   ⟨{ State.reset with clk := { switching := [(3, 0)] } }, 0x113, by decide⟩,
   ⟨{ State.reset with clk := { switching := [(10, 2), (3, 1)], forced := [10, 3], metering := [31, 4] } }, 10, (10, 2),
       by decide⟩,
   ⟨{ State.reset with clk := { switching := [(10, 2), (3, 1)], forced := [10, 3], metering := [31, 4] } }, 10, by decide⟩,
   ⟨State.reset, 31, 0x10007, by decide⟩,
   ⟨{ State.reset with clk := { switching := [(10, 2), (3, 1)], forced := [10, 3], metering := [31, 4] } }, 31, 5, by decide⟩⟩

theorem witness_FeedsAndSupervisors :
    (∃ s : State, ∃ f : Feed, ∃ why : FeedTrip, s.InTables ∧ s.feedOk f = true ∧ s.feedOk (feedOther f) = true
        ∧ s.boot.supDone = true ∧ (s.get F.PWR_STATUS_SUP_ACTIVE ≠ feedSup f ∨ s.bit F.PWR_STATUS_SUP_DUAL = true))
    ∧ (∃ s : State, ∃ f : Feed, ∃ why : FeedTrip, s.InTables ∧ s.feedOk f = true ∧ s.feedOk (feedOther f) = true
        ∧ s.boot.supDone = true ∧ s.get F.PWR_STATUS_SUP_ACTIVE = feedSup f ∧ s.bit F.PWR_STATUS_SUP_DUAL = false)
    ∧ (∃ s : State, ∃ f : Feed, s.InTables ∧ s.feedOk f = false ∧ s.feedOpened f = false)
    ∧ (∃ s : State, s.InTables ∧ s.pwr.supReload = true ∧ s.pwr.supHeld = false
        ∧ (s.superTick = true ∨ s.ftcState = Ftc.disabled))
    ∧ (∃ s : State, ∃ a : Bool, ∃ b : Bool, s.InTables ∧ s.feedOk .a = true ∧ s.feedOk .b = true
        ∧ s.bit F.PWR_STATUS_SUP_DUAL = true) :=
  ⟨⟨{ dev [(F.PWR_STATUS_FEED_A_OK, 1), (F.PWR_STATUS_FEED_B_OK, 1), (F.PWR_STATUS_SUP_DUAL, 1)] with boot := { State.reset.boot with supDone := true } }, .a, .oc, by decide⟩,
   ⟨{ dev [(F.PWR_STATUS_FEED_A_OK, 1), (F.PWR_STATUS_FEED_B_OK, 1)] with boot := { State.reset.boot with supDone := true } },
       .a, .uv, by decide⟩,
   ⟨State.reset, .b, by decide⟩,
   ⟨{ State.reset with pwr := { supReload := true } }, by decide⟩,
   ⟨dev [(F.PWR_STATUS_FEED_A_OK, 1), (F.PWR_STATUS_FEED_B_OK, 1), (F.PWR_STATUS_SUP_DUAL, 1)], true, true, by decide⟩⟩

theorem witness_PowerDomainsSwitch :
    (∃ s : State, ∃ n : Fin 162, ∃ v : Reg, s.InTables ∧ s.TakesWrite (R.PWR_DOM_CTRL n.val) v
        ∧ s.heldOf (R.PWR_DOM_CTRL n.val) = none ∧ v.getLsbD 0 = true ∧ s.domState n.val = Dom.off
        ∧ s.bit (F.PWR_DOM_STATUS_PENNANT_GATED n.val) = false ∧ (n.val < 96 → s.engRetired n.val = false)
        ∧ (96 ≤ n.val → n.val < 112 → bitOf (s.get F.SUP_FAULT_STATUS_TILE_LOST) (n.val % 8) = false))
    ∧ (∃ s : State, ∃ n : Fin 162, ∃ v : Reg, s.InTables ∧ s.TakesWrite (R.PWR_DOM_CTRL n.val) v
        ∧ s.heldOf (R.PWR_DOM_CTRL n.val) = none ∧ v.getLsbD 0 = false ∧ s.domState n.val = Dom.on)
    ∧ (∃ s : State, ∃ n : Fin 162, s.InTables ∧ s.domState n.val = Dom.powering)
    ∧ (∃ s : State, ∃ n : Fin 162, s.InTables ∧ n.val ∈ s.boot.powerMap ∧ s.domState n.val = Dom.powering)
    ∧ (∃ s : State, ∃ v : Reg, s.InTables ∧ s.TakesWrite R.PWR_KEEPER_SET v) :=
  ⟨⟨State.reset, 161, 1, by decide⟩,
   ⟨dev [(F.PWR_DOM_STATUS_STATE 161, 2)], 161, 0, by decide⟩,
   ⟨dev [(F.PWR_DOM_STATUS_STATE 161, 1)], 161, by decide⟩,
   ⟨{ dev [(F.PWR_DOM_STATUS_STATE 161, 1)] with boot := { State.reset.boot with powerMap := [161] } }, 161, by decide⟩,
   ⟨State.reset, 1, by decide⟩⟩

theorem witness_RetirementAndCalibration :
    (∃ s : State, ∃ v : Reg, s.InTables ∧ s.HostActs ∧ v.getLsbD 8 = true)
    ∧ (∃ s : State, ∃ e : Nat, ∃ a : Nat, ∃ moves : List (Hoist × Nat), s.InTables ∧ e < 96 ∧ s.pwr.retire = some (e, a)
        ∧ s.superTick = true ∧ a + 2 ≤ s.tick ∧ ¬ (e % 12 = 0 ∧ bitOf s.pwr.keepers (e / 12) = true)
        ∧ ({ s with pwr := { s.pwr with retire := none } } : State).retirePlan s.hoists ((s.hoists.filter (·.num / 16 = e)).foldr insertByNum []) = some moves)
    ∧ (∃ s : State, ∃ e : Nat, ∃ a : Nat, s.InTables ∧ s.pwr.retire = some (e, a) ∧ s.superTick = true ∧ a + 2 ≤ s.tick
        ∧ e % 12 = 0 ∧ bitOf s.pwr.keepers (e / 12) = true)
    ∧ (∃ s : State, ∃ v : Reg, s.InTables ∧ v.getLsbD 16 = false)
    ∧ (∃ s : State, ∃ v : Reg, s.InTables ∧ v.getLsbD 16 = true ∧ s.pwr.keyArmed = true ∧ s.get F.CAL_WRITES < 1000
        ∧ s.bit F.CAL_STATUS_BUSY = false ∧ pageCrcGood s.calStaged = true)
    ∧ (∃ s : State, ∃ v : Reg, s.InTables ∧ v.getLsbD 16 = true
        ∧ (s.pwr.keyArmed = false ∨ 1000 ≤ s.get F.CAL_WRITES ∨ s.bit F.CAL_STATUS_BUSY = true ∨ pageCrcGood s.calStaged = false))
    ∧ (∃ s : State, ∃ ok : Bool, s.InTables ∧ s.bit F.CAL_STATUS_BUSY = true) :=
  ⟨⟨State.reset, 0x101, by decide⟩,
   ⟨{ dev [(F.CLK_STATUS_FTC_STATE, 1)] with pwr := { retire := some (95, 14) }, clk := { tick := 16 } }, 95, 14, [], by decide⟩,
   ⟨{ dev [(F.CLK_STATUS_FTC_STATE, 1)] with pwr := { retire := some (84, 14), keepers := 0x80 }, clk := { tick := 16 } }, 84,
       14, by decide⟩,
   ⟨State.reset, 0x5AFE, by decide⟩,
   page_witness,
   ⟨State.reset, 0x10000, by decide⟩,
   ⟨dev [(F.CAL_STATUS_BUSY, 1)], true, by decide⟩⟩

theorem witness_PennantModeEntersAndLeaves :
    (∃ s : State, s.InTables ∧ 4 ≤ s.pwr.shortRuns)
    ∧ (∃ s : State, s.InTables ∧ 64 ≤ s.pwr.notShort)
    ∧ (∃ s : State, ∃ v : Reg, s.InTables ∧ s.HostActs ∧ v.getLsbD 0 = true)
    ∧ (∃ s : State, ∃ v : Reg, s.InTables ∧ s.HostActs ∧ v.getLsbD 0 = false ∧ v.getLsbD 1 = true
        ∧ (s.bit F.PWR_STATUS_PENNANT || s.bit F.PWR_STATUS_PENNANT_PENDING) = true ∧ s.pwr.exitAccepted = false)
    ∧ (∃ s : State, ∃ p : Spell, s.InTables ∧ s.spell = some p ∧ s.bit F.PWR_STATUS_PENNANT = false ∧ p.entry ≤ s.tick)
    ∧ (∃ s : State, ∃ p : Spell, s.InTables ∧ s.spell = some p ∧ s.bit F.PWR_STATUS_PENNANT = true
        ∧ s.bit F.PWR_STATUS_PENNANT_PENDING = true ∧ s.superTick = true ∧ p.entry ≤ s.tick ∧ s.pwr.exitAccepted = false)
    ∧ (∃ s : State, ∃ p : Spell, s.InTables ∧ s.spell = some p ∧ s.pwr.exitAccepted = true ∧ s.superTick = true
        ∧ p.entry ≤ s.tick ∧ (∀ n < 162, s.bit (F.PWR_DOM_STATUS_PENNANT_GATED n) = false)) :=
  ⟨⟨{ State.reset with pwr := { shortRuns := 4 } }, by decide⟩,
   ⟨{ State.reset with pwr := { notShort := 64 } }, by decide⟩,
   ⟨State.reset, 1, by decide⟩,
   ⟨{ dev [(F.PWR_STATUS_PENNANT, 1)] with pwr := { spells := [{ entry := 4 }] } }, 2, by decide⟩,
   ⟨{ dev [(F.PWR_STATUS_PENNANT_PENDING, 1)] with pwr := { spells := [{ entry := 4 }] }, clk := { tick := 4 } },
       { entry := 4 }, by decide⟩,
   ⟨{ dev [(F.PWR_STATUS_PENNANT, 1), (F.PWR_STATUS_PENNANT_PENDING, 1), (F.CLK_STATUS_FTC_STATE, 1)] with pwr := { spells := [{ entry := 4 }] }, clk := { tick := 16 } }, { entry := 4 }, by decide⟩,
   ⟨{ dev [(F.PWR_STATUS_PENNANT, 1), (F.CLK_STATUS_FTC_STATE, 1)] with pwr := { spells := [{ entry := 4 }], exitAccepted := true }, clk := { tick := 16 } }, { entry := 4 }, by decide⟩⟩

theorem witness_ResetsClearTheDevice :
    (∃ s : State, ∃ st : Straps, s.InTables ∧ s.boot.held = true)
    ∧ (∃ s : State, ∃ st : Straps, s.InTables ∧ s.boot.supDone = false ∧ (s.feedOk .a || s.feedOk .b) = true
        ∧ s.boot.held = false) :=
  ⟨⟨{ State.reset with boot := { State.reset.boot with held := true } }, ⟨0, 0, false⟩, by decide⟩,
   ⟨dev [(F.PWR_STATUS_FEED_A_OK, 1)], ⟨0, 0, false⟩, by decide⟩⟩

theorem witness_StartUpRunsItsSteps :
    (∃ s : State, s.InTables ∧ s.stepHolds 5 = true ∧ s.boot.supDone = true ∧ s.boot.calDone = false)
    ∧ (∃ s : State, ∃ b : BootImage, s.InTables ∧ s.boot.calDone = true ∧ s.boot.image = false
        ∧ s.get F.SUP_BOOT_STATUS_BOOT_MODE ≠ 1 ∧ s.boot.failed = [] ∧ s.bootJudge Sp.norA 0 0x1000000 = (0, b))
    ∧ (∃ s : State, s.InTables ∧ s.boot.calDone = true ∧ s.boot.image = false ∧ s.get F.SUP_BOOT_STATUS_BOOT_MODE ≠ 1
        ∧ s.boot.failed = [])
    ∧ (∃ s : State, s.InTables ∧ s.boot.calDone = true ∧ s.boot.image = false ∧ s.get F.SUP_BOOT_STATUS_BOOT_MODE ≠ 1
        ∧ s.boot.failed = [.norA])
    ∧ (∃ s : State, ∃ x : Fin 2, ∃ ok : Bool, s.InTables ∧ x.val ∈ s.boot.ddrUse)
    ∧ (∃ s : State, s.InTables ∧ s.boot.image = true ∧ s.boot.powerMap = [] ∧ s.boot.ran = false ∧ s.boot.running = false
        ∧ ({ s with boot := { s.boot with entry := 0 } } : State).scriptAtEnd = true)
    ∧ (∃ s : State, ∃ n : Nat, s.InTables ∧ s.boot.image = true ∧ s.boot.powerMap = [] ∧ s.boot.ran = false
        ∧ s.boot.running = false ∧ 16 ≤ s.boot.script.length ∧ s.boot.script.take 8 = [4, 0, 0, 0] ++ leBytes 4 n ∧ 0 < n
        ∧ n < 2 ^ 32 ∧ s.ftcState ≠ Ftc.disabled)
    ∧ (∃ s : State, ∃ code : Nat, s.InTables ∧ s.boot.running = true ∧ s.boot.cmd = true ∧ s.boot.result = some code ∧ code ≠ 0)
    ∧ (∃ s : State, s.InTables ∧ s.boot.running = true ∧ s.boot.cmd = true ∧ s.boot.result = some 0 ∧ s.scriptAtEnd = true)
    ∧ (∃ s : State, s.InTables ∧ s.boot.running = true ∧ s.boot.wait = some 0 ∧ s.scriptAtEnd = true) :=
  ⟨⟨{ dev [(F.CLK_STATUS_CORE_LOCK, 1), (F.CLK_STATUS_FAB_LOCK, 1), (F.CLK_STATUS_DDR_LOCK, 1)] with boot := { State.reset.boot with supDone := true, pllDone := [0, 1, 2] } }, by decide⟩,
   ⟨{ State.reset with mem := (State.reset.wr Sp.norA 0 bootBytes).mem, boot := { State.reset.boot with calDone := true, keySlot1 := some (sha384 pointKey) } }, bootDesc, ⟨by decide, rfl, rfl, by decide, rfl, boot_judge _ _ _ rfl (.inl rfl) rfl⟩⟩,
   ⟨{ State.reset with boot := { State.reset.boot with calDone := true } }, by decide⟩,
   ⟨{ State.reset with boot := { State.reset.boot with calDone := true, failed := [.norA] } }, by decide⟩,
   ⟨{ State.reset with boot := { State.reset.boot with ddrUse := [0, 1] } }, 1, false, by decide⟩,
   ⟨{ State.reset with boot := { State.reset.boot with image := true } }, by decide⟩,
   ⟨{ dev [(F.CLK_STATUS_FTC_STATE, 1)] with boot := { State.reset.boot with image := true, script := leBytes 4 4 ++ leBytes 12 5 } }, 5, by decide⟩,
   ⟨{ State.reset with boot := { State.reset.boot with running := true, cmd := true, result := some 2 } }, 2, by decide⟩,
   ⟨{ State.reset with boot := { State.reset.boot with running := true, cmd := true, result := some 0 } }, by decide⟩,
   ⟨{ State.reset with boot := { State.reset.boot with running := true, wait := some 0 } }, by decide⟩⟩

theorem witness_FailuresStayContained :
    (∃ s : State, ∃ n : Fin 8, s.InTables ∧ (s.domWorks (96 + n.val) || s.domWorks (104 + n.val)) = true)
    ∧ (∃ s : State, s.InTables ∧ s.linkUp = true)
    ∧ (∃ s : State, s.InTables ∧ s.bit F.CLK_STATUS_ITO_OK = true ∧ s.domWorks 150 = true)
    ∧ (∃ s : State, ∃ v : Reg, s.InTables ∧ v.getLsbD 0 = true ∧ s.linkUp = true
        ∧ (s.frozen = true → s.cfg F.CHT_CFG_WHERE = 2)) :=
  ⟨⟨dev [(F.PWR_DOM_STATUS_STATE 103, 2)], 7, by decide⟩,
   ⟨dev [(F.SUP_FAULT_STATUS_HOST_LINK_DOWN, 0)], by decide⟩,
   ⟨dev [(F.CLK_STATUS_ITO_OK, 1), (F.PWR_DOM_STATUS_STATE 150, 2)], by decide⟩,
   ⟨dev [(F.SUP_FAULT_STATUS_HOST_LINK_DOWN, 0), (F.CHT_CFG_WHERE, 2), (F.SUP_FAULT_STATUS_CHT_FROZEN, 1)], 1, by decide⟩⟩

theorem witness_AliasesStoreSetClearToggle :
    (∃ s : State, ∃ n : Fin 16, ∃ i : Fin 12, ∃ v : Reg, s.InTables ∧ s.slotState n.val = 0)
    ∧ (∃ s : State, ∃ n : Fin 16, ∃ i : Fin 12, ∃ v : Reg, s.InTables ∧ s.slotState n.val ≠ 0)
    ∧ (∃ s : State, ∃ off : BitVec 26, ∃ bs : List (Option Byte), s.InTables ∧ s.sramKind off.toNat bs.length true = none)
    ∧ (∃ s : State, ∃ off : BitVec 26, ∃ bs : List (Option Byte), ∃ k : Nat, s.InTables
        ∧ s.sramKind off.toNat bs.length true = some k) :=
  ⟨⟨State.reset, 15, 11, 0xFFFF0000, by decide⟩,
   ⟨dev [(F.SUP_MBOX_STATUS, 2 ^ 30)], 15, 11, 1, by decide⟩,
   ⟨dev [(F.PWR_DOM_STATUS_STATE 127, 2)], 0x3BFFFFF, [some 1], by decide⟩,
   ⟨State.reset, 0, [some 1, none], 7, by decide⟩⟩

theorem witness_RefusedWritesLeaveRegisters :
    (∃ s : State, ∃ addr : Nat, ∃ v : Reg, journaled (s.keyOf addr) = true ∧ s.pairSpeaks = false ∧ blockOf (s.keyOf addr) ≠ 3
        ∧ blockOf (s.keyOf addr) ≠ 4 ∧ blockOf (s.keyOf addr) ≠ 5) :=
  ⟨dev [(F.PRT_PAIR_STATUS_STATE, 6)], R.TILE_CTRL 7, 1, by decide⟩

theorem witness_CommitsParityAndBus :
    (∃ s : State, ∃ b : CommitBlock, ∃ v : Reg, s.InTables ∧ (b ≠ .hal → s.HostActs) ∧ v.getLsbD 0 = true
        ∧ s.ftcState ≠ Ftc.disabled)
    ∧ (∃ s : State, ∃ b : CommitBlock, ∃ v : Reg, s.InTables ∧ (b ≠ .hal → s.HostActs) ∧ v.getLsbD 0 = true
        ∧ s.ftcState = Ftc.disabled)
    ∧ (∃ s : State, ∃ k : Nat, s.InTables ∧ s.regs.bad = [(k, false)] ∧ s.blockPowered (blockOf k) = true ∧ s.regs.reported = [])
    ∧ (∃ s : State, ∃ v : Reg, s.InTables ∧ v.getLsbD 0 = true ∧ (∀ h ∈ s.regs.held, h.blk ∉ [2, 3, 18] ∧ ∀ k,
        blockOf k = h.blk ∨ k ∈ h.vals.map (·.1) → (Sparse.get (BitVec.ofNat 32 (resetWord k)) h.vals k).toNat = s.word k
        ∧ blockOf k = h.blk))
    ∧ (∃ s : State, ∃ m : Fin 13, s.InTables ∧ s.bit (F.BUS_MSTR_STATUS_HELD m.val) = true)
    ∧ (∃ s : State, ∃ m : Fin 13, s.InTables ∧ s.bit (F.BUS_MSTR_STATUS_DRAINING m.val) = true) :=
  ⟨⟨dev [(F.CLK_STATUS_FTC_STATE, 1)], .tile 7, 1, by decide⟩,
   ⟨State.reset, .hal, 1, by decide⟩,
   ⟨{ State.reset with regs := { State.reset.regs with bad := [(0x00200018, false)] } }, 0x00200018, by decide⟩,
   ⟨State.reset, 1, ⟨by decide, by decide, by intro h hh; cases hh⟩⟩,
   ⟨dev [(F.BUS_MSTR_STATUS_HELD 12, 1)], 12, by decide⟩,
   ⟨dev [(F.BUS_MSTR_STATUS_DRAINING 12, 1)], 12, by decide⟩⟩

theorem witness_MailboxSlotsAndPlainCommands :
    (∃ s : State, ∃ n : Fin 16, ∃ v : Reg, s.InTables ∧ v.getLsbD 0 = true ∧ v.getLsbD 1 = false ∧ s.slotState n.val = 0
        ∧ (s.noteMessage .host).quarantined .host = false ∧ (s.noteMessage .host).overRate .host = false)
    ∧ (∃ s : State, ∃ n : Fin 16, ∃ v : Reg, s.InTables ∧ v.getLsbD 0 = true ∧ s.slotState n.val ≠ 0
        ∧ (v.getLsbD 1 = false ∨ s.slotState n.val = 1))
    ∧ (∃ s : State, ∃ n : Fin 16, ∃ v : Reg, s.InTables ∧ v.getLsbD 1 = true ∧ v.getLsbD 0 = false ∧ s.slotState n.val = 2)
    ∧ (∃ s : State, ∃ n : Fin 16, ∃ c : Cmd, s.InTables ∧ s.MayRun 0x00 0 c ∧ c.src = .slot n.val)
    ∧ (∃ s : State, ∃ n : Fin 16, ∃ c : Cmd, s.InTables ∧ s.MayRun 0x01 0 c ∧ c.src = .slot n.val)
    ∧ (∃ s : State, ∃ n : Fin 16, ∃ c : Cmd, s.InTables ∧ s.mbox.busy = none ∧ s.mbox.queue.head? = some c
        ∧ cmdNeed c.op = none ∧ c.src = .slot n.val)
    ∧ (∃ s : State, ∃ n : Fin 16, ∃ c : Cmd, ∃ i : Image, s.InTables ∧ s.MayRun 0x12 2 c ∧ c.src = .slot n.val
        ∧ (s.images.find? fun i => i.tile = c.arg 0 ∧ i.id = c.arg 1) = some i)
    ∧ (∃ s : State, ∃ n : Fin 16, ∃ c : Cmd, s.InTables ∧ s.MayRun 0x27 0 c ∧ c.src = .slot n.val ∧ s.frozen = false) :=
  ⟨⟨State.reset, 15, 1, by decide⟩,
   ⟨dev [(F.SUP_MBOX_STATUS, 2 ^ 30)], 15, 1, by decide⟩,
   ⟨dev [(F.SUP_MBOX_STATUS, 2 ^ 31)], 15, 2, by decide⟩,
   ⟨asked State.reset (ask 0 []), 15, ask 0 [], by decide⟩,
   ⟨asked State.reset (ask 1 []), 15, ask 1 [], by decide⟩,
   ⟨asked State.reset (ask 0x17 []), 15, ask 0x17 [], by decide⟩,
   ⟨asked serving (ask 0x12 [1, 7]), 15, ask 0x12 [1, 7], image7 1, by decide⟩,
   ⟨asked serving (ask 0x27 []), 15, ask 0x27 [], by decide⟩⟩

theorem witness_BadCommandsCloseUpAtOnce :
    (∃ row : Instr × Nat × Nat, ∃ s : State, ∃ n : Fin 16, ∃ c : Cmd, s.InTables ∧ row ∈ [((.imageLoad : Instr), 0x10, 4),
        (.imageUnload, 0x11, 2), (.imageQuery, 0x12, 2), (.hoistReimage, 0x13, 3), (.hoistLoad, 0x20, 1), (.hoistUnload, 0x21,
        1), (.chanCommit, 0x22, 4), (.pennantClear, 0x23, 2), (.twinSet, 0x24, 2), (.twinClear, 0x25, 1), (.hoistMove, 0x26, 3),
        (.ctxFlush, 0x27, 0)] ∧ s.mbox.busy = none ∧ s.mbox.queue.head? = some c ∧ c.op = row.2.1 ∧ c.src = .slot n.val
        ∧ (12 < c.argWords ∨ c.argWords < row.2.2))
    ∧ (∃ row : Instr × Nat × Nat, ∃ s : State, ∃ n : Fin 16, ∃ c : Cmd, s.InTables ∧ row ∈ [((.imageLoad : Instr), 0x10, 4),
        (.imageUnload, 0x11, 2), (.imageQuery, 0x12, 2), (.hoistReimage, 0x13, 3), (.hoistLoad, 0x20, 1), (.hoistUnload, 0x21,
        1), (.chanCommit, 0x22, 4), (.pennantClear, 0x23, 2), (.twinSet, 0x24, 2), (.twinClear, 0x25, 1), (.hoistMove, 0x26, 3),
        (.ctxFlush, 0x27, 0)] ∧ s.mbox.busy = none ∧ s.mbox.queue.head? = some c ∧ c.op = row.2.1 ∧ c.src = .slot n.val
        ∧ row.2.2 ≤ c.argWords ∧ c.argWords ≤ 12 ∧ s.popped.cmdBarred c = true) :=
  ⟨⟨(.imageLoad, 0x10, 4), asked State.reset { ask 0x10 [] with argWords := 3 }, 15, { ask 0x10 [] with argWords := 3 },
      by decide⟩,
   ⟨(.ctxFlush, 0x27, 0), { asked State.reset (ask 0x27 []) with boot := State.reset.boot }, 15, ask 0x27 [], by decide⟩⟩

theorem witness_ImagesLoadAndUnload :
    (∃ s : State, ∃ n : Fin 16, ∃ c : Cmd, ∃ i : Image, s.InTables ∧ s.MayRun 0x10 4 c ∧ c.src = .slot n.val
        ∧ s.popped.imageLoadCheck c = (Rc.ok, []) ∧ s.imageHeader (c.arg 0) 0 0 (c.arg 2) (c.arg 3) = some i
        ∧ s.imageSigned (c.arg 0) (0x80 + 4 * i.codeWords + 8 * i.constWords) = true)
    ∧ (∃ s : State, ∃ n : Fin 16, ∃ c : Cmd, ∃ i : Image, s.InTables ∧ s.MayRun 0x10 4 c ∧ c.src = .slot n.val
        ∧ s.popped.imageLoadCheck c = (Rc.ok, []) ∧ s.imageHeader (c.arg 0) 0 0 (c.arg 2) (c.arg 3) = some i
        ∧ s.imageSigned (c.arg 0) (0x80 + 4 * i.codeWords + 8 * i.constWords) = false)
    ∧ (∃ s : State, ∃ n : Fin 16, ∃ c : Cmd, s.InTables ∧ s.MayRun 0x11 2 c ∧ c.src = .slot n.val
        ∧ s.popped.imageUnloadCheck c = (Rc.ok, []))
    ∧ (∃ s : State, ∃ n : Fin 16, ∃ c : Cmd, s.InTables ∧ s.MayRun 0x13 3 c ∧ c.src = .slot n.val
        ∧ s.popped.reimageCheck c = (Rc.ok, [])) :=
  ⟨⟨asked imageStaged (ask 0x10 imageArgs), 15, ask 0x10 imageArgs, image9, ⟨by decide, by decide, rfl, image_check _ rfl rfl,
      image_header _ rfl, image_signed _ rfl rfl⟩⟩,
   ⟨{ asked imageStaged (ask 0x10 imageArgs) with boot := { (asked imageStaged (ask 0x10 imageArgs)).boot with imageKey := [] } }, 15, ask 0x10 imageArgs, image9, ⟨by decide, by decide, rfl, image_check _ rfl rfl, image_header _ rfl, image_unsigned _ rfl⟩⟩,
   ⟨asked serving (ask 0x11 [7, 2]), 15, ask 0x11 [7, 2], by decide⟩,
   ⟨asked { serving with hoists := [hoist5] } (ask 0x13 [5, 7, 98]), 15, ask 0x13 [5, 7, 98], by decide⟩⟩

theorem witness_HoistsLoadMoveAndLeave :
    (∃ s : State, ∃ n : Fin 16, ∃ c : Cmd, s.InTables ∧ s.MayRun 0x20 1 c ∧ c.src = .slot n.val
        ∧ s.popped.hoistLoadCheck c = (Rc.ok, []))
    ∧ (∃ s : State, ∃ n : Fin 16, ∃ c : Cmd, s.InTables ∧ s.MayRun 0x21 1 c ∧ c.src = .slot n.val
        ∧ s.popped.hoistUnloadCheck c = (Rc.ok, []))
    ∧ (∃ s : State, ∃ n : Fin 16, ∃ c : Cmd, ∃ h : Hoist, ∃ k : Nat, ∃ p : Option Nat, s.InTables ∧ s.MayRun 0x26 3 c
        ∧ c.src = .slot n.val ∧ s.popped.hoistMoveCheck c = (Rc.ok, []) ∧ s.moveArgs c = some (h, k, p)) :=
  ⟨⟨asked { serving with mem := cells Sp.sram 0 descriptor5 } (ask 0x20 [0]), 15, ask 0x20 [0], by decide⟩,
   ⟨asked { serving with hoists := [hoist5] } (ask 0x21 [5]), 15, ask 0x21 [5], by decide⟩,
   ⟨asked { serving with hoists := [hoist5] } (ask 0x26 [5, 0xF01, 0xFFFF]), 15, ask 0x26 [5, 0xF01, 0xFFFF], hoist5, 31, none,
       by decide⟩⟩

theorem witness_ChannelsCommitAndTwin :
    (∃ s : State, ∃ n : Fin 16, ∃ c : Cmd, ∃ e : CtxEntry, s.InTables ∧ s.MayRun 0x22 4 c ∧ c.src = .slot n.val
        ∧ s.ftcState = Ftc.disabled ∧ s.popped.chanCommitCheck c = (Rc.ok, []) ∧ s.ctxOf (c.arg 0) = some e ∧ e.words.length = 32)
    ∧ (∃ s : State, ∃ n : Fin 16, ∃ c : Cmd, s.InTables ∧ s.MayRun 0x22 4 c ∧ c.src = .slot n.val ∧ s.ftcState ≠ Ftc.disabled
        ∧ s.popped.chanCommitCheck c = (Rc.ok, []))
    ∧ (∃ s : State, ∃ n : Fin 16, ∃ c : Cmd, ∃ e : CtxEntry, s.InTables ∧ s.MayRun 0x23 2 c ∧ c.src = .slot n.val
        ∧ s.ftcState = Ftc.disabled ∧ s.popped.pennantClearCheck c = (Rc.ok, []) ∧ s.ctxOf (c.arg 0) = some e
        ∧ e.words.length = 32)
    ∧ (∃ s : State, ∃ n : Fin 16, ∃ c : Cmd, s.InTables ∧ s.MayRun 0x24 2 c ∧ c.src = .slot n.val
        ∧ s.popped.twinSetCheck c = (Rc.ok, []))
    ∧ (∃ s : State, ∃ n : Fin 16, ∃ c : Cmd, s.InTables ∧ s.MayRun 0x25 1 c ∧ c.src = .slot n.val
        ∧ s.popped.twinClearCheck c = (Rc.ok, [])) :=
  ⟨⟨asked serving (ask 0x22 [4, 0x3BFFF00, 0x2, 0]), 15, ask 0x22 [4, 0x3BFFF00, 0x2, 0], entry 4 words5, by decide⟩,
   ⟨asked (having serving [(F.CLK_STATUS_FTC_STATE, 1)]) (ask 0x22 [4, 0, 0x2, 0]), 15, ask 0x22 [4, 0, 0x2, 0], by decide⟩,
   ⟨asked serving (ask 0x23 [4, 3]), 15, ask 0x23 [4, 3], entry 4 words5, by decide⟩,
   ⟨asked twins (ask 0x24 [3, 4]), 15, ask 0x24 [3, 4], by decide⟩,
   ⟨asked { serving with ctx := [entry 3 (words5 ++ [0, 4 * 2 ^ 24 + 2 ^ 38 + 2 ^ 39])] } (ask 0x25 [3]), 15, ask 0x25 [3],
       by decide⟩⟩

theorem witness_BootCommandsAndTables :
    (∃ s : State, ∃ n : Fin 16, ∃ c : Cmd, ∃ b : BootImage, s.InTables ∧ s.MayRun 0x18 2 c ∧ c.src = .slot n.val
        ∧ s.get F.SUP_BOOT_STATUS_STEP = 14 ∧ c.arg 0 + c.arg 1 ≤ 0x780000 ∧ s.bootJudge Sp.sram (c.arg 0) (c.arg 1) = (0, b))
    ∧ (∃ s : State, ∃ n : Fin 16, ∃ c : Cmd, ∃ b : BootImage, s.InTables ∧ s.MayRun 0x1C 2 c ∧ c.src = .slot n.val
        ∧ s.inService = true ∧ s.boot.keySlot1 = none ∧ c.arg 1 = 0x5AFE0001 ∧ s.bootHeader Sp.sram (c.arg 0) 0x1000000 = (0,
        b) ∧ c.arg 0 + b.signed + 96 ≤ 0x3C00000 ∧ s.bootSigned Sp.sram (c.arg 0) b = true)
    ∧ (∃ s : State, ∃ n : Fin 16, ∃ c : Cmd, s.InTables ∧ s.MayRun 0x19 3 c ∧ c.src = .slot n.val ∧ s.inService = true
        ∧ s.tilesOff = true ∧ s.tableUp = true ∧ 0 < c.arg 2 ∧ c.arg 1 + c.arg 2 ≤ 16384 ∧ c.arg 0 + 256 * c.arg 2 ≤ 0x3C00000
        ∧ (∀ k < c.arg 2, ∀ x ∈ s.rdBytes Sp.sram (c.arg 0 + 256 * k + 40) 24, x = 0))
    ∧ (∃ s : State, ∃ n : Fin 16, ∃ c : Cmd, s.InTables ∧ s.MayRun 0x1A 0 c ∧ c.src = .slot n.val ∧ s.inService = true
        ∧ s.tilesOff = true ∧ s.tableUp = true)
    ∧ (∃ s : State, ∃ n : Fin 16, ∃ c : Cmd, s.InTables ∧ s.MayRun 0x1B 1 c ∧ c.src = .slot n.val ∧ c.arg 0 = 0x5AFE0002) :=
  ⟨⟨{ asked (having { State.reset with mem := (State.reset.wr Sp.sram 0 bootBytes).mem } [(F.SUP_BOOT_STATUS_STEP, 14)]) (ask 0x18 [0, 0x1E0]) with boot := { State.reset.boot with calDone := true, keySlot1 := some (sha384 pointKey) } }, 15, ask 0x18 [0, 0x1E0], bootDesc, ⟨by decide, by decide, rfl, by decide, by decide, boot_judge _ _ _ rfl (.inr rfl) rfl⟩⟩,
   ⟨asked { State.reset with mem := (State.reset.wr Sp.sram 0 bootBytes).mem } (ask 0x1C [0, 0x5AFE0001]), 15, ask 0x1C [0,
       0x5AFE0001], bootDesc, ⟨by decide, by decide, rfl, by decide, rfl, rfl, boot_header _ _ _ rfl (.inl rfl), by decide,
       boot_signed _ _ rfl⟩⟩,
   ⟨asked (dev [(F.PWR_DOM_STATUS_STATE 148, 2)]) (ask 0x19 [0, 16383, 1]), 15, ask 0x19 [0, 16383, 1], by decide⟩,
   ⟨asked (dev [(F.PWR_DOM_STATUS_STATE 148, 2)]) (ask 0x1A []), 15, ask 0x1A [], by decide⟩,
   ⟨asked (dev [(F.CLK_STATUS_FTC_STATE, 1)]) (ask 0x1B [0x5AFE0002]), 15, ask 0x1B [0x5AFE0002], by decide⟩⟩

theorem witness_ThreadRegistersReadBack :
    (∃ h : Hoist, ∃ i : Nat, ∃ j : Nat, ∃ v : Nat, ∃ b : Bool, h.t.length = 16 ∧ h.p.length = 8 ∧ i < 16 ∧ j < 16)
    ∧ (∃ h : Hoist, ∃ i : Nat, ∃ j : Nat, ∃ v : Nat, ∃ b : Bool, h.t.length = 16 ∧ h.p.length = 8 ∧ i < 16 ∧ j < 16 ∧ i < 8
        ∧ j < 8) :=
  ⟨⟨hoist5, 15, 0, 2 ^ 64, false, by decide⟩,
   ⟨hoist5, 7, 0, 2 ^ 64, false, by decide⟩⟩

theorem witness_UnexecutedInstructionsChangeNothing :
    (∃ row ∈ afiRows, ∃ s : State, ∃ k : Fin 1536, ∃ a : AfiWord, ∃ h : Hoist, s.InTables ∧ s.Fetches k.val a h
        ∧ h.pr (fPred (AfiBits a)) = fNeg (AfiBits a))
    ∧ (∃ row ∈ afiRows, ∃ s : State, ∃ k : Fin 1536, ∃ a : AfiWord, s.InTables ∧ s.issuing k.val = none) :=
  ⟨⟨Instr.add, by simp [afiRows], working worker, 5, code1 0x2048c00, worker, by decide⟩,
   ⟨Instr.add, by simp [afiRows], State.reset, 5, code1 0x0, by decide⟩⟩

theorem witness_AluWritesItsResult :
    (∃ row ∈ aluTable, ∃ s : State, ∃ k : Fin 1536, ∃ a : AfiWord, ∃ h : Hoist, s.InTables ∧ s.Issues k.val a h
        ∧ fOp (AfiBits a) = 0 ∧ fFn (AfiBits a) = row.fn ∧ fLow (AfiBits a) = 0)
    ∧ (∃ row ∈ aluTable, ∃ s : State, ∃ k : Fin 1536, ∃ a : AfiWord, ∃ h : Hoist, ∃ op : Nat, s.InTables ∧ s.Issues k.val a h
        ∧ row.opI = some op ∧ fOp (AfiBits a) = op)
    ∧ (∃ row ∈ aluTable, ∃ s : State, ∃ k : Fin 1536, ∃ a : AfiWord, ∃ h : Hoist, s.InTables ∧ s.Issues k.val a h
        ∧ h.at_ < 1536 ∧ fOp (AfiBits a) = 0 ∧ fFn (AfiBits a) = row.fn ∧ fLow (AfiBits a) ≠ 0
        ∧ s.bit (F.TILE_FAULT_PENDING h.tile (h.at_ % 192)) = false) :=
  ⟨⟨(⟨.add, 0, some 1, true, fun a b => a + b⟩ : AluRow), by simp [aluTable], working worker, 5, code1 0x2c9000, worker,
      by decide⟩,
   ⟨(⟨.add, 0, some 1, true, fun a b => a + b⟩ : AluRow), by simp [aluTable], working worker, 5, code1 0x42cbfff, worker, 1,
       by decide⟩,
   ⟨(⟨.add, 0, some 1, true, fun a b => a + b⟩ : AluRow), by simp [aluTable], working worker, 5, code1 0x2c9001, worker,
       by decide⟩⟩

theorem witness_BitFieldsExtractInsertRotateCount :
    (∃ s : State, ∃ k : Fin 1536, ∃ a : AfiWord, ∃ h : Hoist, ∃ pos : Nat, ∃ wd : Nat, s.InTables ∧ s.Issues k.val a h
        ∧ (fOp (AfiBits a) = 8 ∧ immFits a 12 = true ∧ pos = bitsOf (fImm (AfiBits a)) 0 6
        ∧ wd = bitsOf (fImm (AfiBits a)) 6 6 + 1 ∨ fOp (AfiBits a) = 0x0B ∧ fFn (AfiBits a) = 0 ∧ fLow (AfiBits a) = 0 ∧ 1 ≤ wd
        ∧ pos < 64 ∧ h.reg (fRb (AfiBits a)) = pos + (wd - 1) * 2 ^ 8) ∧ pos + wd ≤ 64)
    ∧ (∃ s : State, ∃ k : Fin 1536, ∃ a : AfiWord, ∃ h : Hoist, ∃ pos : Nat, ∃ wd : Nat, s.InTables ∧ s.Issues k.val a h
        ∧ (fOp (AfiBits a) = 9 ∧ immFits a 12 = true ∧ pos = bitsOf (fImm (AfiBits a)) 0 6
        ∧ wd = bitsOf (fImm (AfiBits a)) 6 6 + 1 ∨ fOp (AfiBits a) = 0x0B ∧ fFn (AfiBits a) = 1 ∧ fLow (AfiBits a) = 0 ∧ 1 ≤ wd
        ∧ pos < 64 ∧ h.reg (fRb (AfiBits a)) = pos + (wd - 1) * 2 ^ 8) ∧ pos + wd ≤ 64)
    ∧ (∃ s : State, ∃ k : Fin 1536, ∃ a : AfiWord, ∃ h : Hoist, ∃ n : Nat, s.InTables ∧ s.Issues k.val a h ∧ n < 64
        ∧ (fOp (AfiBits a) = 0x0A ∧ immFits a 6 = true ∧ n = fImm (AfiBits a) ∨ fOp (AfiBits a) = 0x0B ∧ fFn (AfiBits a) = 2
        ∧ fLow (AfiBits a) = 0 ∧ h.reg (fRb (AfiBits a)) = n))
    ∧ (∃ s : State, ∃ k : Fin 1536, ∃ a : AfiWord, ∃ h : Hoist, s.InTables ∧ s.Issues k.val a h ∧ fOp (AfiBits a) = 0x0B
        ∧ fFn (AfiBits a) = 3 ∧ fLow (AfiBits a) = 0 ∧ fRb (AfiBits a) = 0)
    ∧ (∃ s : State, ∃ k : Fin 1536, ∃ a : AfiWord, ∃ h : Hoist, s.InTables ∧ s.Issues k.val a h ∧ fOp (AfiBits a) = 0x0B
        ∧ fFn (AfiBits a) = 4 ∧ fLow (AfiBits a) = 0 ∧ fRb (AfiBits a) = 0) :=
  ⟨⟨working worker, 5, code1 0x202e40c7, worker, 7, 4, by decide⟩,
   ⟨working worker, 5, code1 0x240a40c7, worker, 7, 4, by decide⟩,
   ⟨working worker, 5, code1 0x282e400d, worker, 13, by decide⟩,
   ⟨working worker, 5, code1 0x2c2e4030, worker, by decide⟩,
   ⟨working worker, 5, code1 0x2c2e4040, worker, by decide⟩⟩

theorem witness_ComparesWriteOnePredicate :
    (∃ s : State, ∃ k : Fin 1536, ∃ a : AfiWord, ∃ h : Hoist, ∃ b : Word, s.InTables ∧ s.Issues k.val a h
        ∧ fOp (AfiBits a) = 0x1C ∧ pReserved (AfiBits a) = false ∧ bitsOf (AfiBits a) 4 2 ≠ 3 ∧ (bitOf (AfiBits a) 6 = true
        ∧ b = BitVec.ofNat 64 (fRb (AfiBits a) * 16 + fLow (AfiBits a)) ∨ bitOf (AfiBits a) 6 = false ∧ fLow (AfiBits a) = 0
        ∧ b = h.word (fRb (AfiBits a))))
    ∧ (∃ s : State, ∃ k : Fin 1536, ∃ a : AfiWord, ∃ h : Hoist, ∃ b : Word, s.InTables ∧ s.Issues k.val a h
        ∧ fOp (AfiBits a) = 0x1D ∧ pReserved (AfiBits a) = false ∧ bitsOf (AfiBits a) 4 2 ≠ 3 ∧ bitsOf (AfiBits a) 7 3 < 2
        ∧ (bitOf (AfiBits a) 6 = true
        ∧ b = BitVec.ofNat 64 (fRb (AfiBits a) * 16 + fLow (AfiBits a)) ∨ bitOf (AfiBits a) 6 = false ∧ fLow (AfiBits a) = 0
        ∧ b = h.word (fRb (AfiBits a)))) :=
  ⟨⟨working worker, 5, code1 0x70108400, worker, worker.word 1, by decide⟩,
   ⟨working worker, 5, code1 0x74108400, worker, worker.word 1, by decide⟩⟩

theorem witness_FlowInstructionsMoveThePc :
    (∃ s : State, ∃ k : Fin 1536, ∃ a : AfiWord, ∃ h : Hoist, ∃ x : Nat, s.InTables ∧ s.Issues k.val a h
        ∧ fOp (AfiBits a) = 0x20 ∧ (x : Int) = h.pc + fBr (AfiBits a) ∧ s.inCode h x = true ∧ s.pairSecond h x = false)
    ∧ (∃ s : State, ∃ k : Fin 1536, ∃ a : AfiWord, ∃ h : Hoist, ∃ x : Nat, s.InTables ∧ s.Issues k.val a h
        ∧ fOp (AfiBits a) = 0x21 ∧ (x : Int) = h.pc + fBr (AfiBits a) ∧ s.inCode h x = true ∧ s.pairSecond h x = false
        ∧ h.stack.length < 8)
    ∧ (∃ s : State, ∃ k : Fin 1536, ∃ a : AfiWord, ∃ h : Hoist, ∃ x : Nat, ∃ r : List Nat, s.InTables ∧ s.Issues k.val a h
        ∧ fOp (AfiBits a) = 0x22 ∧ bitsOf (AfiBits a) 0 22 = 0 ∧ h.stack = x :: r)
    ∧ (∃ s : State, ∃ k : Fin 1536, ∃ a : AfiWord, ∃ h : Hoist, s.InTables ∧ s.Issues k.val a h ∧ fOp (AfiBits a) = 0x23
        ∧ bitsOf (AfiBits a) 0 22 = 0)
    ∧ (∃ s : State, ∃ k : Fin 1536, ∃ a : AfiWord, ∃ h : Hoist, s.InTables ∧ s.Issues k.val a h ∧ fOp (AfiBits a) = 0x24
        ∧ bitsOf (AfiBits a) 0 22 = 0)
    ∧ (∃ s : State, ∃ k : Fin 1536, ∃ a : AfiWord, ∃ h : Hoist, s.InTables ∧ s.Issues k.val a h ∧ h.at_ < 1536
        ∧ fOp (AfiBits a) = 0x25 ∧ bitsOf (AfiBits a) 0 22 = 0) :=
  ⟨⟨working worker, 5, code1 0x80000003, worker, 7, by decide⟩,
   ⟨working worker, 5, code1 0x84000003, worker, 7, by decide⟩,
   ⟨working { worker with stack := [8, 9] }, 5, code1 0x88000000, { worker with stack := [8, 9] }, 8, [9], by decide⟩,
   ⟨working worker, 5, code1 0x8c000000, worker, by decide⟩,
   ⟨working worker, 5, code1 0x90000000, worker, by decide⟩,
   ⟨working worker, 5, code1 0x94000000, worker, by decide⟩⟩

theorem witness_LoadsAndStoresReachTheirSpaces :
    (∃ s : State, ∃ k : Fin 1536, ∃ a : AfiWord, ∃ h : Hoist, s.InTables ∧ s.Issues k.val a h ∧ fOp (AfiBits a) = 0x28
        ∧ fSpace (AfiBits a) = 0 ∧ fBase (AfiBits a) = 0 ∧ fOff (AfiBits a) < 32)
    ∧ (∃ s : State, ∃ k : Fin 1536, ∃ a : AfiWord, ∃ h : Hoist, s.InTables ∧ s.Issues k.val a h ∧ fOp (AfiBits a) = 0x28
        ∧ fSpace (AfiBits a) = 1 ∧ a.rdErr = none ∧ cAddr h (AfiBits a) < 256)
    ∧ (∃ s : State, ∃ k : Fin 1536, ∃ a : AfiWord, ∃ h : Hoist, s.InTables ∧ s.Issues k.val a h ∧ fOp (AfiBits a) = 0x28
        ∧ fSpace (AfiBits a) = 2 ∧ a.rdErr = none ∧ cAddr h (AfiBits a) < 1024 ∧ cAddr h (AfiBits a) ∈ h.scratch)
    ∧ (∃ s : State, ∃ k : Fin 1536, ∃ a : AfiWord, ∃ h : Hoist, ∃ i : Image, s.InTables ∧ s.Issues k.val a h
        ∧ fOp (AfiBits a) = 0x28 ∧ fSpace (AfiBits a) = 3 ∧ a.rdErr = none ∧ s.imgOf h = some i
        ∧ cAddr h (AfiBits a) < i.constWords)
    ∧ (∃ s : State, ∃ k : Fin 1536, ∃ a : AfiWord, ∃ h : Hoist, ∃ e : CtxEntry, s.InTables ∧ s.Issues k.val a h
        ∧ fOp (AfiBits a) = 0x29 ∧ fSpace (AfiBits a) = 0 ∧ fBase (AfiBits a) = 0 ∧ 8 ≤ fOff (AfiBits a)
        ∧ fOff (AfiBits a) < 32 ∧ s.ctxOf h.cur = some e ∧ e.words.length = 32)
    ∧ (∃ s : State, ∃ k : Fin 1536, ∃ a : AfiWord, ∃ h : Hoist, s.InTables ∧ s.Issues k.val a h ∧ fOp (AfiBits a) = 0x29
        ∧ fSpace (AfiBits a) = 1 ∧ cAddr h (AfiBits a) < 256)
    ∧ (∃ s : State, ∃ k : Fin 1536, ∃ a : AfiWord, ∃ h : Hoist, s.InTables ∧ s.Issues k.val a h ∧ fOp (AfiBits a) = 0x29
        ∧ h.at_ < 1536 ∧ fSpace (AfiBits a) = 2 ∧ cAddr h (AfiBits a) < 1024) :=
  ⟨⟨working worker, 5, code1 0xa02c0002, worker, by decide⟩,
   ⟨working worker, 5, code1 0xa02da003, worker, by decide⟩,
   ⟨working { worker with scratch := [12] }, 5, code1 0xa02ea000, { worker with scratch := [12] }, by decide⟩,
   ⟨{ working worker with images := [{ image7 0 with constWords := 20 }] }, 5, code1 0xa02fa007, worker,
       { image7 0 with constWords := 20 }, by decide⟩,
   ⟨working worker, 5, code1 0xa4240008, worker,
       entry 3 (words5 ++ [2 ^ 15 + 1 + (2 ^ 15 + 2) * 2 ^ 16 + (2 ^ 15 + 3) * 2 ^ 32 + (2 ^ 15 + 4) * 2 ^ 48, 2 ^ 8]),
       by decide⟩,
   ⟨working worker, 5, code1 0xa425a003, worker, by decide⟩,
   ⟨working worker, 5, code1 0xa426a003, worker, by decide⟩⟩

theorem witness_QueueInstructionsMoveWords :
    (∃ s : State, ∃ k : Fin 1536, ∃ a : AfiWord, ∃ h : Hoist, s.InTables ∧ s.Issues k.val a h ∧ fOp (AfiBits a) = 0x2A
        ∧ bitsOf (AfiBits a) 0 19 = 0 ∧ h.lastDone = true)
    ∧ (∃ s : State, ∃ k : Fin 1536, ∃ a : AfiWord, ∃ h : Hoist, ∃ e : Queue, s.InTables ∧ s.Issues k.val a h
        ∧ fOp (AfiBits a) = 0x2A ∧ bitsOf (AfiBits a) 0 19 = 0 ∧ h.lastDone = false ∧ s.slotQueue h 1 = some e
        ∧ h.hx + 1 < h.members.length ∧ s.resident (h.members.getD (h.hx + 1) 0) = true)
    ∧ (∃ s : State, ∃ k : Fin 1536, ∃ a : AfiWord, ∃ h : Hoist, ∃ e : Queue, s.InTables ∧ s.Issues k.val a h
        ∧ fOp (AfiBits a) = 0x2A ∧ bitsOf (AfiBits a) 0 19 = 0 ∧ h.lastDone = false ∧ s.slotQueue h 1 = some e
        ∧ h.members.length ≤ h.hx + 1)
    ∧ (∃ s : State, ∃ k : Fin 1536, ∃ a : AfiWord, ∃ h : Hoist, ∃ e : Queue, s.InTables ∧ s.Issues k.val a h
        ∧ fOp (AfiBits a) = 0x2C ∧ 2 ≤ fSpace (AfiBits a) ∧ fPdQ (AfiBits a) = 0 ∧ bitOf (AfiBits a) 12 = false
        ∧ bitsOf (AfiBits a) 5 7 = 0 ∧ fQ (AfiBits a) % 32 ≠ 0x18 ∧ s.slotQueue h (fSpace (AfiBits a)) = some e
        ∧ s.writes h.num e.num = true ∧ s.pushRefused e.num false = false ∧ e.flush = none)
    ∧ (∃ s : State, ∃ k : Fin 1536, ∃ a : AfiWord, ∃ h : Hoist, ∃ e : Queue, ∃ x : QWord, ∃ r : List QWord, s.InTables
        ∧ s.Issues k.val a h ∧ fOp (AfiBits a) = 0x2D ∧ fSpace (AfiBits a) ≠ 1 ∧ bitsOf (AfiBits a) 4 9 = 0
        ∧ s.slotQueue h (fSpace (AfiBits a)) = some e ∧ (2 ≤ fSpace (AfiBits a) → s.writes h.num e.num = false)
        ∧ (fSpace (AfiBits a) = 0 → e.bit = 0) ∧ a.rdErr = none ∧ e.words = x :: r ∧ 0 < (viewWords e h.w).length
        ∧ x.poison = false)
    ∧ (∃ s : State, ∃ k : Fin 1536, ∃ a : AfiWord, ∃ h : Hoist, ∃ e : Queue, s.InTables ∧ s.Issues k.val a h
        ∧ fOp (AfiBits a) = 0x2D ∧ fSpace (AfiBits a) ≠ 1 ∧ bitsOf (AfiBits a) 4 9 = 0
        ∧ s.slotQueue h (fSpace (AfiBits a)) = some e ∧ (2 ≤ fSpace (AfiBits a) → s.writes h.num e.num = false)
        ∧ (fSpace (AfiBits a) = 0 → e.bit = 0) ∧ viewWords e h.w = [] ∧ gatePassed e h.w = true)
    ∧ (∃ s : State, ∃ k : Fin 1536, ∃ a : AfiWord, ∃ h : Hoist, ∃ e : Queue, s.InTables ∧ s.Issues k.val a h
        ∧ fOp (AfiBits a) = 0x2E ∧ fSpace (AfiBits a) ≠ 1 ∧ bitsOf (AfiBits a) 0 13 = 3
        ∧ s.slotQueue h (fSpace (AfiBits a)) = some e ∧ gatePassed e h.w = true)
    ∧ (∃ s : State, ∃ k : Fin 1536, ∃ a : AfiWord, ∃ h : Hoist, ∃ e : Queue, s.InTables ∧ s.Issues k.val a h
        ∧ fOp (AfiBits a) = 0x2E ∧ 2 ≤ fSpace (AfiBits a) ∧ bitsOf (AfiBits a) 0 13 = 1
        ∧ s.slotQueue h (fSpace (AfiBits a)) = some e ∧ gatePassed e h.w = true)
    ∧ (∃ s : State, ∃ k : Fin 1536, ∃ a : AfiWord, ∃ h : Hoist, ∃ e : Queue, s.InTables ∧ s.Issues k.val a h
        ∧ fOp (AfiBits a) = 0x2D ∧ fSpace (AfiBits a) = 0 ∧ bitsOf (AfiBits a) 4 9 = 0 ∧ s.slotQueue h 0 = some e ∧ e.bit = 0
        ∧ viewWords e h.w = [] ∧ gatePassed e h.w = false)
    ∧ (∃ s : State, ∃ k : Fin 1536, ∃ h : Hoist, ∃ st : Stall, ∃ e : Queue, s.InTables ∧ s.hoist k.val = some h
        ∧ h.stall = some st ∧ ({ s with hoists := s.hoists.map fun g => if g.num = k.val then { g with stall := none } else g } : State).Issues k.val ⟨st.pfx, st.w, false, none⟩ { h with stall := none } ∧ fOp (AfiBits ⟨st.pfx, st.w, false, none⟩) = 0x2D ∧ fSpace (AfiBits ⟨st.pfx, st.w, false, none⟩) = 0 ∧ bitsOf (AfiBits ⟨st.pfx, st.w, false, none⟩) 4 9 = 0 ∧ s.slotQueue h 0 = some e ∧ e.bit = 0 ∧ viewWords e h.w = [] ∧ gatePassed e h.w = true) :=
  ⟨⟨working { worker with lastDone := true }, 5, code1 0xa8080000, { worker with lastDone := true }, by decide⟩,
   ⟨working worker, 5, code1 0xa8200000, worker, { num := 2, gate := some 10 }, by decide⟩,
   ⟨working { worker with hx := 1 }, 5, code1 0xa8080000, { worker with hx := 1 }, { num := 2, gate := some 10 }, by decide⟩,
   ⟨working worker, 5, code1 0xb0260017, worker, { num := 3, gate := some 10 }, by decide⟩,
   ⟨working worker, 5, code1 0xb42c400c, worker,
       { num := 1, gate := some 11, words := [qword 0x1122334455667788 0 9, qword 0x99AABBCCDDEEFF00 0 10] },
       qword 0x1122334455667788 0 9, [qword 0x99AABBCCDDEEFF00 0 10], by decide⟩,
   ⟨{ working worker with queues := [{ num := 1, gate := some 11 }] }, 5, code1 0xb42c400c, worker,
       { num := 1, gate := some 11 }, by decide⟩,
   ⟨working worker, 5, code1 0xb82f6003, worker, { num := 4, gate := some 11, words := [qword 6 3 10], incomplete := [10] },
       by decide⟩,
   ⟨working worker, 5, code1 0xb82f6001, worker, { num := 4, gate := some 11, words := [qword 6 3 10], incomplete := [10] },
       by decide⟩,
   ⟨{ working worker with queues := [{ num := 1, gate := some 10, words := [qword 7 0 10] }] }, 5, code1 0xb42c400c, worker,
       { num := 1, gate := some 10, words := [qword 7 0 10] }, by decide⟩,
   ⟨{ working ({ worker with stall := some ⟨none, BitVec.ofNat 32 0xb42c400c⟩ }) with queues := [{ num := 1, gate := some 11 }] }, 5, { worker with stall := some ⟨none, BitVec.ofNat 32 0xb42c400c⟩ }, ⟨none, BitVec.ofNat 32 0xb42c400c⟩, { num := 1, gate := some 11 }, by decide⟩⟩

theorem witness_StreamInstructionsUseTheirCursors :
    (∃ s : State, ∃ k : Fin 1536, ∃ a : AfiWord, ∃ h : Hoist, ∃ e : Queue, s.InTables ∧ s.Issues k.val a h
        ∧ fOp (AfiBits a) = 0x10 ∧ fCurOut (AfiBits a) = false ∧ sReserved (AfiBits a) = false ∧ s.slotQueue h 0 = some e
        ∧ countOf h (AfiBits a) ≤ 64 ∧ a.rdErr = none
        ∧ (gatePassed e h.w = true ∨ countOf h (AfiBits a) ≤ (s.viewBits e h.w).length))
    ∧ (∃ s : State, ∃ k : Fin 1536, ∃ a : AfiWord, ∃ h : Hoist, ∃ e : Queue, s.InTables ∧ s.Issues k.val a h
        ∧ fOp (AfiBits a) = 0x11 ∧ fCurOut (AfiBits a) = false ∧ sReserved (AfiBits a) = false ∧ s.slotQueue h 0 = some e
        ∧ countOf h (AfiBits a) ≤ 64 ∧ a.rdErr = none
        ∧ (gatePassed e h.w = true ∨ countOf h (AfiBits a) ≤ (s.viewBits e h.w).length))
    ∧ (∃ s : State, ∃ k : Fin 1536, ∃ a : AfiWord, ∃ h : Hoist, ∃ e : Queue, s.InTables ∧ s.Issues k.val a h
        ∧ fOp (AfiBits a) = 0x13 ∧ fCurOut (AfiBits a) = false ∧ sReserved (AfiBits a) = false ∧ fRd (AfiBits a) = 0
        ∧ s.slotQueue h 0 = some e ∧ countOf h (AfiBits a) ≤ 64 ∧ a.rdErr = none
        ∧ countOf h (AfiBits a) ≤ (s.viewBits e h.w).length)
    ∧ (∃ s : State, ∃ k : Fin 1536, ∃ a : AfiWord, ∃ h : Hoist, ∃ e : Queue, s.InTables ∧ s.Issues k.val a h
        ∧ fOp (AfiBits a) = 0x12 ∧ fCurOut (AfiBits a) = true ∧ sReserved (AfiBits a) = false ∧ fPdS (AfiBits a) = 0
        ∧ s.slotQueue h 1 = some e ∧ h.outBits + countOf h (AfiBits a) < 64)
    ∧ (∃ s : State, ∃ k : Fin 1536, ∃ a : AfiWord, ∃ h : Hoist, ∃ e : Queue, s.InTables ∧ s.Issues k.val a h
        ∧ fOp (AfiBits a) = 0x12 ∧ fCurOut (AfiBits a) = true ∧ sReserved (AfiBits a) = false ∧ fPdS (AfiBits a) = 0
        ∧ s.slotQueue h 1 = some e ∧ countOf h (AfiBits a) ≤ 64 ∧ h.outBits ≤ 63 ∧ 64 ≤ h.outBits + countOf h (AfiBits a)
        ∧ s.pushRefused e.num false = false ∧ e.flush = none)
    ∧ (∃ s : State, ∃ k : Fin 1536, ∃ a : AfiWord, ∃ h : Hoist, ∃ e : Queue, s.InTables ∧ s.Issues k.val a h
        ∧ fOp (AfiBits a) = 0x14 ∧ sReserved (AfiBits a) = false ∧ fCurOut (AfiBits a) = false
        ∧ isPow2 (countOf h (AfiBits a)) = true ∧ s.slotQueue h 0 = some e ∧ a.rdErr = none ∧ gatePassed e h.w = true)
    ∧ (∃ s : State, ∃ k : Fin 1536, ∃ a : AfiWord, ∃ h : Hoist, ∃ e : Queue, s.InTables ∧ s.Issues k.val a h
        ∧ fOp (AfiBits a) = 0x14 ∧ sReserved (AfiBits a) = false ∧ fCurOut (AfiBits a) = true ∧ fPdS (AfiBits a) = 0
        ∧ isPow2 (countOf h (AfiBits a)) = true ∧ s.slotQueue h 1 = some e) :=
  ⟨⟨working worker, 5, code1 0x402cfc18, worker,
      { num := 1, gate := some 11, words := [qword 0x1122334455667788 0 9, qword 0x99AABBCCDDEEFF00 0 10] }, by decide⟩,
   ⟨working worker, 5, code1 0x442cfc18, worker,
       { num := 1, gate := some 11, words := [qword 0x1122334455667788 0 9, qword 0x99AABBCCDDEEFF00 0 10] }, by decide⟩,
   ⟨working worker, 5, code1 0x4c00fc18, worker,
       { num := 1, gate := some 11, words := [qword 0x1122334455667788 0 9, qword 0x99AABBCCDDEEFF00 0 10] }, by decide⟩,
   ⟨working worker, 5, code1 0x48261800, worker, { num := 2, gate := some 10 }, by decide⟩,
   ⟨working worker, 5, code1 0x4826fc00, worker, { num := 2, gate := some 10 }, by decide⟩,
   ⟨{ working worker with queues := [{ num := 1, gate := some 11, words := [qword 0x1122334455667788 7 9, qword 5 3 10], bit := 50 }] }, 5, code1 0x502c1c18, worker, { num := 1, gate := some 11, words := [qword 0x1122334455667788 7 9, qword 5 3 10], bit := 50 }, by decide⟩,
   ⟨working { worker with outBits := 3, outAcc := 5 }, 5, code1 0x502e1c00, { worker with outBits := 3, outAcc := 5 },
       { num := 2, gate := some 10 }, by decide⟩⟩

theorem witness_PatternsAreFoundInTheView :
    (∃ s : State, ∃ k : Fin 1536, ∃ a : AfiWord, ∃ h : Hoist, ∃ e : Queue, s.InTables ∧ s.Issues k.val a h
        ∧ fOp (AfiBits a) = 0x19 ∧ pReserved (AfiBits a) = false ∧ h.reg (fRb (AfiBits a)) ≠ 0 ∧ s.slotQueue h 0 = some e
        ∧ a.rdErr = none ∧ gatePassed e h.w = true ∧ fLow (AfiBits a) ≠ 0 ∧ h.t.length = 16)
    ∧ (∃ s : State, ∃ k : Fin 1536, ∃ a : AfiWord, ∃ h : Hoist, ∃ e : Queue, s.InTables ∧ s.Issues k.val a h
        ∧ fOp (AfiBits a) = 0x18 ∧ pReserved (AfiBits a) = false ∧ h.reg (fRb (AfiBits a)) ≠ 0 ∧ s.slotQueue h 0 = some e
        ∧ a.rdErr = none ∧ gatePassed e h.w = true) :=
  ⟨⟨working worker, 5, code1 0x64125ffc, worker,
      { num := 1, gate := some 11, words := [qword 0x1122334455667788 0 9, qword 0x99AABBCCDDEEFF00 0 10] }, by decide⟩,
   ⟨working worker, 5, code1 0x60125ffc, worker,
       { num := 1, gate := some 11, words := [qword 0x1122334455667788 0 9, qword 0x99AABBCCDDEEFF00 0 10] }, by decide⟩⟩

theorem witness_HelpersWriteTheirResults :
    (∃ s : State, ∃ k : Fin 1536, ∃ a : AfiWord, ∃ h : Hoist, s.InTables ∧ s.Issues k.val a h ∧ fOp (AfiBits a) = 0x30
        ∧ bitsOf (AfiBits a) 8 2 = 0 ∧ bitsOf (AfiBits a) 5 3 ≤ 4 ∧ fLow (AfiBits a) = 0 ∧ h.reg (fRa (AfiBits a)) < 2 ^ 16
        ∧ h.reg (fRb (AfiBits a)) < 2 ^ 16 ∧ bitsOf (h.reg (fRb (AfiBits a))) 10 5 = 0)
    ∧ (∃ s : State, ∃ k : Fin 1536, ∃ a : AfiWord, ∃ h : Hoist, s.InTables ∧ s.Issues k.val a h ∧ fOp (AfiBits a) = 0x30
        ∧ bitsOf (AfiBits a) 8 2 = 1 ∧ fLow (AfiBits a) = 0 ∧ bitOf (AfiBits a) 7 = true)
    ∧ (∃ s : State, ∃ k : Fin 1536, ∃ a : AfiWord, ∃ h : Hoist, s.InTables ∧ s.Issues k.val a h ∧ fOp (AfiBits a) = 0x30
        ∧ bitsOf (AfiBits a) 8 2 = 1 ∧ fLow (AfiBits a) = 0 ∧ bitOf (AfiBits a) 7 = false)
    ∧ (∃ s : State, ∃ k : Fin 1536, ∃ a : AfiWord, ∃ h : Hoist, s.InTables ∧ s.Issues k.val a h ∧ fOp (AfiBits a) = 0x30
        ∧ bitsOf (AfiBits a) 8 2 = 2 ∧ bitsOf (AfiBits a) 4 2 = 0 ∧ fRb (AfiBits a) = 0 ∧ fLow (AfiBits a) = 0
        ∧ (bitOf (AfiBits a) 6 = true ∨ h.reg (fRa (AfiBits a)) < 2 ^ 32)) :=
  ⟨⟨working worker, 5, code1 0xc02dd800, worker, by decide⟩,
   ⟨working worker, 5, code1 0xc02e5d80, worker, by decide⟩,
   ⟨working worker, 5, code1 0xc02e5d00, worker, by decide⟩,
   ⟨working worker, 5, code1 0xc02e4240, worker, by decide⟩⟩

theorem witness_InterleaversMoveEveryByte :
    (∃ s : State, ∃ k : Fin 1536, ∃ a : AfiWord, ∃ h : Hoist, ∃ b0 : Nat, ∃ bl : Nat, ∃ i0 : Nat, ∃ kb : Nat, s.InTables
        ∧ s.Issues k.val a h ∧ h.at_ < 1536 ∧ fOp (AfiBits a) = 0x31 ∧ fLow (AfiBits a) = 0
        ∧ h.reg (fRa (AfiBits a)) = b0 + bl * 2 ^ 16 ∧ h.reg (fRb (AfiBits a)) = i0 + kb * 2 ^ 16 ∧ b0 < 1024 ∧ i0 < 1024
        ∧ 0 < bl ∧ bl < 1024 ∧ 0 < kb ∧ kb < 1024 ∧ kb ≤ 8 * bl ∧ (∀ i ≤ fFn (AfiBits a), b0 + i * bl + (kb + 7) / 8 ≤ 1024
        ∧ (b0 + i * bl + (kb + 7) / 8 ≤ i0 ∨ i0 + ((fFn (AfiBits a) + 1) * kb + 7) / 8 ≤ b0 + i * bl) ∧ ∀ j < (kb + 7) / 8,
        b0 + i * bl + j ∈ h.scratch) ∧ i0 + ((fFn (AfiBits a) + 1) * kb + 7) / 8 ≤ 1024)
    ∧ (∃ s : State, ∃ k : Fin 1536, ∃ a : AfiWord, ∃ h : Hoist, ∃ b0 : Nat, ∃ bl : Nat, ∃ i0 : Nat, ∃ kb : Nat, s.InTables
        ∧ s.Issues k.val a h ∧ h.at_ < 1536 ∧ fOp (AfiBits a) = 0x32 ∧ fLow (AfiBits a) = 0
        ∧ h.reg (fRa (AfiBits a)) = b0 + bl * 2 ^ 16 ∧ h.reg (fRb (AfiBits a)) = i0 + kb * 2 ^ 16 ∧ b0 < 1024 ∧ i0 < 1024
        ∧ 0 < bl ∧ bl < 1024 ∧ 0 < kb ∧ kb < 1024 ∧ kb ≤ 8 * bl ∧ (∀ i ≤ fFn (AfiBits a), b0 + i * bl + (kb + 7) / 8 ≤ 1024
        ∧ (b0 + i * bl + (kb + 7) / 8 ≤ i0 ∨ i0 + ((fFn (AfiBits a) + 1) * kb + 7) / 8 ≤ b0 + i * bl))
        ∧ i0 + ((fFn (AfiBits a) + 1) * kb + 7) / 8 ≤ 1024 ∧ (∀ j < ((fFn (AfiBits a) + 1) * kb + 7) / 8, i0 + j ∈ h.scratch))
    ∧ (∃ s : State, ∃ k : Fin 1536, ∃ a : AfiWord, ∃ h : Hoist, ∃ op : Nat, ∃ b0 : Nat, ∃ bl : Nat, ∃ i0 : Nat, ∃ kb : Nat,
        ∃ out : Bool, s.InTables ∧ s.Issues k.val a h ∧ (op = 0x31 ∧ out = true ∨ op = 0x32 ∧ out = false)
        ∧ fOp (AfiBits a) = op ∧ fLow (AfiBits a) = 0 ∧ h.reg (fRa (AfiBits a)) = b0 + bl * 2 ^ 16
        ∧ h.reg (fRb (AfiBits a)) = i0 + kb * 2 ^ 16 ∧ b0 < 1024 ∧ i0 < 1024 ∧ 0 < bl ∧ bl < 1024 ∧ 0 < kb ∧ kb < 1024
        ∧ kb ≤ 8 * bl ∧ (∀ i ≤ fFn (AfiBits a), b0 + i * bl + (kb + 7) / 8 ≤ 1024
        ∧ (b0 + i * bl + (kb + 7) / 8 ≤ i0 ∨ i0 + ((fFn (AfiBits a) + 1) * kb + 7) / 8 ≤ b0 + i * bl))
        ∧ i0 + ((fFn (AfiBits a) + 1) * kb + 7) / 8 ≤ 1024) :=
  ⟨⟨{ working ({ worker with t := (worker.t.set 11 65537).set 12 327688, scratch := [1, 2, 3] }) with mem := cells (Sp.tile 0) (5 * 0x2000 + 8) [1, 2, 3, 4, 5, 6, 7, 8, 9, 10, 11, 12, 13, 14, 15, 16, 17, 18, 19, 20] }, 5, code1 0xc436f010, { worker with t := (worker.t.set 11 65537).set 12 327688, scratch := [1, 2, 3] }, 1, 1, 8, 5, by decide⟩,
   ⟨{ working ({ worker with t := (worker.t.set 11 65544).set 12 327681, scratch := [1, 2, 3] }) with mem := cells (Sp.tile 0) (5 * 0x2000 + 8) [1, 2, 3, 4, 5, 6, 7, 8, 9, 10, 11, 12, 13, 14, 15, 16, 17, 18, 19, 20] }, 5, code1 0xc836f010, { worker with t := (worker.t.set 11 65544).set 12 327681, scratch := [1, 2, 3] }, 8, 1, 1, 5, by decide⟩,
   ⟨{ working ({ worker with t := (worker.t.set 11 65537).set 12 327688, scratch := [] }) with mem := cells (Sp.tile 0) (5 * 0x2000 + 8) [1, 2, 3, 4, 5, 6, 7, 8, 9, 10, 11, 12, 13, 14, 15, 16, 17, 18, 19, 20] }, 5, code1 0xc436f010, { worker with t := (worker.t.set 11 65537).set 12 327688, scratch := [] }, 0x31, 1, 1, 8, 5, true, by decide⟩⟩

theorem witness_CheckInstructionsDriveTheirUnit :
    (∃ s : State, ∃ k : Fin 1536, ∃ a : AfiWord, ∃ h : Hoist, ∃ n : Nat, s.InTables ∧ s.Ckf k.val a h n 0
        ∧ bitsOf (AfiBits a) 0 6 = 0 ∧ fPdQ (AfiBits a) = 0 ∧ fRd (AfiBits a) = 0)
    ∧ (∃ s : State, ∃ k : Fin 1536, ∃ a : AfiWord, ∃ h : Hoist, ∃ n : Nat, s.InTables ∧ s.Ckf k.val a h n 1
        ∧ bitsOf (AfiBits a) 0 6 = 0 ∧ fPdQ (AfiBits a) = 0 ∧ s.ckPhase n < 2 ∧ s.cfg (F.CK_CFG_FOLDW n) ≠ 0)
    ∧ (∃ s : State, ∃ k : Fin 1536, ∃ a : AfiWord, ∃ h : Hoist, ∃ n : Nat, s.InTables ∧ s.Ckf k.val a h n 2
        ∧ fPdQ (AfiBits a) = 0 ∧ s.ckPhase n ≠ 3 ∧ (s.on (F.CK_CFG_REFIN n) = true → (bitsOf (AfiBits a) 0 6 + 1) % 8 = 0))
    ∧ (∃ s : State, ∃ k : Fin 1536, ∃ a : AfiWord, ∃ h : Hoist, ∃ n : Nat, s.InTables ∧ s.Ckf k.val a h n 3
        ∧ bitsOf (AfiBits a) 0 6 = 0 ∧ fPdQ (AfiBits a) = 0 ∧ s.cfg (F.CK_CFG_FOLDW n) ≠ 0)
    ∧ (∃ s : State, ∃ k : Fin 1536, ∃ a : AfiWord, ∃ h : Hoist, ∃ n : Nat, s.InTables ∧ s.Ckf k.val a h n 4
        ∧ bitsOf (AfiBits a) 0 6 = 0 ∧ fPdQ (AfiBits a) = 0)
    ∧ (∃ s : State, ∃ k : Fin 1536, ∃ a : AfiWord, ∃ h : Hoist, ∃ n : Nat, s.InTables ∧ s.Ckf k.val a h n 5
        ∧ bitsOf (AfiBits a) 0 6 = 0) :=
  ⟨⟨working worker, 5, code1 0xcc000000, worker, 0, by decide⟩,
   ⟨working worker, 5, code1 0xcc240400, worker, 0, by decide⟩,
   ⟨working worker, 5, code1 0xcc24083f, worker, 0, by decide⟩,
   ⟨working worker, 5, code1 0xcc240c00, worker, 0, by decide⟩,
   ⟨working worker, 5, code1 0xcc2c1000, worker, 0, by decide⟩,
   ⟨working worker, 5, code1 0xcc247400, worker, 0, by decide⟩⟩

theorem witness_ProgramsRaiseMarkAndTellTime :
    (∃ s : State, ∃ k : Fin 1536, ∃ a : AfiWord, ∃ h : Hoist, s.InTables ∧ s.Issues k.val a h ∧ fOp (AfiBits a) = 0x34
        ∧ fRd (AfiBits a) = 0 ∧ immFits a 5 = true)
    ∧ (∃ s : State, ∃ k : Fin 1536, ∃ a : AfiWord, ∃ h : Hoist, ∃ e : CtxEntry, s.InTables ∧ s.Issues k.val a h
        ∧ fOp (AfiBits a) = 0x35 ∧ fRd (AfiBits a) = 0 ∧ fFn (AfiBits a) = 0 ∧ fLow (AfiBits a) = 0
        ∧ h.reg (fRb (AfiBits a)) < 2 ^ 33 ∧ s.ctxOf h.cur = some e ∧ e.words.length = 32 ∧ h.hx < 64)
    ∧ (∃ s : State, ∃ k : Fin 1536, ∃ a : AfiWord, ∃ h : Hoist, s.InTables ∧ s.Issues k.val a h ∧ fOp (AfiBits a) = 0x36
        ∧ immFits a 2 = true ∧ fImm (AfiBits a) = 0 ∧ fRa (AfiBits a) = 0)
    ∧ (∃ s : State, ∃ k : Fin 1536, ∃ a : AfiWord, ∃ h : Hoist, ∃ e : Queue, ∃ off : Nat, ∃ late : Bool, s.InTables
        ∧ s.Issues k.val a h ∧ fOp (AfiBits a) = 0x36 ∧ immFits a 2 = true ∧ fImm (AfiBits a) = 1 ∧ s.slotQueue h 0 = some e
        ∧ h.reg (fRa (AfiBits a)) = off + b2n late * 2 ^ 63 ∧ off < 2 ^ 16 ∧ off < (s.viewBits e h.w).length)
    ∧ (∃ s : State, ∃ k : Fin 1536, ∃ a : AfiWord, ∃ h : Hoist, s.InTables ∧ s.Issues k.val a h ∧ fOp (AfiBits a) = 0x36
        ∧ immFits a 2 = true ∧ fImm (AfiBits a) = 2 ∧ fRa (AfiBits a) = 0 ∧ h.cls = 3)
    ∧ (∃ s : State, ∃ k : Fin 1536, ∃ a : AfiWord, ∃ h : Hoist, s.InTables ∧ s.Issues k.val a h ∧ fOp (AfiBits a) = 0x37
        ∧ immFits a 2 = true ∧ fImm (AfiBits a) ≠ 3 ∧ fRa (AfiBits a) = 0) :=
  ⟨⟨working worker, 5, code1 0xd000001f, worker, by decide⟩,
   ⟨working worker, 5, code1 0xd4025c00, worker,
       entry 3 (words5 ++ [2 ^ 15 + 1 + (2 ^ 15 + 2) * 2 ^ 16 + (2 ^ 15 + 3) * 2 ^ 32 + (2 ^ 15 + 4) * 2 ^ 48, 2 ^ 8]),
       by decide⟩,
   ⟨working worker, 5, code1 0xd82c0000, worker, by decide⟩,
   ⟨working worker, 5, code1 0xd82d8001, worker,
       { num := 1, gate := some 11, words := [qword 0x1122334455667788 0 9, qword 0x99AABBCCDDEEFF00 0 10] }, 2, false,
       by decide⟩,
   ⟨working { worker with cls := 3 }, 5, code1 0xd82c0002, { worker with cls := 3 }, by decide⟩,
   ⟨working worker, 5, code1 0xdc2c0000, worker, by decide⟩⟩

theorem witness_ThreadsCannotDisturbEachOther :
    (∃ row ∈ afiRows, ∃ s : State, ∃ k : Fin 1536, ∃ a : AfiWord, ∃ h : Hoist, s.InTables ∧ s.hoist k.val = some h
        ∧ h.at_ < 1536) :=
  ⟨Instr.add, by simp [afiRows], working worker, 5, code1 0x48c00, worker, by decide⟩

theorem witness_GatesBeatsAndSamples :
    (∃ s : State, ∃ k : Fin 1536, ∃ h : Hoist, s.InTables ∧ s.hoist k.val = some h
        ∧ (h.ready = true ∨ h.halted = true ∨ h.suspended = true ∨ s.tick < h.w + 2))
    ∧ (∃ s : State, ∃ n : Fin 8, ∃ c : Fin 16384, s.InTables ∧ s.resident c.val = false ∧ s.frozen = false
        ∧ (s.ctxWays c.val).length < 8)
    ∧ (∃ s : State, ∃ n : Fin 8, ∃ c : Fin 16384, ∃ v : CtxEntry, s.InTables ∧ s.resident c.val = false ∧ s.frozen = false
        ∧ 8 ≤ (s.ctxWays c.val).length ∧ s.ctxVictim c.val = some v)
    ∧ (∃ s : State, ∃ q : Fin 32768, ∃ e : Queue, ∃ g : Nat, s.InTables ∧ s.queue q.val = some e ∧ e.gate = some g
        ∧ s.deadlineDue q.val g = true)
    ∧ (∃ s : State, ∃ q : Fin 32768, ∃ e : Queue, ∃ g : Nat, s.InTables ∧ s.queue q.val = some e ∧ e.gate = some g
        ∧ s.deadlineDue q.val g = false)
    ∧ (∃ s : State, ∃ sid : Fin 16384, ∃ e : Queue, ∃ g : Nat, s.InTables ∧ s.ftcState ≠ Ftc.disabled ∧ s.lin.logging = false
        ∧ s.ledgerMode = false ∧ sid.val ≠ s.cfg F.HAL_SID_RX_SID ∧ s.cfg F.MAP_PW_CLASS_SID ≠ sid.val
        ∧ (s.queues.map (·.num)).Nodup ∧ e ∈ s.queues ∧ s.on (F.QUE_W_CFG_WRITER e.num) = false
        ∧ s.cfg (F.QUE_W_CFG_SID e.num) = sid.val ∧ e.gate = some g ∧ g + 1 ≤ s.tick)
    ∧ (∃ s : State, ∃ sid : Fin 16384, ∃ line : Bool, ∃ w : TWord, ∃ e : Queue, s.InTables ∧ s.ftcState ≠ Ftc.disabled
        ∧ s.lin.logging = false ∧ s.portOf sid.val = none ∧ s.cfg F.MAP_PW_CLASS_SID ≠ sid.val ∧ (s.queues.map (·.num)).Nodup
        ∧ e ∈ s.queues ∧ s.on (F.QUE_W_CFG_WRITER e.num) = false ∧ s.cfg (F.QUE_W_CFG_SID e.num) = sid.val ∧ e.accept ≤ s.tick
        ∧ e.flush = none ∧ s.cfg (F.QUE_W_CFG_READER e.num) ≠ Reader.release ∧ e.words.length + 1 ≤ s.capacity e.num
        ∧ (line = false → s.sinksFree sid.val s.tick 1 = true))
    ∧ (∃ s : State, ∃ sid : Fin 16384, ∃ ws : List TWord, s.InTables ∧ s.sinksFree sid.val s.tick ws.length = false)
    ∧ (∃ s : State, ∃ c : Fin 16384, ∃ h : Hoist, ∃ q : Nat, ∃ w : Nat, ∃ e : Queue, s.InTables ∧ s.dueFor c.val = some w
        ∧ s.hoistOf c.val = some h ∧ s.asLoaded.chQueue c.val 1 = some q ∧ c.val ∉ s.sampled ∧ s.asLoaded.chTwin c.val = none
        ∧ s.queue q = some e ∧ s.on (F.QUE_W_CFG_WRITER q) = true)
    ∧ (∃ s : State, ∃ c : Fin 16384, ∃ h : Hoist, ∃ q : Nat, ∃ w : Nat, ∃ e : Queue, ∃ x : CtxEntry, s.InTables
        ∧ s.dueFor c.val = some w ∧ s.hoistOf c.val = some h ∧ s.asLoaded.chQueue c.val 1 = some q ∧ c.val ∉ s.sampled
        ∧ s.asLoaded.chTwin c.val = none ∧ s.queue q = some e ∧ e.words = [] ∧ s.pennantCut h w none = false
        ∧ s.ctxOf c.val = some x ∧ x.words.length = 32)
    ∧ (∃ s : State, ∃ c : Fin 16384, s.InTables ∧ (c.val ∈ s.sampled ∨ s.dueFor c.val = none)) :=
  ⟨⟨{ working worker with clk := { tick := 30 } }, 5, worker, by decide⟩,
   ⟨{ working worker with ctx := [] }, 7, 16383, by decide⟩,
   ⟨{ working worker with ctx := (List.range 8).map fun i => entry (3 + 512 * (8 - i)) words5 }, 0, 3, entry 515 words5,
       by decide⟩,
   ⟨ticking { having (working worker) [(F.QUE_W_CFG_SID 9, 100)] with queues := (working worker).queues ++ [{ num := 9, gate := some 5, words := [qword 1 0 4] }] } 10, 9, { num := 9, gate := some 5, words := [qword 1 0 4] }, 5, by decide⟩,
   ⟨ticking { having (working worker) [(F.QUE_W_CFG_SID 9, 100)] with queues := (working worker).queues ++ [{ num := 9, gate := some 5, words := [qword 1 0 4] }] } 5, 9, { num := 9, gate := some 5, words := [qword 1 0 4] }, 5, by decide⟩,
   ⟨ticking { having (working worker) [(F.QUE_W_CFG_SID 9, 100)] with queues := (working worker).queues ++ [{ num := 9, gate := some 5, words := [qword 1 0 4] }] } 10, 100, { num := 9, gate := some 5, words := [qword 1 0 4] }, 5, by decide⟩,
   ⟨ticking { having (working worker) [(F.QUE_W_CFG_SID 9, 100)] with queues := (working worker).queues ++ [{ num := 9, gate := some 5, words := [qword 1 0 4] }] } 10, 100, false, ⟨7, 0x0⟩, { num := 9, gate := some 5, words := [qword 1 0 4] }, by decide⟩,
   ⟨ticking { having (working worker) [(F.QUE_W_CFG_SID 9, 100)] with queues := [{ num := 9, words := List.replicate 16 (qword 1 0 4) }] } 10, 100, [⟨7, 0⟩], by decide⟩,
   ⟨ticking { having (working ({ hoist5 with since := 2, w := 12 })) [(F.QUE_W_CFG_SID 2, 100)] with queues := [{ num := 2, gate := some 10, words := [qword 7 0 10, qword 10 0x18 10] }] } 12, 3, { hoist5 with since := 2, w := 12 }, 2, 10, { num := 2, gate := some 10, words := [qword 7 0 10, qword 10 0x18 10] }, by decide⟩,
   ⟨ticking { having (working ({ hoist5 with since := 2, w := 12 })) [(F.QUE_W_CFG_SID 2, 100)] with queues := [{ num := 2, gate := some 10, words := [] }] } 12, 3, { hoist5 with since := 2, w := 12 }, 2, 10, { num := 2, gate := some 10, words := [] }, entry 3 (words5 ++ [2 ^ 15 + 1 + (2 ^ 15 + 2) * 2 ^ 16 + (2 ^ 15 + 3) * 2 ^ 32 + (2 ^ 15 + 4) * 2 ^ 48, 2 ^ 8]), by decide⟩,
   ⟨{ working worker with sampled := [16383] }, 16383, by decide⟩⟩

theorem witness_WorkTicksStartClean :
    (∃ s : State, ∃ k : Fin 1536, ∃ h : Hoist, s.InTables ∧ s.hoist k.val = some h ∧ h.ready = false ∧ h.halted = false
        ∧ h.suspended = false ∧ s.joinHold = false ∧ h.w + 2 ≤ s.tick ∧ h.members ≠ []
        ∧ (s.frozen = false ∨ h.members.all s.resident = true)) :=
  ⟨ticking (working ({ worker with ready := false, scratch := [1], outBits := 2, stack := [4] })) 12, 5,
      { worker with ready := false, scratch := [1], outBits := 2, stack := [4] }, by decide⟩

theorem witness_ReleaseQueuesKeepRoomForMarkers :
    (∃ s : State, ∃ q : Nat, ∃ e : Queue, ∃ w : TWord, ∃ arr : Nat, s.queue q = some e
        ∧ s.cfg (F.QUE_W_CFG_READER q) = Reader.release)
    ∧ (∃ s : State, ∃ q : Nat, ∃ e : Queue, ∃ w : TWord, ∃ arr : Nat, s.queue q = some e
        ∧ s.cfg (F.QUE_W_CFG_READER q) = Reader.release ∧ (s.push q w arr).1 = false)
    ∧ (∃ s : State, ∃ q : Nat, ∃ e : Queue, ∃ w : TWord, ∃ arr : Nat, s.queue q = some e
        ∧ s.cfg (F.QUE_W_CFG_READER q) = Reader.release ∧ (s.push q w arr).1 = true) :=
  ⟨⟨working worker, 2, { num := 2, gate := some 10 }, ⟨5, 0x0⟩, 10, by decide⟩,
   ⟨{ working worker with queues := [{ num := 2, words := List.replicate 16 (qword 1 0 9) }] }, 2,
       { num := 2, words := List.replicate 16 (qword 1 0 9) }, ⟨5, 0⟩, 10, by decide⟩,
   ⟨working worker, 2, { num := 2, gate := some 10 }, ⟨5, 0x0⟩, 10, by decide⟩⟩

theorem witness_InterruptPinsFollowPendingSources :
    (∃ c : Instr, ∃ s : State, ∃ t : State, exec c s = .next t) :=
  ⟨Instr.threadReady 0, State.reset, _, rfl⟩

theorem witness_RegisterReadsChangeNothing :
    (∃ s : State, ∃ a : Access, a.write = false ∧ s.readsRegister a = true)
    ∧ (∃ s : State, ∃ a : Access, a.write = false ∧ s.readsRegister (Access.through a 1) = true)
    ∧ (∃ s : State, ∃ a : Access, a.write = false ∧ s.readsRegister (Access.through a 2) = true)
    ∧ (∃ s : State, ∃ a : Access, a.write = false ∧ s.readsRegister (Access.through a 3) = true) :=
  ⟨⟨State.reset, { addr := BitVec.ofNat 27 0x200000, bytes := 4, be := 15, write := false, master := 0, value := 0 }, by decide⟩,
   ⟨State.reset, { addr := BitVec.ofNat 27 0x200000 + 2 ^ 18, bytes := 4, be := 15, write := false, master := 0, value := 0 },
       by decide⟩,
   ⟨State.reset, { addr := BitVec.ofNat 27 0x200000 + 2 * 2 ^ 18, bytes := 4, be := 15, write := false, master := 0, value := 0 }, by decide⟩,
   ⟨State.reset, { addr := BitVec.ofNat 27 0x200000 + 3 * 2 ^ 18, bytes := 4, be := 15, write := false, master := 0, value := 0 }, by decide⟩⟩

theorem witness_EnableWritesStoreTheirBit :
    (∃ s : State, ∃ n : Fin 8, ∃ v : Reg, s.InTables ∧ s.TakesWrite (R.TILE_CTRL n.val) v)
    ∧ (∃ s : State, ∃ l : Fin 16, ∃ v : Reg, s.InTables ∧ s.TakesWrite (R.LIN_LANE_CFG l.val) v)
    ∧ (∃ s : State, ∃ n : Fin 256, ∃ v : Reg, s.InTables ∧ s.TakesWrite (R.CK_CFG n.val) v)
    ∧ (∃ s : State, ∃ n : Fin 16, ∃ v : Reg, s.InTables ∧ s.TakesWrite (R.VOX_VP_CFG n.val) v)
    ∧ (∃ s : State, ∃ n : Fin 4096, ∃ v : Reg, s.InTables ∧ s.TakesWrite (R.PRT_SEL_CFG n.val) v)
    ∧ (∃ s : State, ∃ p : Fin 2, ∃ v : Reg, s.InTables ∧ s.TakesWrite (R.HAL_H_CFG p.val) v)
    ∧ (∃ s : State, ∃ v : Reg, s.InTables ∧ s.TakesWrite R.EVT_CTRL v)
    ∧ (∃ s : State, ∃ k : Fin 512, ∃ v : Reg, s.InTables ∧ s.TakesWrite (R.REC_SRC_CFG k.val) v)
    ∧ (∃ s : State, ∃ v : Reg, s.InTables ∧ s.TakesWrite R.TAL_TAG_CFG v)
    ∧ (∃ s : State, ∃ v : Reg, s.InTables ∧ s.TakesWrite (R.QUE_W_CFG s.shown) v) :=
  ⟨⟨State.reset, 7, 1, by decide +kernel⟩,
   ⟨State.reset, 15, plus (R.LIN_LANE_CFG 15) 1, by decide +kernel⟩,
   ⟨dev [(F.PWR_DOM_STATUS_STATE 156, 2)], 0, plus (R.CK_CFG 0) 1, by decide⟩,
   ⟨dev [(F.PWR_DOM_STATUS_STATE 152, 2)], 3, plus (R.VOX_VP_CFG 3) 1, by decide⟩,
   ⟨{ having serving [(F.PRT_SEL_MEMB_W_CHAN 9, 3), (F.PRT_SEL_MEMB_P_CHAN 9, 4), (F.PRT_SEL_OUT_OUT_SID 9, 100), (F.QUE_W_CFG_READER 2, 1), (F.QUE_W_CFG_SID 2, 100)] with ctx := [entry 3 (words5 ++ [(2 ^ 15 + 2) * 2 ^ 16, 0]), entry 4 (words5 ++ [(2 ^ 15 + 2) * 2 ^ 16, 0])] }, 9, plus (R.PRT_SEL_CFG 9) 1, by decide⟩,
   ⟨State.reset, 1, 1, by decide⟩,
   ⟨State.reset, plus R.EVT_CTRL 1, by decide⟩,
   ⟨having { State.reset with queues := [{ num := 6 }] } [(F.REC_SRC_CFG_QUEUE 7, 6), (F.QUE_W_CFG_READER 6, 2)], 7,
       6 * 2 ^ 11 + 1, by decide⟩,
   ⟨State.reset, plus R.TAL_TAG_CFG 1, by decide⟩,
   ⟨dev [(F.QUE_SEL_QUEUE, 32767)], plus (R.QUE_W_CFG 32767) 1, by decide⟩⟩

theorem witness_EnablesStartTheirRecords :
    (∃ s : State, ∃ n : Fin 8, ∃ v : Reg, s.InTables ∧ s.HostActs ∧ v.getLsbD 0 = false
        ∧ s.bit (F.TILE_CTRL_ENABLE n.val) = true ∧ (∃ h ∈ s.hoists, h.num / 192 = n.val ∨ h.at_ / 192 = n.val))
    ∧ (∃ s : State, ∃ l : Fin 16, ∃ v : Reg, s.InTables ∧ s.Turns (R.LIN_LANE_CFG l.val) (F.LIN_LANE_CFG_ENABLE l.val) v true)
    ∧ (∃ s : State, ∃ l : Fin 16, ∃ v : Reg, s.InTables ∧ s.Turns (R.LIN_LANE_CFG l.val) (F.LIN_LANE_CFG_ENABLE l.val) v false)
    ∧ (∃ s : State, ∃ n : Fin 256, ∃ v : Reg, s.InTables ∧ s.Turns (R.CK_CFG n.val) (F.CK_CFG_ENABLE n.val) v true)
    ∧ (∃ s : State, ∃ n : Fin 256, ∃ v : Reg, s.InTables ∧ s.Turns (R.CK_CFG n.val) (F.CK_CFG_ENABLE n.val) v false)
    ∧ (∃ s : State, ∃ n : Fin 16, ∃ v : Reg, s.InTables ∧ s.Turns (R.VOX_VP_CFG n.val) (F.VOX_VP_CFG_ENABLE n.val) v true)
    ∧ (∃ s : State, ∃ n : Fin 16, ∃ v : Reg, s.InTables ∧ s.Turns (R.VOX_VP_CFG n.val) (F.VOX_VP_CFG_ENABLE n.val) v false
        ∧ s.vpState n.val ≠ VpSt.off)
    ∧ (∃ s : State, ∃ n : Fin 4096, ∃ v : Reg, s.InTables ∧ s.Turns (R.PRT_SEL_CFG n.val) (F.PRT_SEL_CFG_ENABLE n.val) v true
        ∧ s.selOf n.val = none)
    ∧ (∃ s : State, ∃ n : Fin 4096, ∃ v : Reg, s.InTables ∧ s.Turns (R.PRT_SEL_CFG n.val) (F.PRT_SEL_CFG_ENABLE n.val) v false)
    ∧ (∃ s : State, ∃ v : Reg, s.InTables ∧ s.Turns R.EVT_CTRL F.EVT_CTRL_ENABLE v true)
    ∧ (∃ s : State, ∃ v : Reg, s.InTables ∧ s.Turns R.EVT_CTRL F.EVT_CTRL_ENABLE v false)
    ∧ (∃ s : State, ∃ k : Fin 512, ∃ v : Reg, s.InTables ∧ s.Turns (R.REC_SRC_CFG k.val) (F.REC_SRC_CFG_EN k.val) v false)
    ∧ (∃ s : State, ∃ v : Reg, s.InTables ∧ s.Turns R.TAL_TAG_CFG F.TAL_TAG_CFG_TAG_EN v true)
    ∧ (∃ s : State, ∃ v : Reg, s.InTables ∧ s.Turns R.TAL_TAG_CFG F.TAL_TAG_CFG_TAG_EN v false) :=
  ⟨⟨{ dev [(F.TILE_CTRL_ENABLE 0, 1)] with hoists := [hoist5] }, 0, 0, by decide⟩,
   ⟨State.reset, 15, plus (R.LIN_LANE_CFG 15) 1, by decide +kernel⟩,
   ⟨dev [(F.LIN_LANE_CFG_ENABLE 3, 1)], 3, plus (R.LIN_LANE_CFG 3) 0, by decide⟩,
   ⟨dev [(F.PWR_DOM_STATUS_STATE 156, 2)], 0, plus (R.CK_CFG 0) 1, by decide⟩,
   ⟨dev [(F.PWR_DOM_STATUS_STATE 156, 2), (F.CK_CFG_ENABLE 5, 1)], 5, plus (R.CK_CFG 5) 0, by decide⟩,
   ⟨dev [(F.PWR_DOM_STATUS_STATE 152, 2)], 3, plus (R.VOX_VP_CFG 3) 1, by decide⟩,
   ⟨{ dev [(F.PWR_DOM_STATUS_STATE 152, 2), (F.VOX_VP_CFG_ENABLE 3, 1), (F.VOX_VP_STATUS_STATE 3, 2)] with vox := { ports := [{ num := 3 }] } }, 3, plus (R.VOX_VP_CFG 3) 0, by decide⟩,
   ⟨{ having serving [(F.PRT_SEL_MEMB_W_CHAN 9, 3), (F.PRT_SEL_MEMB_P_CHAN 9, 4), (F.PRT_SEL_OUT_OUT_SID 9, 100), (F.QUE_W_CFG_READER 2, 1), (F.QUE_W_CFG_SID 2, 100)] with ctx := [entry 3 (words5 ++ [(2 ^ 15 + 2) * 2 ^ 16, 0]), entry 4 (words5 ++ [(2 ^ 15 + 2) * 2 ^ 16, 0])] }, 9, plus (R.PRT_SEL_CFG 9) 1, by decide⟩,
   ⟨{ having serving [(F.PRT_SEL_MEMB_W_CHAN 9, 3), (F.PRT_SEL_MEMB_P_CHAN 9, 4), (F.PRT_SEL_OUT_OUT_SID 9, 100), (F.QUE_W_CFG_READER 2, 1), (F.QUE_W_CFG_SID 2, 100), (F.PRT_SEL_CFG_ENABLE 9, 1)] with ctx := [entry 3 (words5 ++ [(2 ^ 15 + 2) * 2 ^ 16, 0]), entry 4 (words5 ++ [(2 ^ 15 + 2) * 2 ^ 16, 0])], sels := [{ num := 9 }] }, 9, plus (R.PRT_SEL_CFG 9) 0, by decide⟩,
   ⟨State.reset, plus R.EVT_CTRL 1, by decide⟩,
   ⟨dev [(F.EVT_CTRL_ENABLE, 1)], plus R.EVT_CTRL 0, by decide⟩,
   ⟨having { State.reset with queues := [{ num := 6 }] } [(F.REC_SRC_CFG_QUEUE 7, 6), (F.QUE_W_CFG_READER 6, 2),
       (F.REC_SRC_CFG_EN 7, 1)], 7, 6 * 2 ^ 11, by decide⟩,
   ⟨State.reset, plus R.TAL_TAG_CFG 1, by decide⟩,
   ⟨dev [(F.TAL_TAG_CFG_TAG_EN, 1)], plus R.TAL_TAG_CFG 0, by decide⟩⟩

theorem witness_CommandBitsAct :
    (∃ s : State, ∃ v : Reg, s.InTables ∧ s.TakesWrite R.CTX_RD_SEL v ∧ v.getLsbD 31 = true)
    ∧ (∃ s : State, ∃ n : Fin 256, ∃ v : Reg, s.InTables ∧ s.HostActs ∧ s.ckRunRefused n.val = false)
    ∧ (∃ s : State, ∃ n : Fin 256, ∃ v : Reg, s.InTables ∧ s.HostActs ∧ s.ckRunRefused n.val = true)
    ∧ (∃ s : State, ∃ n : Fin 256, ∃ v : Reg, s.InTables ∧ s.TakesWrite (R.CK_SWAP_CTRL n.val) v ∧ v.getLsbD 0 = true)
    ∧ (∃ s : State, ∃ n : Fin 16, ∃ v : Reg, ∃ p : Vp, s.InTables ∧ s.TakesWrite (R.VOX_VP_CTRL n.val) v ∧ v.getLsbD 0 = true
        ∧ v.getLsbD 1 = false ∧ s.vp n.val = some p ∧ s.vpState n.val = VpSt.provisional ∧ s.vpClear n.val = true)
    ∧ (∃ s : State, ∃ n : Fin 16, ∃ v : Reg, s.InTables ∧ s.TakesWrite (R.VOX_VP_CTRL n.val) v ∧ v.getLsbD 0 = true
        ∧ v.getLsbD 1 = false ∧ (s.vpState n.val ≠ VpSt.provisional ∨ s.vpClear n.val = false))
    ∧ (∃ s : State, ∃ n : Fin 16, ∃ v : Reg, ∃ p : Vp, s.InTables ∧ s.TakesWrite (R.VOX_VP_CTRL n.val) v ∧ v.getLsbD 0 = false
        ∧ v.getLsbD 1 = true ∧ s.vp n.val = some p ∧ (s.vpState n.val = VpSt.provisional ∨ s.vpState n.val = VpSt.inService))
    ∧ (∃ s : State, ∃ k : Fin 64, ∃ v : Reg, s.InTables ∧ s.TakesWrite (R.LIN_DISC_CTRL k.val) v ∧ v.getLsbD 1 = true
        ∧ s.get (F.LIN_DISC_STATE_STATE k.val) = Disc.lost)
    ∧ (∃ s : State, ∃ k : Fin 64, ∃ v : Reg, s.InTables ∧ s.TakesWrite (R.LIN_DISC_CTRL k.val) v ∧ v.getLsbD 1 = true
        ∧ s.get (F.LIN_DISC_STATE_STATE k.val) ≠ Disc.lost)
    ∧ (∃ s : State, ∃ v : Reg, s.InTables ∧ s.TakesWrite R.HAL_CTRL v ∧ v.getLsbD 0 = true)
    ∧ (∃ s : State, ∃ w : Fin 8, ∃ v : Reg, s.InTables ∧ s.TakesWrite (R.EVT_ARM w.val) v) :=
  ⟨⟨serving, 2 ^ 31 + 3, by decide⟩,
   ⟨State.reset, 255, 5, by decide⟩,
   ⟨dev [(F.CK_CFG_ENABLE 255, 1), (F.CK_CFG_MODE 255, 1)], 255, 5, by decide⟩,
   ⟨dev [(F.CK_CFG_ENABLE 255, 1), (F.CK_CFG_MODE 255, 1), (F.CK_SWAP 255, 99), (F.CK_RUN 255, 7)], 255, 1, by decide⟩,
   ⟨{ dev [(F.PWR_DOM_STATUS_STATE 152, 2), (F.VOX_VP_CFG_ENABLE 3, 1), (F.VOX_VP_STATUS_STATE 3, 1), (F.VOX_VP_CFG_MASTER 3, 1)] with vox := { ports := [{ num := 3 }] } }, 3, 1, { num := 3 }, by decide⟩,
   ⟨{ dev [(F.PWR_DOM_STATUS_STATE 152, 2), (F.VOX_VP_CFG_ENABLE 3, 1), (F.VOX_VP_STATUS_STATE 3, 1)] with vox := { ports := [{ num := 3 }] } }, 3, 1, by decide⟩,
   ⟨{ dev [(F.PWR_DOM_STATUS_STATE 152, 2), (F.VOX_VP_CFG_ENABLE 3, 1), (F.VOX_VP_STATUS_STATE 3, 1)] with vox := { ports := [{ num := 3 }] } }, 3, 2, { num := 3 }, by decide⟩,
   ⟨dev [(F.LIN_DISC_STATE_STATE 63, 3)], 63, 2, by decide⟩,
   ⟨dev [(F.LIN_DISC_STATE_STATE 63, 2)], 63, 2, by decide⟩,
   ⟨dev [(F.HAL_STATE_STATE, 2)], 1, by decide⟩,
   ⟨dev [(F.EVT_ARM 7, 12)], 7, 3, by decide⟩⟩

theorem witness_QueuesEnableFlushAndClear :
    (∃ s : State, ∃ v : Reg, s.InTables ∧ s.Turns (R.QUE_W_CFG s.shown) (F.QUE_W_CFG_ENABLE s.shown) v true
        ∧ s.queue s.shown = none)
    ∧ (∃ s : State, ∃ v : Reg, s.InTables ∧ s.Turns (R.QUE_W_CFG s.shown) (F.QUE_W_CFG_ENABLE s.shown) v false)
    ∧ (∃ s : State, ∃ v : Reg, s.InTables ∧ s.HostActs ∧ s.bit (F.QUE_W_CFG_ENABLE s.shown) = true ∧ v.getLsbD 0 = false
        ∧ s.queDisableRefused s.shown = true)
    ∧ (∃ s : State, ∃ v : Reg, ∃ e : Queue, s.InTables ∧ s.TakesWrite (R.QUE_W_CTRL s.shown) v ∧ v.getLsbD 0 = true
        ∧ s.queue s.shown = some e ∧ e.flush = none ∧ e.flushWords = none)
    ∧ (∃ s : State, ∃ q : Fin 32768, ∃ e : Queue, ∃ n : Nat, s.InTables ∧ s.queue q.val = some e ∧ e.flushWords = some n)
    ∧ (∃ s : State, ∃ q : Fin 32768, ∃ e : Queue, s.InTables ∧ s.queue q.val = some e ∧ e.flushWords = none)
    ∧ (∃ s : State, ∃ v : Reg, s.InTables ∧ s.TakesWrite (R.QUE_W_STICKY s.shown) v)
    ∧ (∃ s : State, ∃ k : Fin 1024, ∃ v : Reg, s.InTables ∧ s.TakesWrite (R.QUE_WM k.val) v) :=
  ⟨⟨dev [(F.QUE_SEL_QUEUE, 32767)], plus (R.QUE_W_CFG 32767) 1, by decide⟩,
   ⟨{ dev [(F.QUE_SEL_QUEUE, 6), (F.QUE_W_CFG_ENABLE 6, 1)] with queues := [{ num := 6 }] }, plus (R.QUE_W_CFG 6) 0, by decide⟩,
   ⟨{ dev [(F.QUE_SEL_QUEUE, 6), (F.QUE_W_CFG_ENABLE 6, 1)] with queues := [{ num := 6 }], hoists := [hoist5], ctx := [entry 3 (words5 ++ [2 ^ 15 + 6])] }, 0, by decide⟩,
   ⟨{ dev [(F.QUE_SEL_QUEUE, 6), (F.QUE_W_CFG_ENABLE 6, 1)] with queues := [{ num := 6, words := [qword 1 2 3] }] }, 1,
       { num := 6, words := [qword 1 2 3] }, by decide⟩,
   ⟨{ dev [(F.QUE_SEL_QUEUE, 6), (F.QUE_W_CFG_ENABLE 6, 1)] with queues := [{ num := 6, words := [qword 1 2 3, qword 1 2 4], bit := 4, flushWords := some 1 }] }, 6, { num := 6, words := [qword 1 2 3, qword 1 2 4], bit := 4, flushWords := some 1 }, 1, by decide⟩,
   ⟨{ dev [(F.QUE_SEL_QUEUE, 6), (F.QUE_W_CFG_ENABLE 6, 1)] with queues := [{ num := 6 }] }, 6, { num := 6 }, by decide⟩,
   ⟨dev [(F.QUE_SEL_QUEUE, 6), (F.QUE_W_STICKY_HI_SEEN 6, 1), (F.QUE_W_STICKY_HI_COUNT 6, 5), (F.QUE_WM 0, 64)], 7, by decide⟩,
   ⟨dev [(F.QUE_SEL_QUEUE, 6), (F.QUE_W_STICKY_HI_SEEN 6, 1), (F.QUE_W_STICKY_HI_COUNT 6, 5), (F.QUE_WM 0, 64)], 0, 0xFFFFFFFF,
       by decide⟩⟩

theorem witness_LineConditionsStandAndClear :
    (∃ s : State, ∃ l : Fin 16, s.InTables ∧ s.laneOn l.val = true)
    ∧ (∃ s : State, ∃ l : Fin 16, ∃ c ∈ [Instr.laneSignalLoss l, .laneLockLoss l, .laneLockRegain l], s.InTables
        ∧ s.laneOn l.val = false)
    ∧ (∃ s : State, ∃ d : Fin 32, s.InTables ∧ s.dpWatched d.val = true ∧ s.stands (srcDp d.val) Sw.clkFail = false)
    ∧ (∃ s : State, ∃ d : Fin 32, s.InTables ∧ s.dpWatched d.val = true)
    ∧ (∃ s : State, ∃ d : Fin 32, ∃ edges : Nat, s.InTables ∧ s.dpWatched d.val = true
        ∧ s.stands (srcDp d.val) Sw.clkFail = false)
    ∧ (∃ s : State, ∃ d : Fin 32, ∃ edges : Nat, ∃ c ∈ [Instr.dpClockStop d, .dpClockReturn d, .dpClockGlitch d,
        .dpRateWindow d edges], s.InTables ∧ s.dpWatched d.val = false)
    ∧ (∃ s : State, ∃ l : Fin 16, s.InTables ∧ s.txOn l.val = true)
    ∧ (∃ s : State, ∃ d : Fin 32, s.InTables ∧ s.txOn (srcDp d.val) = true)
    ∧ (∃ s : State, ∃ p : TxPort, ∃ c ∈ [Instr.txUnderrun p, .txOverrun p], s.InTables ∧ s.txOn (txNum p) = false) :=
  ⟨⟨dev [(F.LIN_LANE_CFG_ENABLE 15, 1)], 15, by decide⟩,
   ⟨State.reset, 15, Instr.laneSignalLoss 15, by decide, by decide⟩,
   ⟨dev [(F.LIN_DP_CFG_ENABLE 31, 1)], 31, by decide⟩,
   ⟨dev [(F.LIN_DP_CFG_ENABLE 31, 1)], 31, by decide⟩,
   ⟨dev [(F.LIN_DP_CFG_ENABLE 31, 1)], 31, 4000, by decide⟩,
   ⟨State.reset, 31, 7, Instr.dpClockStop 31, by decide, by decide⟩,
   ⟨dev [(F.LIN_LANE_CFG_ENABLE 15, 1), (F.LIN_LANE_CFG_TX_EN 15, 1)], 15, by decide⟩,
   ⟨dev [(F.LIN_DP_CFG_ENABLE 31, 1), (F.LIN_DP_CFG_TX_EN 31, 1)], 31, by decide⟩,
   ⟨State.reset, .lane 15, Instr.txUnderrun (.lane 15), by decide, by decide⟩⟩

theorem witness_FramesAndBundlesMove :
    (∃ s : State, ∃ l : Fin 16, ∃ body : List Byte, ∃ m : Nat, ∃ e : Queue, s.InTables ∧ m = s.macLane l.val
        ∧ s.laneOn m = true ∧ isEth (s.laneMode m) = true ∧ s.stands m Sw.clkFail = false ∧ s.ftcState ≠ Ftc.disabled
        ∧ s.cfg (F.LIN_LANE_CFG_LOOPBACK m) ≠ 1 ∧ s.ledgerMode = false ∧ s.lin.logging = false ∧ 14 ≤ body.length
        ∧ body.length + 4 ≤ s.cfg (F.LIN_LANE_CFG_MAX_LEN m) ∧ beNat ((body.drop 12).take 2) ∉ [0x8100, 0x8808,
        s.cfg F.LIN_DISC_CFG_ETYPE] ∧ s.on (F.LIN_LANE_CFG_UNTAGGED_EN m) = true
        ∧ s.cfg F.MAP_PW_CLASS_SID ≠ s.cfg (F.LIN_LANE_SID_SID m) ∧ (s.queues.map (·.num)).Nodup ∧ e ∈ s.queues
        ∧ s.on (F.QUE_W_CFG_WRITER e.num) = false ∧ s.cfg (F.QUE_W_CFG_SID e.num) = s.cfg (F.LIN_LANE_SID_SID m)
        ∧ e.accept ≤ s.tick ∧ e.flush = none ∧ s.cfg (F.QUE_W_CFG_READER e.num) ≠ Reader.release
        ∧ e.words.length + (body.length + 7) / 8 ≤ s.capacity e.num)
    ∧ (∃ s : State, ∃ l : Fin 16, ∃ f : List Byte, ∃ m : Nat, s.InTables ∧ m = s.macLane l.val ∧ s.laneOn m = true
        ∧ isEth (s.laneMode m) = true ∧ s.stands m Sw.clkFail = false ∧ s.ftcState ≠ Ftc.disabled
        ∧ s.cfg (F.LIN_LANE_CFG_LOOPBACK m) ≠ 1 ∧ s.ledgerMode = false
        ∧ (f.length < 18 ∨ s.cfg (F.LIN_LANE_CFG_MAX_LEN m) < f.length ∨ crc32 (f.take (f.length - 4)) ≠ leNat (f.drop (f.length - 4))))
    ∧ (∃ s : State, ∃ l : Fin 16, ∃ f : List Byte, s.InTables ∧ s.laneOn (s.macLane l.val) = false)
    ∧ (∃ s : State, ∃ b : Fin 8, ∃ f : List Byte, s.InTables ∧ s.on (F.LIN_BUND_CFG_ENABLE b.val) = true
        ∧ s.ftcState ≠ Ftc.disabled ∧ s.ledgerMode = false ∧ f.take 6 ≠ [0xB8, 0xB8, 0xB8, 0x47, 0x47, 0x47])
    ∧ (∃ s : State, ∃ b : Fin 8, ∃ f : List Byte, s.InTables ∧ s.on (F.LIN_BUND_CFG_ENABLE b.val) = true
        ∧ s.ftcState ≠ Ftc.disabled ∧ s.ledgerMode = false ∧ f.take 6 = [0xB8, 0xB8, 0xB8, 0x47, 0x47, 0x47]
        ∧ 1 ≤ (s.bund b.val).good ∧ s.bit (F.LIN_BUND_STATUS_IN_FRAME b.val) = false)
    ∧ (∃ s : State, ∃ b : Fin 8, ∃ status : Byte, ∃ mgmt : List Byte, ∃ slots : List (List Bool), s.InTables
        ∧ s.txOn (48 + b.val) = true)
    ∧ (∃ s : State, ∃ b : Fin 8, ∃ status : Byte, ∃ mgmt : List Byte, ∃ slots : List (List Bool), s.InTables
        ∧ s.txOn (48 + b.val) = false) :=
  ⟨⟨{ dev [(F.LIN_LANE_CFG_ENABLE 15, 1), (F.LIN_LANE_CFG_MODE 15, 7), (F.LIN_LANE_SID_SID 15, 100), (F.LIN_LANE_CFG_UNTAGGED_EN 15, 1), (F.QUE_W_CFG_SID 9, 100), (F.CLK_STATUS_FTC_STATE, 1)] with queues := [{ num := 9, words := [qword 1 0 4] }], clk := { tick := 10 } }, 15, frameBody 0, 15, { num := 9, words := [qword 1 0 4] }, by decide⟩,
   ⟨{ dev [(F.LIN_LANE_CFG_ENABLE 15, 1), (F.LIN_LANE_CFG_MODE 15, 7), (F.LIN_LANE_SID_SID 15, 100), (F.LIN_LANE_CFG_UNTAGGED_EN 15, 1), (F.QUE_W_CFG_SID 9, 100), (F.CLK_STATUS_FTC_STATE, 1)] with queues := [{ num := 9, words := [qword 1 0 4] }], clk := { tick := 10 } }, 15, bundHead, 15, by decide⟩,
   ⟨State.reset, 15, bundHead, by decide⟩,
   ⟨dev [(F.LIN_BUND_CFG_ENABLE 7, 1), (F.CLK_STATUS_FTC_STATE, 1)], 7, [1], by decide⟩,
   ⟨{ dev [(F.LIN_BUND_CFG_ENABLE 7, 1), (F.CLK_STATUS_FTC_STATE, 1)] with lin := { bunds := [{ num := 7, good := 1 }] } }, 7,
       bundHead, by decide⟩,
   ⟨dev [(F.LIN_BUND_CFG_ENABLE 7, 1), (F.LIN_BUND_CFG_TX_EN 7, 1), (F.LIN_BTRIB_EN 7 125, 1), (F.LIN_BTRIB_EN 7 0, 1)], 7,
       0x55, [1, 2, 3], [], by decide⟩,
   ⟨State.reset, 7, 0x55, [], [], by decide⟩⟩

theorem witness_ServiceWordsAndPassThrough :
    (∃ s : State, ∃ w : Word, ∃ l : Nat, ∃ n : Nat, ∃ pos : Nat, s.InTables ∧ s.on F.DEF_CTRL_ENABLE = true
        ∧ s.laneOfSid (bitsOf w.toNat 16 14) = some l ∧ tickOf s.tick (bitsOf w.toNat 0 16) = some n
        ∧ frameBits (s.laneMode l) ≠ 0 ∧ bitsOf w.toNat 54 6 = 0 ∧ s.svcLater l 16384 = false
        ∧ (s.src l).starts.find? (·.1 = n) = some (n, pos) ∧ bitsOf w.toNat 60 4 = 1)
    ∧ (∃ s : State, ∃ w : Word, ∃ l : Nat, ∃ n : Nat, ∃ pos : Nat, s.InTables ∧ s.on F.DEF_CTRL_ENABLE = true
        ∧ s.laneOfSid (bitsOf w.toNat 16 14) = some l ∧ tickOf s.tick (bitsOf w.toNat 0 16) = some n
        ∧ frameBits (s.laneMode l) ≠ 0 ∧ bitsOf w.toNat 54 6 = 0 ∧ s.svcLater l 16384 = false
        ∧ (s.src l).starts.find? (·.1 = n) = some (n, pos) ∧ bitsOf w.toNat 60 4 = 2)
    ∧ (∃ s : State, ∃ w : Word, s.InTables ∧ s.on F.DEF_CTRL_ENABLE = true
        ∧ (s.laneOfSid (bitsOf w.toNat 16 14) = none ∨ tickOf s.tick (bitsOf w.toNat 0 16) = none ∨ bitsOf w.toNat 54 6 ≠ 0)
        ∧ bitsOf w.toNat 60 4 = 1)
    ∧ (∃ s : State, ∃ w : Word, s.InTables ∧ s.on F.DEF_CTRL_ENABLE = true
        ∧ (s.laneOfSid (bitsOf w.toNat 16 14) = none ∨ tickOf s.tick (bitsOf w.toNat 0 16) = none ∨ bitsOf w.toNat 54 6 ≠ 0)
        ∧ bitsOf w.toNat 60 4 = 2)
    ∧ (∃ s : State, ∃ w : Word, s.InTables ∧ s.on F.DEF_CTRL_ENABLE = false ∧ bitsOf w.toNat 60 4 = 1)
    ∧ (∃ s : State, ∃ w : Word, s.InTables ∧ s.on F.DEF_CTRL_ENABLE = false ∧ bitsOf w.toNat 60 4 = 2)
    ∧ (∃ s : State, ∃ w : Word, ∃ d : Nat, s.InTables ∧ d = bitsOf w.toNat 54 5 ∧ s.on F.MAP_CTRL_ENABLE = true
        ∧ bitsOf w.toNat 60 4 = 1 ∧ bitOf w.toNat 59 = false ∧ bitsOf w.toNat 29 25 = 0 ∧ s.cfg (F.LIN_DP_CFG_TXCLK d) = 1
        ∧ s.svcLater (srcDp d) 16384 = false)
    ∧ (∃ s : State, ∃ w : Word, s.InTables ∧ s.on F.MAP_CTRL_ENABLE = true
        ∧ (bitsOf w.toNat 60 4 ≠ 1 ∨ bitOf w.toNat 59 = true ∨ bitsOf w.toNat 29 25 ≠ 0 ∨ s.cfg (F.LIN_DP_CFG_TXCLK (bitsOf w.toNat 54 5)) ≠ 1))
    ∧ (∃ s : State, ∃ n : Fin 1024, s.InTables ∧ (∀ p ∈ s.map.pass, p.slot = n.val → p.entry ≠ s.xcEntry n.val)
        ∧ xcPt (s.xcEntry n.val) = true)
    ∧ (∃ s : State, ∃ n : Fin 1024, s.InTables ∧ (∀ p ∈ s.map.pass, p.slot = n.val → p.entry ≠ s.xcEntry n.val)
        ∧ xcPt (s.xcEntry n.val) = false)
    ∧ (∃ s : State, ∃ n : Fin 1024, ∃ p : Pass, s.InTables ∧ p ∈ s.map.pass ∧ p.slot = n.val)
    ∧ (∃ s : State, ∃ n : Fin 1024, ∃ a : PtAdjust, s.InTables ∧ (∀ p ∈ s.map.pass, p.slot ≠ n.val)) :=
  ⟨⟨{ dev [(F.DEF_CTRL_ENABLE, 1), (F.LIN_LANE_CFG_ENABLE 5, 1), (F.LIN_LANE_CFG_MODE 5, 1), (F.LIN_LANE_SID_SID 5, 100)] with clk := { tick := 12 }, lin := { srcs := [{ num := 5, starts := [(12, 90), (11, 40), (10, 3)] }] } }, BitVec.ofNat 64 0x100000134064000b, 5, 11, 40, by decide⟩,
   ⟨{ dev [(F.DEF_CTRL_ENABLE, 1), (F.LIN_LANE_CFG_ENABLE 5, 1), (F.LIN_LANE_CFG_MODE 5, 1), (F.LIN_LANE_SID_SID 5, 100)] with clk := { tick := 12 }, lin := { srcs := [{ num := 5, starts := [(12, 90), (11, 40), (10, 3)] }] } }, BitVec.ofNat 64 0x200000134064000b, 5, 11, 40, by decide⟩,
   ⟨{ dev [(F.DEF_CTRL_ENABLE, 1), (F.LIN_LANE_CFG_ENABLE 5, 1), (F.LIN_LANE_CFG_MODE 5, 1), (F.LIN_LANE_SID_SID 5, 100)] with clk := { tick := 12 }, lin := { srcs := [{ num := 5, starts := [(12, 90), (11, 40), (10, 3)] }] } }, BitVec.ofNat 64 0x100000134065000b, by decide⟩,
   ⟨{ dev [(F.DEF_CTRL_ENABLE, 1), (F.LIN_LANE_CFG_ENABLE 5, 1), (F.LIN_LANE_CFG_MODE 5, 1), (F.LIN_LANE_SID_SID 5, 100)] with clk := { tick := 12 }, lin := { srcs := [{ num := 5, starts := [(12, 90), (11, 40), (10, 3)] }] } }, BitVec.ofNat 64 0x200000134065000b, by decide⟩,
   ⟨State.reset, BitVec.ofNat 64 0x100000134064000b, by decide⟩,
   ⟨State.reset, BitVec.ofNat 64 0x200000134064000b, by decide⟩,
   ⟨dev [(F.MAP_CTRL_ENABLE, 1), (F.LIN_DP_CFG_TXCLK 31, 1)], BitVec.ofNat 64 0x17c0000000000000, 31, by decide⟩,
   ⟨dev [(F.MAP_CTRL_ENABLE, 1), (F.LIN_DP_CFG_TXCLK 31, 1)], BitVec.ofNat 64 0x27c0000000000005, by decide⟩,
   ⟨dev [(F.MAP_CTRL_ENABLE, 1), (F.LIN_LANE_CFG_ENABLE 2, 1), (F.LIN_LANE_CFG_MODE 2, 1), (F.LIN_LANE_CFG_ENABLE 3, 1),
       (F.LIN_LANE_CFG_MODE 3, 1), (F.MAP_XC_PT 128, 1), (F.MAP_XC_SRC_LANE 128, 3)], 128, by decide⟩,
   ⟨{ State.reset with map := { pass := [{ slot := 128, entry := 7 }, { slot := 1 }] } }, 128, by decide⟩,
   ⟨{ State.reset with map := { pass := [{ slot := 1023 }] } }, 1023, { slot := 1023 }, by decide⟩,
   ⟨State.reset, 1023, .inc, by decide⟩⟩

theorem witness_DiscoveryFollowsMessages :
    (∃ s : State, s.InTables ∧ s.cfg F.LIN_DISC_CFG_HAIL_PER ≤ s.lin.hail)
    ∧ (∃ s : State, s.InTables ∧ s.lin.hail < s.cfg F.LIN_DISC_CFG_HAIL_PER)
    ∧ (∃ s : State, ∃ k : Fin 64, ∃ m : DiscMsg, s.InTables ∧ s.on (F.LIN_DISC_CTRL_EN k.val) = true
        ∧ s.quarantined (.line k) = false ∧ m.bad = false ∧ (s.peer (.line k)).msgs < s.cfg (F.HAL_VIOL_CFG_RATE 0)
        ∧ m.w1.toNat ≠ s.burgee ∧ m.ty = 1
        ∧ (s.get (F.LIN_DISC_STATE_STATE k.val) = Disc.absent ∨ s.get (F.LIN_DISC_STATE_STATE k.val) = Disc.lost))
    ∧ (∃ s : State, ∃ k : Fin 64, ∃ m : DiscMsg, s.InTables ∧ s.on (F.LIN_DISC_CTRL_EN k.val) = true
        ∧ s.quarantined (.line k) = false ∧ m.bad = false ∧ (s.peer (.line k)).msgs < s.cfg (F.HAL_VIOL_CFG_RATE 0)
        ∧ m.w1.toNat ≠ s.burgee ∧ m.ty = 1 ∧ s.get (F.LIN_DISC_STATE_STATE k.val) = Disc.paired)
    ∧ (∃ s : State, ∃ k : Fin 64, ∃ m : DiscMsg, s.InTables ∧ s.on (F.LIN_DISC_CTRL_EN k.val) = true
        ∧ s.quarantined (.line k) = false ∧ m.bad = false ∧ (s.peer (.line k)).msgs < s.cfg (F.HAL_VIOL_CFG_RATE 0)
        ∧ m.w1.toNat ≠ s.burgee ∧ m.ty = 2 ∧ (s.disc k.val).seq = some m.echoSeq
        ∧ m.echoPort = s.cfg (F.LIN_DISC_CTRL_PORT k.val) ∧ s.get (F.LIN_DISC_STATE_STATE k.val) = Disc.seen)
    ∧ (∃ s : State, ∃ k : Fin 64, ∃ m : DiscMsg, s.InTables ∧ s.on (F.LIN_DISC_CTRL_EN k.val) = true
        ∧ s.quarantined (.line k) = false ∧ m.bad = false ∧ (s.peer (.line k)).msgs < s.cfg (F.HAL_VIOL_CFG_RATE 0)
        ∧ m.w1.toNat ≠ s.burgee ∧ m.ty = 2 ∧ s.discEchoes k.val m = false)
    ∧ (∃ s : State, ∃ k : Fin 64, ∃ m : DiscMsg, s.InTables ∧ s.on (F.LIN_DISC_CTRL_EN k.val) = true
        ∧ s.quarantined (.line k) = false ∧ m.bad = false ∧ (s.peer (.line k)).msgs < s.cfg (F.HAL_VIOL_CFG_RATE 0)
        ∧ m.w1.toNat ≠ s.burgee ∧ m.ty = 3 ∧ s.get (F.LIN_DISC_STATE_STATE k.val) = Disc.paired)
    ∧ (∃ s : State, ∃ k : Fin 64, ∃ m : DiscMsg, s.InTables ∧ s.on (F.LIN_DISC_CTRL_EN k.val) = true
        ∧ s.quarantined (.line k) = false ∧ m.bad = false ∧ (s.peer (.line k)).msgs < s.cfg (F.HAL_VIOL_CFG_RATE 0)
        ∧ m.w1.toNat ≠ s.burgee ∧ m.ty = 3 ∧ s.get (F.LIN_DISC_STATE_STATE k.val) ≠ Disc.paired)
    ∧ (∃ s : State, ∃ k : Fin 64, ∃ m : DiscMsg, ∃ c : Instr, s.InTables ∧ s.on (F.LIN_DISC_CTRL_EN k.val) = true
        ∧ s.quarantined (.line k) = false ∧ m.bad = true ∧ (c = .lineHail k m ∧ m.ty ≠ 2
        ∧ m.ty ≠ 3 ∨ c = .lineAnsweringPennant k m ∧ m.ty = 2 ∨ c = .negativeAnsweringPennant k m ∧ m.ty = 3))
    ∧ (∃ s : State, ∃ k : Fin 64, ∃ m : DiscMsg, ∃ c : Instr, s.InTables ∧ s.quarantined (.line k) = true ∧ c ∈ [.lineHail k m,
        .lineAnsweringPennant k m, .negativeAnsweringPennant k m])
    ∧ (∃ s : State, ∃ k : Fin 64, s.InTables ∧ 3 * s.cfg F.LIN_DISC_CFG_HAIL_PER ≤ (s.disc k.val).silent
        ∧ (s.get (F.LIN_DISC_STATE_STATE k.val) = Disc.seen ∨ s.get (F.LIN_DISC_STATE_STATE k.val) = Disc.paired))
    ∧ (∃ s : State, ∃ k : Fin 64, s.InTables ∧ (s.disc k.val).silent < 3 * s.cfg F.LIN_DISC_CFG_HAIL_PER) :=
  ⟨⟨{ dev [(F.LIN_DISC_CTRL_EN 63, 1), (F.LIN_DISC_CTRL_PORT 63, 9), (F.LIN_DISC_CTRL_EN 0, 1)] with lin := { hail := 128 } },
      by decide⟩,
   ⟨State.reset, by decide⟩,
   ⟨dev [(F.LIN_DISC_CTRL_EN 63, 1), (F.LIN_DISC_CTRL_PORT 63, 9), (F.LIN_DISC_STATE_STATE 63, 0), (F.LIN_DISC_BURGEE 63, 5)],
       63, discMsg 0x101000300040000 0x5 0x0, by decide +kernel⟩,
   ⟨dev [(F.LIN_DISC_CTRL_EN 63, 1), (F.LIN_DISC_CTRL_PORT 63, 9), (F.LIN_DISC_STATE_STATE 63, 2), (F.LIN_DISC_BURGEE 63, 5)],
       63, discMsg 0x101000300040000 0x5 0x0, by decide +kernel⟩,
   ⟨{ dev [(F.LIN_DISC_CTRL_EN 63, 1), (F.LIN_DISC_CTRL_PORT 63, 9), (F.LIN_DISC_STATE_STATE 63, 1), (F.LIN_DISC_BURGEE 63, 5)] with lin := { discs := [{ num := 63, seq := some 7, silent := 4 }] } }, 63, discMsg 0x201000300040000 0x4d 0x70009, by decide +kernel⟩,
   ⟨{ dev [(F.LIN_DISC_CTRL_EN 63, 1), (F.LIN_DISC_CTRL_PORT 63, 9), (F.LIN_DISC_STATE_STATE 63, 1), (F.LIN_DISC_BURGEE 63, 5)] with lin := { discs := [{ num := 63, seq := some 7, silent := 4 }] } }, 63, discMsg 0x201000300040000 0x4d 0x80009, by decide +kernel⟩,
   ⟨dev [(F.LIN_DISC_CTRL_EN 63, 1), (F.LIN_DISC_CTRL_PORT 63, 9), (F.LIN_DISC_STATE_STATE 63, 2), (F.LIN_DISC_BURGEE 63, 5)],
       63, discMsg 0x301000300040000 0x4d 0x70009, by decide +kernel⟩,
   ⟨dev [(F.LIN_DISC_CTRL_EN 63, 1), (F.LIN_DISC_CTRL_PORT 63, 9), (F.LIN_DISC_STATE_STATE 63, 1), (F.LIN_DISC_BURGEE 63, 5)],
       63, discMsg 0x301000300040000 0x4d 0x70009, by decide +kernel⟩,
   ⟨dev [(F.LIN_DISC_CTRL_EN 63, 1), (F.LIN_DISC_CTRL_PORT 63, 9), (F.LIN_DISC_STATE_STATE 63, 1), (F.LIN_DISC_BURGEE 63, 5)],
       63, discMsg 0x101000300040001 0x5 0x0, Instr.lineHail 63 (discMsg 0x101000300040001 0x5 0x0), by decide +kernel⟩,
   ⟨{ dev [(F.LIN_DISC_CTRL_EN 63, 1), (F.LIN_DISC_CTRL_PORT 63, 9)] with hal := { peers := [{ who := .line 63, ends := some 9 }] } }, 63, discMsg 0x101000300040000 0x5 0x0, Instr.lineHail 63 (discMsg 0x101000300040000 0x5 0x0), ⟨by decide, by decide, .head _⟩⟩,
   ⟨{ dev [(F.LIN_DISC_CTRL_EN 63, 1), (F.LIN_DISC_CTRL_PORT 63, 9), (F.LIN_DISC_STATE_STATE 63, 1), (F.LIN_DISC_BURGEE 63, 5)] with lin := { discs := [{ num := 63, silent := 384 }] } }, 63, by decide⟩,
   ⟨State.reset, 63, by decide⟩⟩

theorem witness_VoicePortsAndSelectors :
    (∃ s : State, ∃ n : Fin 16, s.InTables ∧ s.vpWatched n.val = true)
    ∧ (∃ s : State, ∃ n : Fin 16, ∃ count : Nat, ∃ p : Vp, s.InTables ∧ s.vp n.val = some p ∧ s.vpMaster n.val = false
        ∧ p.stopped = false)
    ∧ (∃ s : State, ∃ n : Fin 16, ∃ count : Nat, ∃ p : Vp, s.InTables ∧ s.vp n.val = some p ∧ s.vpMaster n.val = false
        ∧ p.stopped = true)
    ∧ (∃ s : State, ∃ n : Fin 16, ∃ f : VoiceFrame, ∃ p : Vp, s.InTables ∧ s.vp n.val = some p ∧ s.ledgerMode = false
        ∧ s.on (F.VOX_VP_CFG_PATH n.val) = false ∧ s.on (F.VOX_VP_CFG_RAMP_RX n.val) = false ∧ p.svc = false
        ∧ p.mask = s.cfg (F.VOX_VP_MASK n.val) ∧ (s.vpMaster n.val = true ∨ f.fsOk = true)
        ∧ p.frames.length < s.cfg (F.VOX_VP_CFG_BLOCK_FRAMES n.val))
    ∧ (∃ s : State, ∃ n : Fin 16, ∃ f : VoiceFrame, ∃ p : Vp, s.InTables ∧ s.vp n.val = some p ∧ s.ledgerMode = false
        ∧ s.vpMaster n.val = false ∧ f.fsOk = false ∧ s.bit (F.VOX_VP_STATUS_FS_LOCK n.val) = true)
    ∧ (∃ s : State, ∃ n : Fin 16, ∃ ws : List TWord, ∃ p : Vp, s.InTables ∧ s.vp n.val = some p
        ∧ s.on (F.VOX_VP_CFG_PATH n.val) = false ∧ s.vpFrames n.val ws = none)
    ∧ (∃ s : State, ∃ n : Fin 16, ∃ ws : List TWord, ∃ p : Vp, ∃ fs : List (List (BitVec 32)), s.InTables ∧ s.vp n.val = some p
        ∧ s.on (F.VOX_VP_CFG_PATH n.val) = false ∧ s.vpFrames n.val ws = some fs
        ∧ p.tx.length + fs.length * s.vpSlots n.val ≤ s.cfg (F.VOX_VP_TXCFG_TX_DEPTH n.val) * s.vpSlots n.val)
    ∧ (∃ s : State, ∃ n : Fin 16, ∃ p : Vp, s.InTables ∧ s.vp n.val = some p ∧ s.on (F.VOX_VP_CFG_PATH n.val) = false
        ∧ p.started = true ∧ s.on (F.VOX_VP_CFG_RAMP_TX n.val) = false ∧ s.squelched = false ∧ s.vpSlots n.val ≤ p.tx.length)
    ∧ (∃ s : State, ∃ n : Fin 16, ∃ p : Vp, s.InTables ∧ s.vp n.val = some p ∧ s.on (F.VOX_VP_CFG_PATH n.val) = false
        ∧ p.started = true ∧ s.on (F.VOX_VP_CFG_RAMP_TX n.val) = false ∧ s.squelched = false ∧ p.tx.length < s.vpSlots n.val
        ∧ s.vpState n.val = VpSt.inService)
    ∧ (∃ s : State, ∃ n : Fin 16, ∃ p : Vp, s.InTables ∧ s.vp n.val = some p ∧ s.vpState n.val = VpSt.stopping
        ∧ (s.on (F.VOX_VP_CFG_RAMP_TX n.val) = true → p.txGain.mode = .down ∧ s.rampK n.val < p.txGain.att)
        ∧ (s.on (F.VOX_VP_CFG_RAMP_RX n.val) = true → p.rxGain.mode = .down ∧ s.rampK n.val < p.rxGain.att))
    ∧ (∃ s : State, ∃ n : Fin 16, ∃ f : VoiceFrame, ∃ ws : List TWord, ∃ count : Nat, ∃ c ∈ [Instr.vpClockStop n,
        .vpClockReturn n, .vpClockGlitch n, .vpRateResult n count, .vpRxFrame n f, .vpTxBlock n ws, .vpTxFrame n,
        .rampDownEnd n], s.InTables ∧ s.vp n.val = none)
    ∧ (∃ s : State, s.InTables ∧ s.ftcState ≠ Ftc.disabled ∧ s.vox.emitted ≠ some s.tick)
    ∧ (∃ s : State, s.InTables ∧ (s.ftcState = Ftc.disabled ∨ s.vox.emitted = some s.tick))
    ∧ (∃ s : State, ∃ b : Nat, ∃ e : Queue, s.InTables ∧ s.ftcState ≠ Ftc.disabled ∧ s.vox.emitted ≠ some s.tick
        ∧ s.lin.logging = false ∧ b < 64 ∧ (∀ d < 64, s.on (F.VOX_VB_CFG_EN d) = decide (d = b)) ∧ (∀ j < 32,
        s.xcOk (32 * b + j) = false) ∧ s.cfg F.MAP_PW_CLASS_SID ≠ s.cfg (F.VOX_VB_SID_RX_SID b) ∧ (s.queues.map (·.num)).Nodup
        ∧ e ∈ s.queues ∧ s.on (F.QUE_W_CFG_WRITER e.num) = false
        ∧ s.cfg (F.QUE_W_CFG_SID e.num) = s.cfg (F.VOX_VB_SID_RX_SID b) ∧ e.accept ≤ s.tick ∧ e.flush = none
        ∧ s.cfg (F.QUE_W_CFG_READER e.num) ≠ Reader.release ∧ e.words.length + 4 ≤ s.capacity e.num)
    ∧ (∃ s : State, ∃ n : Fin 4096, ∃ e : Sel, ∃ a : Nat, s.InTables ∧ s.selOf n.val = some e ∧ e.wtr = some a
        ∧ s.cfg (F.PRT_SEL_CFG_WTR n.val) * 8000 ≤ a)
    ∧ (∃ s : State, ∃ n : Fin 4096, ∃ e : Sel, s.InTables ∧ s.selOf n.val = some e ∧ e.wtr = none) :=
  ⟨⟨{ dev [(F.PWR_DOM_STATUS_STATE 152, 2), (F.VOX_VP_CFG_ENABLE 3, 1), (F.VOX_VP_STATUS_STATE 3, 1)] with vox := { ports := [{ num := 3 }] } }, 3, by decide⟩,
   ⟨{ dev [(F.PWR_DOM_STATUS_STATE 152, 2), (F.VOX_VP_CFG_ENABLE 3, 1), (F.VOX_VP_STATUS_STATE 3, 1)] with vox := { ports := [{ num := 3 }] } }, 3, 0, { num := 3 }, by decide⟩,
   ⟨{ dev [(F.PWR_DOM_STATUS_STATE 152, 2), (F.VOX_VP_CFG_ENABLE 3, 1), (F.VOX_VP_STATUS_STATE 3, 1)] with vox := { ports := [{ num := 3, stopped := true }] } }, 3, 70, { num := 3, stopped := true }, by decide⟩,
   ⟨{ dev [(F.PWR_DOM_STATUS_STATE 152, 2), (F.VOX_VP_CFG_ENABLE 3, 1), (F.VOX_VP_STATUS_STATE 3, 1), (F.VOX_VP_CFG_RAMP_RX 3, 0), (F.VOX_VP_CFG_BLOCK_FRAMES 3, 3)] with vox := { ports := [{ num := 3 }] } }, 3, ⟨2 ^ 40, [5, 6], true⟩, { num := 3 }, by decide⟩,
   ⟨{ dev [(F.PWR_DOM_STATUS_STATE 152, 2), (F.VOX_VP_CFG_ENABLE 3, 1), (F.VOX_VP_STATUS_STATE 3, 1), (F.VOX_VP_STATUS_FS_LOCK 3, 1)] with vox := { ports := [{ num := 3 }] } }, 3, ⟨2 ^ 40, [5, 6], false⟩, { num := 3 }, by decide⟩,
   ⟨{ dev [(F.PWR_DOM_STATUS_STATE 152, 2), (F.VOX_VP_CFG_ENABLE 3, 1), (F.VOX_VP_STATUS_STATE 3, 1)] with vox := { ports := [{ num := 3 }] } }, 3, [], { num := 3 }, by decide⟩,
   ⟨{ dev [(F.PWR_DOM_STATUS_STATE 152, 2), (F.VOX_VP_CFG_ENABLE 3, 1), (F.VOX_VP_STATUS_STATE 3, 1), (F.VOX_VP_TXCFG_TX_DEPTH 3, 8)] with vox := { ports := [{ num := 3 }] } }, 3, [⟨0, 0x10⟩, ⟨BitVec.ofNat 64 (2 ^ 32 + 1 * 2 ^ 26), 0⟩, ⟨BitVec.ofNat 64 0x0102030405060708, 8⟩], { num := 3 }, State.vpUnpack ({ dev [(F.PWR_DOM_STATUS_STATE 152, 2), (F.VOX_VP_CFG_ENABLE 3, 1), (F.VOX_VP_STATUS_STATE 3, 1), (F.VOX_VP_TXCFG_TX_DEPTH 3, 8)] with vox := { ports := [{ num := 3 }] } }) 3 1 false 2 [1, 2, 3, 4, 5, 6, 7, 8], by decide⟩,
   ⟨{ dev [(F.PWR_DOM_STATUS_STATE 152, 2), (F.VOX_VP_CFG_ENABLE 3, 1), (F.VOX_VP_STATUS_STATE 3, 2), (F.VOX_VP_CFG_RAMP_TX 3, 0)] with vox := { ports := [{ num := 3, started := true, tx := [1, 2] }] } }, 3, { num := 3, started := true, tx := [1, 2] }, by decide⟩,
   ⟨{ dev [(F.PWR_DOM_STATUS_STATE 152, 2), (F.VOX_VP_CFG_ENABLE 3, 1), (F.VOX_VP_STATUS_STATE 3, 2), (F.VOX_VP_CFG_RAMP_TX 3, 0)] with vox := { ports := [{ num := 3, started := true, tx := [] }] } }, 3, { num := 3, started := true, tx := [] }, by decide⟩,
   ⟨{ dev [(F.PWR_DOM_STATUS_STATE 152, 2), (F.VOX_VP_CFG_ENABLE 3, 1), (F.VOX_VP_STATUS_STATE 3, 3), (F.VOX_VP_CFG_RAMP_TX 3, 0), (F.VOX_VP_CFG_RAMP_RX 3, 0)] with vox := { ports := [{ num := 3 }] } }, 3, { num := 3 }, by decide⟩,
   ⟨State.reset, 3, ⟨2 ^ 40, [5, 6], true⟩, [], 5, Instr.vpClockStop 3, by decide, by decide⟩,
   ⟨ticking { dev [(F.PWR_DOM_STATUS_STATE 152, 2), (F.VOX_VP_CFG_ENABLE 3, 1), (F.VOX_VP_STATUS_STATE 3, 2), (F.VOX_VP_CFG_PATH 3, 1)] with vox := { ports := [{ num := 3, rxRun := true, rxStore := [[1], [2]] }] } } 12, by decide⟩,
   ⟨State.reset, by decide⟩,
   ⟨{ dev [(F.CLK_STATUS_FTC_STATE, 1), (F.VOX_VB_CFG_EN 63, 1), (F.VOX_VB_SID_RX_SID 63, 100), (F.QUE_W_CFG_SID 9, 100)] with queues := [{ num := 9 }] }, 63, { num := 9 }, by decide⟩,
   ⟨{ dev [(F.PRT_SEL_CFG_WTR 4095, 1), (F.PRT_SEL_STATUS_SEL 4095, 1)] with sels := [{ num := 4095, wtr := some 8000, byFail := true }] }, 4095, { num := 4095, wtr := some 8000, byFail := true }, 8000, by decide⟩,
   ⟨{ State.reset with sels := [{ num := 4095 }] }, 4095, { num := 4095 }, by decide⟩⟩

theorem witness_HeartbeatsAndClaimsSettleRoles :
    (∃ s : State, ∃ n : Fin 16, ∃ c : Cmd, s.InTables ∧ s.MayRun 0x30 0 c ∧ c.src = .slot n.val ∧ s.pairState = PairSt.off
        ∧ s.bit F.CLK_FTC_CTRL_ENABLE = false ∧ s.on (F.HAL_H_CFG_ENABLE 0) = true)
    ∧ (∃ s : State, ∃ n : Fin 16, ∃ c : Cmd, s.InTables ∧ s.MayRun 0x30 0 c ∧ c.src = .slot n.val ∧ s.pairState ≠ PairSt.off)
    ∧ (∃ s : State, ∃ n : Fin 16, ∃ c : Cmd, s.InTables ∧ s.MayRun 0x33 0 c ∧ c.src = .slot n.val ∧ s.pairState ∉ [PairSt.off,
        PairSt.active])
    ∧ (∃ s : State, ∃ n : Fin 16, ∃ c : Cmd, s.InTables ∧ s.MayRun 0x33 0 c ∧ c.src = .slot n.val ∧ s.pairState ∈ [PairSt.off,
        PairSt.active])
    ∧ (∃ s : State, ∃ g : Bool, s.InTables ∧ s.pairState ≠ PairSt.off ∧ (s.ftcState = Ftc.disabled ∨ s.tick % 8 = 0)
        ∧ s.pairOn = true ∧ (g = true ∨ s.pairState ≠ PairSt.claiming))
    ∧ (∃ s : State, s.InTables ∧ s.pairState = PairSt.claiming ∧ (s.ftcState = Ftc.disabled ∨ s.tick % 8 = 0))
    ∧ (∃ s : State, ∃ n : BitVec 32, ∃ h : Heartbeat, s.InTables ∧ s.NextPair Ty.heartbeat n
        ∧ (s.ftcState = Ftc.disabled ∨ s.pair.hbTick ≠ some s.tick) ∧ h.burgee.toNat ≠ s.burgee
        ∧ s.pairState ∈ [PairSt.starting, PairSt.claiming])
    ∧ (∃ s : State, ∃ n : BitVec 32, ∃ h : Heartbeat, s.InTables ∧ s.NextPair Ty.heartbeat n
        ∧ (s.ftcState = Ftc.disabled ∨ s.pair.hbTick ≠ some s.tick) ∧ h.burgee.toNat ≠ s.burgee ∧ s.pairState = PairSt.active)
    ∧ (∃ s : State, ∃ n : BitVec 32, ∃ h : Heartbeat, s.InTables ∧ s.NextPair Ty.heartbeat n
        ∧ (s.ftcState = Ftc.disabled ∨ s.pair.hbTick ≠ some s.tick) ∧ h.burgee.toNat ≠ s.burgee ∧ s.pairState = PairSt.standby
        ∧ s.ftcState ≠ Ftc.disabled)
    ∧ (∃ s : State, ∃ n : BitVec 32, ∃ h : Heartbeat, s.InTables ∧ s.NextPair Ty.heartbeat n
        ∧ (s.ftcState = Ftc.disabled ∨ s.pair.hbTick ≠ some s.tick) ∧ h.burgee.toNat ≠ s.burgee)
    ∧ (∃ s : State, ∃ n : BitVec 32, ∃ h : Heartbeat, s.InTables ∧ s.NextPair Ty.heartbeat n
        ∧ (s.ftcState = Ftc.disabled ∨ s.pair.hbTick ≠ some s.tick) ∧ h.burgee.toNat = s.burgee)
    ∧ (∃ s : State, ∃ a : Nat, s.InTables ∧ s.pair.hbTick = some a ∧ a + 25 ≤ s.tick ∧ s.pair.lost = false
        ∧ s.ftcState ≠ Ftc.disabled ∧ s.lin.held = [] ∧ s.pairState = PairSt.active)
    ∧ (∃ s : State, ∃ a : Nat, s.InTables ∧ s.pair.hbTick = some a ∧ a + 25 ≤ s.tick ∧ s.pair.lost = false
        ∧ s.ftcState ≠ Ftc.disabled ∧ s.lin.held = [] ∧ follows s.pairState = true)
    ∧ (∃ s : State, s.InTables ∧ (∀ a, s.pair.hbTick = some a → s.tick < a + 25))
    ∧ (∃ s : State, ∃ h : Heartbeat, s.InTables ∧ s.bit F.PRT_PAIR_STATUS_HB_OK = true ∧ s.pair.peer = some h
        ∧ (s.pairState = PairSt.active ∧ h.state.val ≠ PairSt.active ∧ 16 ≤ s.pair.high ∨ follows s.pairState = true
        ∧ h.state.val = PairSt.active ∧ 16 ≤ s.pair.low))
    ∧ (∃ s : State, s.InTables ∧ s.pair.high < 16 ∧ s.pair.low < 16)
    ∧ (∃ s : State, s.InTables ∧ s.pairState = PairSt.starting ∧ 3 ≤ s.pair.silent ∧ s.pair.wait = none
        ∧ s.bit F.PRT_PAIR_STATUS_GUARD_IN = false)
    ∧ (∃ s : State, s.InTables ∧ s.pairState = PairSt.claiming ∧ 2 ≤ s.pair.claim ∧ s.bit F.PRT_PAIR_STATUS_GUARD_IN = false)
    ∧ (∃ s : State, s.InTables ∧ s.pairState = PairSt.claiming)
    ∧ (∃ s : State, ∃ c ∈ [Instr.claimComplete, .guardReadsHolding], s.InTables ∧ s.pairState ≠ PairSt.claiming)
    ∧ (∃ s : State, s.InTables ∧ s.pairState = PairSt.starting ∧ s.pair.wait = some 0)
    ∧ (∃ s : State, s.InTables ∧ s.pair.lost = true ∧ 16 ≤ s.pair.low ∧ s.pairState = PairSt.joinConfig)
    ∧ (∃ s : State, s.InTables ∧ s.pair.lost = true ∧ 16 ≤ s.pair.low ∧ s.pairState ∈ [PairSt.joinState, PairSt.standby]
        ∧ s.pair.journal = [] ∧ s.pair.heldClk = [] ∧ s.lin.held = [])
    ∧ (∃ s : State, s.InTables ∧ (s.pair.lost = false ∨ s.pair.low < 16)) :=
  ⟨⟨asked (dev [(F.HAL_H_CFG_ENABLE 0, 1)]) (ask 0x30 []), 15, ask 0x30 [], by decide⟩,
   ⟨asked (paired 3 []) (ask 0x30 []), 15, ask 0x30 [], by decide⟩,
   ⟨asked (paired 1 []) (ask 0x33 []), 15, ask 0x33 [], by decide⟩,
   ⟨asked (paired 3 []) (ask 0x33 []), 15, ask 0x33 [], by decide⟩,
   ⟨{ paired 1 [] with pair := { silent := 1, hbTick := some 4 } }, true, by decide⟩,
   ⟨paired 2 [], by decide⟩,
   ⟨paired 1 [(F.SUP_BURGEE, 50)], 1, beat 0 1, by decide⟩,
   ⟨{ paired 3 [] with pair := { lost := true, jnext := 9 } }, 1, beat 0 7, by decide⟩,
   ⟨{ paired 6 [(F.CLK_STATUS_FTC_STATE, 1)] with pair := { jnext := 5, peer := some (beat 3 7) }, clk := { tick := 40 } }, 1,
       beat 3 7, by decide⟩,
   ⟨{ paired 1 [] with pair := { lost := true, silent := 4 } }, 1, beat 1 7, by decide⟩,
   ⟨paired 3 [(F.SUP_BURGEE, 7)], 1, beat 3 7, by decide⟩,
   ⟨{ paired 3 [(F.CLK_STATUS_FTC_STATE, 1)] with pair := { hbTick := some 12, journal := [{ seq := 5, entry := .reg 0x300000 1 48 }], yieldAt := some 44 }, clk := { tick := 37 } }, 12, by decide⟩,
   ⟨{ paired 4 [(F.CLK_STATUS_FTC_STATE, 1), (F.PRT_PAIR_STATUS_GUARD_IN, 1), (F.PRT_PAIR_STATUS_QUALIFIED, 1)] with pair := { hbTick := some 12 }, clk := { tick := 37 } }, 12, by decide⟩,
   ⟨State.reset, ⟨by decide, by intro a h; cases h⟩⟩,
   ⟨{ paired 3 [(F.PRT_PAIR_STATUS_HB_OK, 1)] with pair := { peer := some (beat 6 7), high := 16 } }, beat 6 7, by decide⟩,
   ⟨State.reset, by decide⟩,
   ⟨{ paired 1 [] with pair := { silent := 3 } }, by decide⟩,
   ⟨{ paired 2 [] with pair := { claim := 2 } }, by decide⟩,
   ⟨paired 2 [(F.SUP_BURGEE, 13)], by decide⟩,
   ⟨State.reset, Instr.claimComplete, by decide, by decide⟩,
   ⟨{ paired 1 [] with pair := { wait := some 0 } }, by decide⟩,
   ⟨{ paired 4 [] with pair := { lost := true, low := 16 } }, by decide⟩,
   ⟨{ paired 5 [] with pair := { lost := true, low := 16, wasQual := true }, hoists := [{ hoist5 with ready := true }], queues := [{ num := 9, words := [qword 1 2 3] }], clk := { tick := 40 } }, by decide⟩,
   ⟨State.reset, by decide⟩⟩

theorem witness_PairedUnitsStayInStep :
    (∃ s : State, ∃ n : Fin 16, ∃ c : Cmd, s.InTables ∧ s.MayRun 0x31 0 c ∧ c.src = .slot n.val ∧ s.standbyQualified = true
        ∧ s.pair.yieldAt = none)
    ∧ (∃ s : State, ∃ n : Fin 16, ∃ c : Cmd, s.InTables ∧ s.MayRun 0x31 0 c ∧ c.src = .slot n.val ∧ s.standbyQualified = false)
    ∧ (∃ s : State, ∃ n : Fin 16, ∃ c : Cmd, s.InTables ∧ s.MayRun 0x32 1 c ∧ c.src = .slot n.val
        ∧ s.pairState ∈ [PairSt.joinState, PairSt.standby])
    ∧ (∃ s : State, ∃ n : Fin 16, ∃ c : Cmd, s.InTables ∧ s.MayRun 0x32 1 c ∧ c.src = .slot n.val
        ∧ s.pairState ∉ [PairSt.joinState, PairSt.standby])
    ∧ (∃ s : State, ∃ n : BitVec 32, ∃ l : LedgerMsg, s.InTables ∧ s.NextPair Ty.ledger n ∧ s.ledgerMode = false)
    ∧ (∃ s : State, ∃ n : BitVec 32, ∃ l : LedgerMsg, s.InTables ∧ s.NextPair Ty.ledger n ∧ s.ledgerMode = true
        ∧ s.lin.settled ≤ l.tick ∧ s.lin.quota = [] ∧ l.entries = [])
    ∧ (∃ s : State, ∃ n : BitVec 32, ∃ l : LedgerMsg, ∃ e, s.InTables ∧ s.NextPair Ty.ledger n ∧ s.ledgerMode = true
        ∧ s.lin.settled ≤ l.tick ∧ s.lin.quota = [] ∧ l.entries = [e] ∧ e.count ≠ 0 ∧ 16 ≤ e.src ∧ s.lin.held = [])
    ∧ (∃ s : State, s.InTables ∧ s.ledgerMode = true ∧ s.ftcState ≠ Ftc.disabled ∧ s.lin.settled < s.tick ∧ s.lin.held = []
        ∧ s.lin.quota = [])
    ∧ (∃ s : State, s.InTables ∧ (s.ledgerMode = false ∨ s.tick ≤ s.lin.settled))
    ∧ (∃ s : State, ∃ q : BitVec 32, ∃ e : JEntry, s.InTables ∧ s.OnPairLink ∧ follows s.pairState = true
        ∧ q.toNat = s.pair.jnext)
    ∧ (∃ s : State, ∃ q : BitVec 32, ∃ e : JEntry, s.InTables ∧ s.OnPairLink ∧ follows s.pairState = true
        ∧ q.toNat ≠ s.pair.jnext ∧ (q.toNat + 1) % 2 ^ 32 = s.pair.jnext)
    ∧ (∃ s : State, ∃ q : BitVec 32, ∃ e : JEntry, s.InTables ∧ s.OnPairLink ∧ follows s.pairState = true
        ∧ q.toNat ≠ s.pair.jnext ∧ (q.toNat + 1) % 2 ^ 32 ≠ s.pair.jnext)
    ∧ (∃ s : State, ∃ n : BitVec 32, ∃ q : BitVec 32, s.InTables ∧ s.NextPair Ty.journalAck n ∧ s.pairState = PairSt.active)
    ∧ (∃ s : State, ∃ n : BitVec 32, ∃ q : BitVec 32, s.InTables ∧ s.NextPair Ty.journalAck n ∧ s.pairState ≠ PairSt.active)
    ∧ (∃ s : State, ∃ w : JWait, s.InTables ∧ s.pair.journal = [w] ∧ s.tick < entryAt w.entry)
    ∧ (∃ s : State, ∃ w : JWait, ∃ v : Reg, ∃ a : Nat, s.InTables ∧ s.pair.journal = [w]
        ∧ w.entry = .reg (BitVec.ofNat 27 R.PWR_KEEPER_SET) v a ∧ a ≤ s.tick
        ∧ ((s.plain R.PWR_KEEPER_SET v).hChange = true → s.halted R.PWR_KEEPER_SET = true)
        ∧ s.refusedWrite (s.stored R.PWR_KEEPER_SET v) R.PWR_KEEPER_SET (s.plain R.PWR_KEEPER_SET v).act = false)
    ∧ (∃ s : State, ∃ w : JWait, ∃ v : Reg, ∃ a : Nat, s.InTables ∧ s.pair.journal = [w]
        ∧ w.entry = .reg (BitVec.ofNat 27 R.CLK_FTC_CTRL) v a ∧ a ≤ s.tick ∧ follows s.pairState = true)
    ∧ (∃ s : State, ∃ n : BitVec 32, ∃ es : List DigestEntry, s.InTables ∧ s.NextPair Ty.digest n)
    ∧ (∃ s : State, ∃ e : DigestEntry, s.InTables ∧ s.compares = true ∧ s.pair.mine = [e] ∧ s.pair.peers = []
        ∧ e.tick + s.cfg F.PRT_PAIR_CFG_CMP_WIN ≤ s.tick)
    ∧ (∃ s : State, ∃ e : DigestEntry, s.InTables ∧ s.compares = true ∧ s.pair.mine = [e] ∧ s.pair.peers = []
        ∧ s.tick < e.tick + s.cfg F.PRT_PAIR_CFG_CMP_WIN)
    ∧ (∃ s : State, s.InTables ∧ s.compares = false)
    ∧ (∃ s : State, s.InTables ∧ s.pairState = PairSt.standby ∧ s.pair.lost = false ∧ s.cfg F.PRT_PAIR_QUAL_QUAL ≤ s.pair.good)
    ∧ (∃ s : State, s.InTables ∧ s.pairState = PairSt.standby ∧ s.pair.lost = false ∧ s.pair.good < s.cfg F.PRT_PAIR_QUAL_QUAL)
    ∧ (∃ s : State, ∃ n : BitVec 32, ∃ b : Nat, s.InTables ∧ s.NextPair Ty.yield n ∧ s.pairState = PairSt.standby ∧ s.tick < b)
    ∧ (∃ s : State, ∃ n : BitVec 32, ∃ b : Nat, s.InTables ∧ s.NextPair Ty.yield n ∧ (s.pairState ≠ PairSt.standby ∨ b ≤ s.tick))
    ∧ (∃ s : State, ∃ n : BitVec 32, ∃ b, s.InTables ∧ s.NextPair Ty.pairAccept n ∧ s.pairState = PairSt.active
        ∧ s.pair.yieldAt = some b ∧ s.tick < b)
    ∧ (∃ s : State, ∃ n : BitVec 32, s.InTables ∧ s.NextPair Ty.pairAccept n ∧ s.pair.yieldAt = none)
    ∧ (∃ s : State, ∃ b : Nat, s.InTables ∧ s.pair.yieldAt = some b ∧ b ≤ s.tick ∧ s.pairState = PairSt.active)
    ∧ (∃ s : State, ∃ b : Nat, s.InTables ∧ s.pair.yieldAt = some b ∧ b ≤ s.tick ∧ s.pairState = PairSt.standby
        ∧ s.lin.held = [] ∧ s.pair.heldClk = [])
    ∧ (∃ s : State, ∃ b : Nat, s.InTables ∧ s.pair.yieldAt = some b ∧ s.tick < b)
    ∧ (∃ s : State, s.InTables ∧ s.pairState = PairSt.joinConfig ∧ s.superTick = true ∧ s.pair.copied = true)
    ∧ (∃ s : State, s.InTables ∧ s.pairState = PairSt.joinConfig ∧ s.superTick = true ∧ s.pair.copied = false)
    ∧ (∃ s : State, ∃ q : BitVec 32, ∃ p : SnapPart, s.InTables ∧ s.OnPairLink ∧ s.pairState = PairSt.joinState
        ∧ q.toNat = s.pair.partNext ∧ p ≠ .last)
    ∧ (∃ s : State, ∃ q : BitVec 32, ∃ p : SnapPart, ∃ a, ∃ bs, s.InTables ∧ s.OnPairLink ∧ s.pairState = PairSt.joinConfig
        ∧ q.toNat = s.pair.partNext ∧ p = .sram a bs ∧ a + bs.length ≤ 0x3C00000)
    ∧ (∃ s : State, ∃ q : BitVec 32, ∃ p : SnapPart, s.InTables ∧ s.OnPairLink ∧ s.pairState ∈ [PairSt.joinConfig,
        PairSt.joinState] ∧ q.toNat = s.pair.partNext ∧ p = .last)
    ∧ (∃ s : State, ∃ q : BitVec 32, ∃ p : SnapPart, s.InTables ∧ s.OnPairLink ∧ s.pairState ∈ [PairSt.joinConfig,
        PairSt.joinState] ∧ q.toNat ≠ s.pair.partNext)
    ∧ (∃ s : State, ∃ q : BitVec 32, ∃ p : SnapPart, s.InTables ∧ s.OnPairLink ∧ s.pairState ∉ [PairSt.joinConfig,
        PairSt.joinState])
    ∧ (∃ s : State, ∃ n : BitVec 32, s.InTables ∧ s.NextPair Ty.snapshotAck n ∧ s.pairState = PairSt.active ∧ s.pair.t0 ≠ none)
    ∧ (∃ s : State, ∃ n : BitVec 32, ∃ h, s.InTables ∧ s.NextPair Ty.snapshotAck n ∧ s.pairState = PairSt.active
        ∧ s.pair.t0 = none ∧ s.pair.peer = some h ∧ h.state.val = PairSt.joinConfig)
    ∧ (∃ s : State, ∃ a : Nat, s.InTables ∧ s.pair.t0 = some a ∧ s.pairState = PairSt.joinState ∧ s.pair.copied = true
        ∧ s.pair.loaded = false ∧ s.superTick = true ∧ a < s.tick)
    ∧ (∃ s : State, ∃ a : Nat, s.InTables ∧ s.pair.t0 = some a ∧ s.pairState = PairSt.joinState
        ∧ (s.pair.copied = false ∨ s.tick ≤ a))
    ∧ (∃ s : State, s.InTables ∧ s.pairState = PairSt.joinState ∧ s.pair.loaded = true ∧ 16 ≤ s.pair.noBreach)
    ∧ (∃ s : State, s.InTables ∧ s.pairState = PairSt.joinState ∧ s.pair.loaded = true ∧ s.pair.noBreach < 16)
    ∧ (∃ s : State, s.InTables ∧ s.pairState = PairSt.joinState ∧ s.lin.logging = true)
    ∧ (∃ s : State, s.InTables ∧ s.pairState = PairSt.joinState ∧ s.lin.logging = false) :=
  ⟨⟨{ asked (paired 3 [(F.CLK_STATUS_FTC_STATE, 1), (F.PRT_PAIR_STATUS_PEER_QUALIFIED, 1)]) (ask 0x31 []) with pair := { peer := some { beat 6 7 with qualified := true } } }, 15, ask 0x31 [], by decide⟩,
   ⟨{ asked (paired 3 [(F.CLK_STATUS_FTC_STATE, 1)]) (ask 0x31 []) with clk := { tick := 48 } }, 15, ask 0x31 [], by decide⟩,
   ⟨{ asked (paired 5 [(F.CLK_STATUS_FTC_STATE, 1)]) (ask 0x32 [0]) with clk := { tick := 48 } }, 15, ask 0x32 [0], by decide⟩,
   ⟨{ asked (paired 4 [(F.CLK_STATUS_FTC_STATE, 1)]) (ask 0x32 [0]) with clk := { tick := 48 } }, 15, ask 0x32 [0], by decide⟩,
   ⟨{ paired 3 [(F.CLK_STATUS_FTC_STATE, 1)] with clk := { tick := 48 } }, 1, { tick := 40, entries := [⟨3, 4, []⟩] }, by decide⟩,
   ⟨{ paired 5 [(F.CLK_STATUS_FTC_STATE, 1)] with lin := { settled := 40 }, clk := { tick := 48 } }, 1,
       { tick := 44, entries := [] }, by decide⟩,
   ⟨{ paired 6 [(F.CLK_STATUS_FTC_STATE, 1)] with lin := { settled := 40 }, clk := { tick := 48 } }, 1,
       { tick := 44, entries := [⟨16, 2, []⟩] }, ⟨16, 2, []⟩, by decide⟩,
   ⟨{ paired 6 [(F.CLK_STATUS_FTC_STATE, 1)] with lin := { settled := 47 }, clk := { tick := 48 } }, by decide⟩,
   ⟨State.reset, by decide⟩,
   ⟨{ paired 4 [(F.CLK_STATUS_FTC_STATE, 1)] with pair := { jnext := 5 }, clk := { tick := 48 } }, 5, .reg 0x300000 1 47,
       by decide⟩,
   ⟨{ paired 6 [(F.CLK_STATUS_FTC_STATE, 1)] with pair := { jnext := 5 }, clk := { tick := 48 } }, 4, .reg 0x300000 1 50,
       by decide⟩,
   ⟨{ paired 6 [(F.CLK_STATUS_FTC_STATE, 1)] with pair := { jnext := 5 }, clk := { tick := 48 } }, 6, .reg 0x300000 1 50,
       by decide⟩,
   ⟨{ paired 3 [(F.CLK_STATUS_FTC_STATE, 1)] with pair := { journal := [{ seq := 9, entry := .reg (BitVec.ofNat 27 R.PWR_KEEPER_SET) 1 48 }, { seq := 10, entry := .reg 0 0 0 }] }, clk := { tick := 48 } }, 1, 9, by decide⟩,
   ⟨{ paired 6 [(F.CLK_STATUS_FTC_STATE, 1)] with pair := { journal := [{ seq := 9, entry := .reg (BitVec.ofNat 27 R.PWR_KEEPER_SET) 1 48 }] }, clk := { tick := 48 } }, 1, 9, by decide⟩,
   ⟨{ paired 6 [(F.CLK_STATUS_FTC_STATE, 1)] with pair := { journal := [{ seq := 9, entry := .reg (BitVec.ofNat 27 R.PWR_KEEPER_SET) 1 48 }] }, clk := { tick := 47 } }, { seq := 9, entry := .reg (BitVec.ofNat 27 R.PWR_KEEPER_SET) 1 48 }, by decide⟩,
   ⟨{ paired 3 [(F.CLK_STATUS_FTC_STATE, 1)] with pair := { journal := [{ seq := 9, entry := .reg (BitVec.ofNat 27 R.PWR_KEEPER_SET) 0 48 }] }, clk := { tick := 48 } }, { seq := 9, entry := .reg (BitVec.ofNat 27 R.PWR_KEEPER_SET) 0 48 }, 0, 48, by decide⟩,
   ⟨{ paired 4 [(F.CLK_STATUS_FTC_STATE, 1)] with pair := { journal := [{ seq := 9, entry := .reg (BitVec.ofNat 27 R.CLK_FTC_CTRL) 1 48 }] }, clk := { tick := 48 } }, { seq := 9, entry := .reg (BitVec.ofNat 27 R.CLK_FTC_CTRL) 1 48 }, 1, 48, by decide⟩,
   ⟨{ paired 6 [(F.CLK_STATUS_FTC_STATE, 1)] with pair := { peers := [{ unit := 255, tick := 40, value := 7, incomplete := false }] }, clk := { tick := 48 } }, 1, [{ unit := 255, tick := 40, value := 7, incomplete := false }, { unit := 3, tick := 1000, value := 0, incomplete := true }, { unit := 3, tick := 0, value := 0, incomplete := true }], by decide⟩,
   ⟨{ paired 3 [(F.CLK_STATUS_FTC_STATE, 1)] with pair := { mine := [{ unit := 255, tick := 40, value := 7, incomplete := false }], peer := some (beat 6 7) }, clk := { tick := 167 } }, { unit := 255, tick := 40, value := 7, incomplete := false }, by decide⟩,
   ⟨{ paired 6 [(F.CLK_STATUS_FTC_STATE, 1)] with pair := { mine := [{ unit := 255, tick := 40, value := 7, incomplete := false }] }, clk := { tick := 41 } }, { unit := 255, tick := 40, value := 7, incomplete := false }, by decide⟩,
   ⟨State.reset, by decide⟩,
   ⟨{ paired 6 [(F.CLK_STATUS_FTC_STATE, 1)] with pair := { good := 8000000 }, clk := { tick := 48 } }, by decide⟩,
   ⟨{ paired 6 [(F.CLK_STATUS_FTC_STATE, 1)] with pair := { good := 0 }, clk := { tick := 48 } }, by decide⟩,
   ⟨{ paired 6 [(F.CLK_STATUS_FTC_STATE, 1)] with clk := { tick := 48 } }, 1, 49, by decide⟩,
   ⟨{ paired 6 [(F.CLK_STATUS_FTC_STATE, 1)] with clk := { tick := 48 } }, 1, 48, by decide⟩,
   ⟨{ paired 3 [(F.CLK_STATUS_FTC_STATE, 1)] with pair := { yieldAt := some 49 }, clk := { tick := 48 } }, 1, 49, by decide⟩,
   ⟨{ paired 3 [(F.CLK_STATUS_FTC_STATE, 1)] with clk := { tick := 48 } }, 1, by decide⟩,
   ⟨{ paired 3 [(F.CLK_STATUS_FTC_STATE, 1)] with pair := { yieldAt := some 48, accepted := true, peer := some (beat 6 7), fault := true }, clk := { tick := 48 } }, 48, by decide⟩,
   ⟨{ paired 6 [(F.CLK_STATUS_FTC_STATE, 1)] with pair := { yieldAt := some 48, accepted := true, peer := some (beat 3 7) }, clk := { tick := 48 } }, 48, by decide⟩,
   ⟨{ paired 6 [(F.CLK_STATUS_FTC_STATE, 1)] with pair := { yieldAt := some 49 }, clk := { tick := 48 } }, 49, by decide⟩,
   ⟨{ paired 4 [(F.CLK_STATUS_FTC_STATE, 1)] with pair := { copied := true }, clk := { tick := 48 } }, by decide⟩,
   ⟨{ paired 4 [(F.CLK_STATUS_FTC_STATE, 1)] with clk := { tick := 48 } }, by decide⟩,
   ⟨{ paired 5 [(F.CLK_STATUS_FTC_STATE, 1)] with pair := { partNext := 3 }, clk := { tick := 48 } }, 3, .sram 5 [1, 2],
       by decide⟩,
   ⟨{ paired 4 [(F.CLK_STATUS_FTC_STATE, 1)] with pair := { partNext := 3 }, clk := { tick := 48 } }, 3, .sram 0x3BFFFFE [1, 2],
       0x3BFFFFE, ([1, 2] : List Byte), by decide⟩,
   ⟨{ paired 4 [(F.CLK_STATUS_FTC_STATE, 1)] with pair := { partNext := 3 }, clk := { tick := 48 } }, 3, .last, by decide⟩,
   ⟨{ paired 4 [(F.CLK_STATUS_FTC_STATE, 1)] with pair := { partNext := 3 }, clk := { tick := 48 } }, 2, .last, by decide⟩,
   ⟨{ paired 3 [(F.CLK_STATUS_FTC_STATE, 1)] with clk := { tick := 48 } }, 0, .last, by decide⟩,
   ⟨{ paired 3 [(F.CLK_STATUS_FTC_STATE, 1)] with pair := { t0 := some 40 }, clk := { tick := 48 } }, 1, by decide⟩,
   ⟨{ paired 3 [(F.CLK_STATUS_FTC_STATE, 1)] with pair := { peer := some (beat 4 7) }, clk := { tick := 48 } }, 1, beat 4 7,
       by decide⟩,
   ⟨{ paired 5 [(F.CLK_STATUS_FTC_STATE, 1)] with pair := { t0 := some 40, copied := true, parts := [.locals 5 [1, 2]] }, hoists := [hoist5], clk := { tick := 48 } }, 40, by decide⟩,
   ⟨{ paired 5 [(F.CLK_STATUS_FTC_STATE, 1)] with pair := { t0 := some 48, copied := true }, clk := { tick := 48 } }, 48,
       by decide⟩,
   ⟨{ paired 5 [(F.CLK_STATUS_FTC_STATE, 1)] with pair := { loaded := true, noBreach := 16, good := 4 }, clk := { tick := 48 } }, by decide⟩,
   ⟨{ paired 5 [(F.CLK_STATUS_FTC_STATE, 1)] with pair := { loaded := true, noBreach := 15 }, clk := { tick := 48 } }, by decide⟩,
   ⟨{ paired 5 [(F.CLK_STATUS_FTC_STATE, 1)] with lin := { logging := true }, clk := { tick := 48 } }, by decide⟩,
   ⟨{ paired 5 [(F.CLK_STATUS_FTC_STATE, 1)] with clk := { tick := 48 } }, by decide⟩⟩

theorem witness_MembershipFollowsFrames :
    (∃ s : State, s.InTables ∧ s.isManager = true ∧ s.hierOn = true ∧ s.cfg F.LIN_DISC_CFG_HAIL_PER ≤ s.hal.hail)
    ∧ (∃ s : State, s.InTables ∧ s.hal.hail < s.cfg F.LIN_DISC_CFG_HAIL_PER)
    ∧ (∃ s : State, ∃ f : HalFrame, ∃ p : Option Partner, s.InTables ∧ s.HalTakes Ty.hail f p ∧ s.isWorker = true
        ∧ s.halState ∈ [HalSt.unbound, HalSt.orphan])
    ∧ (∃ s : State, ∃ f : HalFrame, ∃ p : Option Partner, s.InTables ∧ s.HalTakes Ty.hail f p ∧ s.isWorker = true
        ∧ s.halState ∉ [HalSt.unbound, HalSt.orphan])
    ∧ (∃ s : State, ∃ f : HalFrame, ∃ p : Option Partner, s.InTables ∧ s.HalTakes Ty.hail f p ∧ s.isWorker = true
        ∧ p = some .manager)
    ∧ (∃ s : State, ∃ f : HalFrame, ∃ m, s.InTables ∧ s.HalTakes Ty.answer f none ∧ s.isManager = true
        ∧ s.hal.hailSeq = some (f.word 2 % 2 ^ 32) ∧ s.freeEntry = some m ∧ s.hal.joinOpen = true)
    ∧ (∃ s : State, ∃ f : HalFrame, ∃ m, s.InTables ∧ s.HalTakes Ty.answer f none ∧ s.isManager = true
        ∧ s.hal.hailSeq = some (f.word 2 % 2 ^ 32) ∧ s.freeEntry = some m ∧ s.hal.joinOpen = false)
    ∧ (∃ s : State, ∃ f : HalFrame, s.InTables ∧ s.HalTakes Ty.answer f none ∧ s.isManager = true
        ∧ s.hal.hailSeq ≠ some (f.word 2 % 2 ^ 32))
    ∧ (∃ s : State, ∃ f : HalFrame, s.InTables ∧ s.HalTakes Ty.neg f (some .manager) ∧ bitsOf (f.word 1) 56 8 = Ty.accept
        ∧ s.halState = HalSt.joining ∧ s.hal.before < 4 ∧ (∃ e ∈ s.hal.sent, e.who = .manager ∧ e.frame.type = Ty.accept
        ∧ e.frame.num = f.word 1 % 2 ^ 32))
    ∧ (∃ s : State, ∃ f : HalFrame, s.InTables ∧ s.HalTakes Ty.neg f (some .manager) ∧ s.hal.sent = [])
    ∧ (∃ s : State, ∃ f : HalFrame, ∃ p : Option Partner, s.InTables ∧ s.HalTakes Ty.offer f p ∧ s.offerReason f = 0)
    ∧ (∃ s : State, ∃ f : HalFrame, ∃ p : Option Partner, s.InTables ∧ s.HalTakes Ty.offer f p ∧ s.offerReason f ≠ 0)
    ∧ (∃ s : State, s.InTables ∧ s.hal.autoFtc = true ∧ s.bit F.CLK_FTC_CTRL_ENABLE = false ∧ s.ftcState = Ftc.disabled)
    ∧ (∃ s : State, s.InTables ∧ s.hal.autoFtc = false)
    ∧ (∃ s : State, ∃ f : HalFrame, ∃ m : Fin 128, s.InTables ∧ s.HalTakes Ty.accept f (some (.member m)) ∧ s.OwnAddress f)
    ∧ (∃ s : State, ∃ f : HalFrame, ∃ r : Member, s.InTables ∧ s.HalTakes Ty.accept f none ∧ bitOf (f.word 0) 32 = true
        ∧ s.isManager = true ∧ (s.hal.members.find? fun r => r.peer = f.src.toNat ∧ r.peer ≠ 0
        ∧ s.memState r.num ≠ Mem.absent) = some r ∧ r.num < 128)
    ∧ (∃ s : State, ∃ f : HalFrame, ∃ m : Fin 128, s.InTables ∧ s.HalTakes Ty.leave f (some (.member m)) ∧ s.OwnAddress f)
    ∧ (∃ s : State, ∃ f : HalFrame, ∃ p : Option Partner, s.InTables ∧ s.HalTakes Ty.release f p ∧ p = some .manager
        ∧ s.halState ≠ HalSt.unbound)
    ∧ (∃ s : State, ∃ f : HalFrame, ∃ p : Option Partner, s.InTables ∧ s.HalTakes Ty.release f p
        ∧ (p ≠ some .manager ∨ s.halState = HalSt.unbound))
    ∧ (∃ s : State, ∃ f : HalFrame, ∃ e : Sent, s.InTables ∧ s.hierOn = true ∧ f.port.val = s.hierPort
        ∧ (s.hal.sent.find? fun e => e.frame.ty = f.ty ∧ e.frame.seq = f.seq
        ∧ (e.frame.dst = f.src ∨ e.frame.dst = 0)) = some e ∧ e.who = .manager ∧ e.frame.type = Ty.accept
        ∧ s.halState = HalSt.joining)
    ∧ (∃ s : State, ∃ f : HalFrame, ∃ e : Sent, s.InTables ∧ s.hierOn = true ∧ f.port.val = s.hierPort
        ∧ (s.hal.sent.find? fun e => e.frame.ty = f.ty ∧ e.frame.seq = f.seq
        ∧ (e.frame.dst = f.src ∨ e.frame.dst = 0)) = some e ∧ e.who = .manager ∧ e.frame.type = Ty.leave
        ∧ s.halState = HalSt.member)
    ∧ (∃ s : State, ∃ f : HalFrame, s.InTables ∧ s.hal.sent = [])
    ∧ (∃ s : State, s.InTables ∧ s.halState = HalSt.member ∧ 3 ≤ s.hal.mgrSilent)
    ∧ (∃ s : State, s.InTables ∧ s.hal.mgrSilent < 3)
    ∧ (∃ s : State, ∃ m : Fin 128, s.InTables ∧ s.isManager = true ∧ 0 < m.val ∧ s.memState m.val = Mem.paired
        ∧ 3 ≤ (s.member m.val).silent)
    ∧ (∃ s : State, ∃ m : Fin 128, s.InTables ∧ (s.member m.val).silent < 3)
    ∧ (∃ s : State, ∃ i : Nat, ∃ e : Sent, s.InTables ∧ s.hal.sent[i]? = some e ∧ s.tick < e.at_ + 8)
    ∧ (∃ s : State, ∃ i : Nat, ∃ e : Sent, s.InTables ∧ s.hal.sent[i]? = some e ∧ e.at_ + 8 ≤ s.tick ∧ e.tries < 16
        ∧ s.hierOn = true)
    ∧ (∃ s : State, ∃ i : Nat, ∃ e : Sent, ∃ m : Fin 128, s.InTables ∧ s.hal.sent[i]? = some e ∧ e.at_ + 8 ≤ s.tick
        ∧ 16 ≤ e.tries ∧ e.who = .member m ∧ e.frame.type = Ty.offer ∧ s.memState m.val ≠ Mem.absent)
    ∧ (∃ s : State, s.InTables ∧ s.superTick = true ∧ s.halState = HalSt.member ∧ s.hierOn = true)
    ∧ (∃ s : State, s.InTables ∧ s.superTick = false)
    ∧ (∃ s : State, ∃ f : HalFrame, ∃ m : Fin 128, ∃ t2 : Word, ∃ t3 : Word, s.InTables
        ∧ s.HalTakes Ty.timeReq f (some (.member m)) ∧ s.OwnAddress f)
    ∧ (∃ s : State, ∃ f : HalFrame, ∃ t4 : Word, ∃ a : Nat, ∃ b : Nat, s.InTables ∧ s.HalTakes Ty.timeResp f (some .manager)
        ∧ s.hal.timeReq = some (a, b) ∧ f.word 0 = a)
    ∧ (∃ s : State, ∃ n : Fin 16, ∃ c : Cmd, s.InTables ∧ s.MayRun 0x40 1 c ∧ c.src = .slot n.val)
    ∧ (∃ s : State, ∃ n : Fin 16, ∃ c : Cmd, s.InTables ∧ s.MayRun 0x41 1 c ∧ c.src = .slot n.val ∧ s.isManager = true
        ∧ s.hierOn = true ∧ 0 < c.arg 0 ∧ c.arg 0 < 128 ∧ s.memState (c.arg 0) ∈ [Mem.seen, Mem.paired])
    ∧ (∃ s : State, ∃ n : Fin 16, ∃ c : Cmd, s.InTables ∧ s.MayRun 0x41 1 c ∧ c.src = .slot n.val ∧ s.isManager = true
        ∧ s.hierOn = true ∧ 0 < c.arg 0 ∧ c.arg 0 < 128 ∧ s.memState (c.arg 0) = Mem.lost)
    ∧ (∃ s : State, ∃ n : Fin 16, ∃ c : Cmd, s.InTables ∧ s.MayRun 0x41 1 c ∧ c.src = .slot n.val ∧ s.isManager = true
        ∧ s.hierOn = true ∧ 0 < c.arg 0 ∧ c.arg 0 < 128 ∧ s.memState (c.arg 0) = Mem.absent)
    ∧ (∃ s : State, ∃ n : Fin 16, ∃ c : Cmd, s.InTables ∧ s.MayRun 0x45 0 c ∧ c.src = .slot n.val ∧ s.halState = HalSt.member
        ∧ s.hierOn = true)
    ∧ (∃ s : State, ∃ n : Fin 16, ∃ c : Cmd, s.InTables ∧ s.MayRun 0x45 0 c ∧ c.src = .slot n.val ∧ s.halState ≠ HalSt.member)
    ∧ (∃ s : State, ∃ p : Fin 2, s.InTables ∧ s.bit (F.HAL_H_STATUS_LINK p.val) = true)
    ∧ (∃ s : State, ∃ p : Fin 2, s.InTables ∧ s.bit (F.HAL_H_STATUS_LINK p.val) = false) :=
  ⟨⟨{ hmanager 2 [] with hal := { hail := 128 } }, by decide⟩,
   ⟨State.reset, by decide⟩,
   ⟨hworker 0 [], hframe 1 77 5 [], some .manager, by decide⟩,
   ⟨hworker 1 [], hframe 1 77 5 [], some .manager, by decide⟩,
   ⟨hworker 2 [], hframe 1 77 5 [1, 0xFFFFFFFFFFFFFFFF], some .manager, by decide⟩,
   ⟨{ hmanager 0 [] with hal := { hailSeq := some 9, joinOpen := true } }, hframe 2 99 5 [0x40000000, 5, 9], 1, by decide⟩,
   ⟨{ hmanager 0 [] with hal := { hailSeq := some 9 } }, hframe 2 99 5 [0x40000000, 5, 9], 1, by decide⟩,
   ⟨{ hmanager 0 [] with hal := { hailSeq := some 9 } }, hframe 2 99 5 [0x40000000, 5, 8], by decide⟩,
   ⟨{ hworker 1 [] with hal := { before := 0, sent := [{ who := .manager, frame := { hframe 0x11 0 0 [] with dst := 0 }, at_ := 0, tries := 0 }] } }, hframe 3 77 5 [2, 0x1100000000000001], by decide⟩,
   ⟨hworker 1 [], hframe 3 77 5 [2, 0x1100000000000001], by decide⟩,
   ⟨hworker 0 [], hframe 0x10 77 5 [0x3FFF, 0x123456789000, 5], some .manager, by decide⟩,
   ⟨hworker 2 [], hframe 0x10 77 5 [], some .manager, by decide⟩,
   ⟨{ hworker 1 [] with hal := { autoFtc := true } }, by decide⟩,
   ⟨State.reset, by decide⟩,
   ⟨{ hmanager 1 [] with hal := { sent := [{ who := .member 5, frame := { hframe 0x10 0 0 [] with dst := 0 }, at_ := 0, tries := 0 }] } }, hframe 0x11 88 5 [0x1234], 5, by decide⟩,
   ⟨{ hmanager 2 [] with hal := { members := [{ num := 5, peer := 99 }] } }, hframe 0x11 99 5 [0x100001234],
       { num := 5, peer := 99 }, by decide⟩,
   ⟨hmanager 2 [], hframe 0x12 88 5 [], 5, by decide⟩,
   ⟨hworker 1 [], hframe 0x13 77 5 [], some .manager, by decide⟩,
   ⟨hworker 0 [], hframe 0x13 77 5 [], some .manager, by decide⟩,
   ⟨{ hworker 1 [] with hal := { sent := [{ who := .manager, frame := { hframe 0x11 0 0 [] with dst := 0 }, at_ := 0, tries := 0 }] } }, hframe 0x11 77 5 [], { who := .manager, frame := { hframe 0x11 0 0 [] with dst := 0 }, at_ := 0, tries := 0 }, by decide⟩,
   ⟨{ hworker 2 [] with hal := { sent := [{ who := .manager, frame := { hframe 0x12 0 0 [] with dst := 0 }, at_ := 0, tries := 0 }] } }, hframe 0x12 77 5 [], { who := .manager, frame := { hframe 0x12 0 0 [] with dst := 0 }, at_ := 0, tries := 0 }, by decide⟩,
   ⟨State.reset, hframe 0x12 77 5 [], by decide⟩,
   ⟨{ hworker 2 [] with hal := { mgrSilent := 3 } }, by decide⟩,
   ⟨State.reset, by decide⟩,
   ⟨{ hmanager 2 [] with hal := { members := [{ num := 5, silent := 3 }] } }, 5, by decide⟩,
   ⟨State.reset, 5, by decide⟩,
   ⟨{ hmanager 2 [] with hal := { sent := [{ who := .member 5, frame := { hframe 0x10 0 0 [] with dst := 0 }, at_ := 0, tries := 0 }] } }, 0, { who := .member 5, frame := { hframe 0x10 0 0 [] with dst := 0 }, at_ := 0, tries := 0 }, by decide⟩,
   ⟨{ hmanager 2 [] with hal := { sent := [{ who := .member 5, frame := { hframe 0x10 0 0 [] with dst := 0 }, at_ := 0, tries := 15 }] }, clk := { tick := 8 } }, 0, { who := .member 5, frame := { hframe 0x10 0 0 [] with dst := 0 }, at_ := 0, tries := 15 }, by decide⟩,
   ⟨{ hmanager 2 [] with hal := { sent := [{ who := .member 5, frame := { hframe 0x10 0 0 [] with dst := 0 }, at_ := 0, tries := 16 }] }, clk := { tick := 8 } }, 0, { who := .member 5, frame := { hframe 0x10 0 0 [] with dst := 0 }, at_ := 0, tries := 16 }, 5, by decide⟩,
   ⟨{ hworker 2 [(F.CLK_STATUS_FTC_STATE, 1)] with clk := { tick := 16 } }, by decide⟩,
   ⟨State.reset, by decide⟩,
   ⟨{ hmanager 2 [] with hal := { members := [{ num := 5, silent := 2 }] } }, hframe 0x20 88 5 [5], 5, 6, 7, by decide⟩,
   ⟨{ hworker 2 [] with hal := { timeReq := some (5, 0) } }, hframe 0x21 77 5 [5, 10, 12], 20, 5, 0, by decide⟩,
   ⟨asked (State.reset) (ask 0x40 [1]), 15, ask 0x40 [1], by decide⟩,
   ⟨asked (hmanager 1 []) (ask 0x41 [5]), 15, ask 0x41 [5], by decide⟩,
   ⟨asked (hmanager 3 []) (ask 0x41 [5]), 15, ask 0x41 [5], by decide⟩,
   ⟨asked (hmanager 0 []) (ask 0x41 [5]), 15, ask 0x41 [5], by decide⟩,
   ⟨asked (hworker 2 []) (ask 0x45 []), 15, ask 0x45 [], by decide⟩,
   ⟨asked (hworker 0 []) (ask 0x45 []), 15, ask 0x45 [], by decide⟩,
   ⟨dev [(F.HAL_H_STATUS_LINK 1, 1)], 1, by decide⟩,
   ⟨State.reset, 1, by decide⟩⟩

theorem witness_RemoteWorkAndQuarantines :
    (∃ s : State, ∃ f : HalFrame, s.InTables ∧ s.HalTakes Ty.command f (some .manager) ∧ s.halState = HalSt.member
        ∧ f.payload.length = 1 + Nat.min 12 (bitsOf (f.word 0) 8 4))
    ∧ (∃ s : State, ∃ f : HalFrame, s.InTables ∧ s.HalTakes Ty.command f (some .manager) ∧ s.halState = HalSt.orphan)
    ∧ (∃ s : State, ∃ f : HalFrame, ∃ m : Fin 128, ∃ n : Fin 16, ∃ c : Cmd, s.InTables
        ∧ s.HalTakes Ty.result f (some (.member m)) ∧ s.Executing 0x42 c ∧ c.src = .slot n.val ∧ f.word 0 % 4 = 2
        ∧ s.memAddr m.val = c.arg 0)
    ∧ (∃ s : State, ∃ f : HalFrame, s.InTables ∧ s.HalTakes Ty.result f none)
    ∧ (∃ s : State, ∃ f : HalFrame, ∃ w : Word, s.InTables ∧ s.HalTakes Ty.regWrite f (some .manager)
        ∧ s.halState = HalSt.member ∧ f.payload = [w] ∧ w.toNat / 2 ^ 32 % 4 ≠ 0)
    ∧ (∃ s : State, ∃ f : HalFrame, ∃ w : Word, ∃ off, s.InTables ∧ s.HalTakes Ty.regWrite f (some .manager)
        ∧ s.halState = HalSt.member ∧ f.payload = [w] ∧ w.toNat / 2 ^ 32 % 4 = 0 ∧ w.toNat / 2 ^ 32 = 0x4000000 + off
        ∧ s.sramKind off 4 true = none)
    ∧ (∃ s : State, ∃ f : HalFrame, ∃ m : Fin 128, ∃ n : Fin 16, ∃ c : Cmd, s.InTables
        ∧ s.HalTakes Ty.regAck f (some (.member m)) ∧ s.OwnAddress f ∧ s.Executing 0x43 c ∧ c.src = .slot n.val ∧ c.arg 0 = m.val)
    ∧ (∃ s : State, ∃ f : HalFrame, s.InTables ∧ s.HalTakes Ty.chunk f (some .manager) ∧ s.halState = HalSt.member
        ∧ bitOf (f.word (s.halAddr % 128 / 64)) (s.halAddr % 128 % 64) = false)
    ∧ (∃ s : State, ∃ f : HalFrame, s.InTables ∧ s.HalTakes Ty.chunk f (some .manager) ∧ s.halState = HalSt.member
        ∧ bitOf (f.word (s.halAddr % 128 / 64)) (s.halAddr % 128 % 64) = true ∧ f.word 3 = 0 ∧ 8 * f.payload.length < 0x80 + 32
        ∧ s.regionTakes 0 (wordsBytes (f.payload.drop 4)).length = true)
    ∧ (∃ s : State, ∃ f : HalFrame, ∃ m : Fin 128, ∃ n : Fin 16, ∃ c : Cmd, ∃ p : PushOut, s.InTables
        ∧ s.HalTakes Ty.imgStatus f (some (.member m)) ∧ s.OwnAddress f ∧ s.Executing 0x44 c ∧ c.src = .slot n.val
        ∧ s.hal.pushOut = some p ∧ m.val ∈ p.asked ∧ m.val ∉ p.answered ∧ (∀ k ∈ p.asked, k = m.val ∨ k ∈ p.answered))
    ∧ (∃ s : State, ∃ f : HalFrame, ∃ m : Fin 128, ∃ n : Fin 16, ∃ c : Cmd, ∃ p : PushOut, ∃ k ∈ p.asked, s.InTables
        ∧ s.HalTakes Ty.imgStatus f (some (.member m)) ∧ s.OwnAddress f ∧ s.Executing 0x44 c ∧ c.src = .slot n.val
        ∧ s.hal.pushOut = some p ∧ m.val ∈ p.asked ∧ m.val ∉ p.answered ∧ k ≠ m.val ∧ k ∉ p.answered)
    ∧ (∃ s : State, ∃ n : Fin 16, ∃ c : Cmd, ∃ p : PushOut, s.InTables ∧ s.Executing 0x44 c ∧ c.src = .slot n.val
        ∧ s.hal.pushOut = some p ∧ p.last + 2000 ≤ s.tick)
    ∧ (∃ s : State, ∃ n : Fin 16, ∃ c : Cmd, ∃ p : PushOut, s.InTables ∧ s.Executing 0x44 c ∧ c.src = .slot n.val
        ∧ s.hal.pushOut = some p ∧ s.tick < p.last + 2000)
    ∧ (∃ s : State, ∃ f : HalFrame, ∃ p : Option Partner, ∃ c : Instr, ∃ e : Queue, s.InTables ∧ (c = .halEvent f
        ∧ s.HalTakes Ty.event f p ∨ c = .halUser f ∧ s.HalTakes Ty.user f p) ∧ s.lin.waiting = []
        ∧ s.cfg F.MAP_PW_CLASS_SID ≠ s.cfg F.HAL_SID_RX_SID ∧ s.sinkQueues (s.cfg F.HAL_SID_RX_SID) s.tick = [e.num]
        ∧ s.queue e.num = some e ∧ e.flush = none ∧ s.cfg (F.QUE_W_CFG_READER e.num) ≠ Reader.release
        ∧ e.words.length + f.words.length ≤ s.capacity e.num)
    ∧ (∃ s : State, ∃ n : Fin 16, ∃ c : Cmd, ∃ m, s.InTables ∧ s.MayRun 0x42 2 c ∧ c.src = .slot n.val ∧ s.isManager = true
        ∧ s.hierOn = true ∧ s.memAt (c.arg 0) = some m ∧ s.memState m = Mem.paired)
    ∧ (∃ s : State, ∃ n : Fin 16, ∃ c : Cmd, s.InTables ∧ s.MayRun 0x42 2 c ∧ c.src = .slot n.val ∧ s.isManager = true
        ∧ s.hierOn = true ∧ s.memAt (c.arg 0) = none)
    ∧ (∃ s : State, ∃ n : Fin 16, ∃ c : Cmd, s.InTables ∧ s.MayRun 0x43 3 c ∧ c.src = .slot n.val ∧ s.isManager = true
        ∧ s.hierOn = true ∧ 0 < c.arg 0 ∧ c.arg 0 < 128 ∧ s.memState (c.arg 0) = Mem.paired ∧ 0 < c.arg 2 ∧ c.arg 2 ≤ 256
        ∧ c.arg 1 + 8 * c.arg 2 ≤ 0x3C00000)
    ∧ (∃ s : State, ∃ n : Fin 16, ∃ c : Cmd, s.InTables ∧ s.MayRun 0x43 3 c ∧ c.src = .slot n.val ∧ s.isManager = true
        ∧ s.hierOn = true ∧ 0 < c.arg 0 ∧ c.arg 0 < 128 ∧ s.memState (c.arg 0) = Mem.paired ∧ 256 < c.arg 2)
    ∧ (∃ s : State, ∃ n : Fin 16, ∃ c : Cmd, s.InTables ∧ s.MayRun 0x44 9 c ∧ c.src = .slot n.val ∧ s.isManager = true
        ∧ s.hierOn = true ∧ 0 < c.arg 1 ∧ c.arg 0 + c.arg 1 ≤ 0x3C00000 ∧ 0 < c.arg 2 ∧ c.arg 2 < 2 ^ 32 ∧ c.arg 6 < 256
        ∧ c.arg 7 < 131072 ∧ c.arg 8 < 0x400000)
    ∧ (∃ s : State, ∃ n : Fin 16, ∃ c : Cmd, s.InTables ∧ s.MayRun 0x44 9 c ∧ c.src = .slot n.val ∧ s.isManager = true
        ∧ s.hierOn = true ∧ c.arg 1 = 0)
    ∧ (∃ s : State, ∃ n : Fin 16, ∃ c : Cmd, s.InTables ∧ s.MayRun 0x46 2 c ∧ c.src = .slot n.val ∧ c.arg 0 = 3)
    ∧ (∃ s : State, ∃ n : Fin 16, ∃ c : Cmd, s.InTables ∧ s.MayRun 0x46 2 c ∧ c.src = .slot n.val ∧ 3 < c.arg 0)
    ∧ (∃ s : State, ∃ p : Partner, ∃ a : Nat, s.InTables ∧ (s.peer p).due = some a ∧ a ≤ s.tick)
    ∧ (∃ s : State, ∃ p : Partner, ∃ a : Nat, s.InTables ∧ (s.peer p).due = some a ∧ s.tick < a)
    ∧ (∃ s : State, ∃ p : Partner, ∃ a : Nat, s.InTables ∧ (s.peer p).ends = some a ∧ a ≤ s.tick)
    ∧ (∃ s : State, ∃ p : Partner, ∃ a : Nat, s.InTables ∧ (s.peer p).ends = some a ∧ s.tick < a)
    ∧ (∃ s : State, ∃ p : Partner, ∃ ty : Byte, s.InTables ∧ s.quarantined p = false)
    ∧ (∃ s : State, ∃ p : Partner, ∃ ty : Byte, s.InTables ∧ s.quarantined p = true) :=
  ⟨⟨hworker 2 [], hframe 0x30 77 5 [1180160, 0x1FFFFFFFF, 2], by decide⟩,
   ⟨hworker 3 [], hframe 0x30 77 5 [0x10001], by decide⟩,
   ⟨{ hmanager 2 [] with mbox := { busy := some { cmd := ask 0x42 [5, 0], began := 0, n := 0 } } }, hframe 0x31 88 5 [2,
       0x100000005, 6], 5, 15, ask 0x42 [5, 0], by decide⟩,
   ⟨hmanager 2 [], hframe 0x31 99 5 [2, 5], by decide⟩,
   ⟨hworker 2 [], hframe 0x32 77 5 [0x0400000100000005], 0x0400000100000005, by decide⟩,
   ⟨hworker 2 [(F.PWR_DOM_STATUS_STATE 112, 2), (F.PWR_DOM_STATUS_STATE 127, 2)], hframe 0x32 77 5 [288230376151711749],
       288230376151711749, 0, by decide⟩,
   ⟨{ hmanager 2 [] with mbox := { busy := some { cmd := ask 0x43 [5, 0, 1], began := 0, n := 0 } } }, hframe 0x33 88 5 [1], 5,
       15, ask 0x43 [5, 0, 1], by decide⟩,
   ⟨hworker 2 [], hframe 0x40 77 5 [2, 0, 0, 0, 5], by decide⟩,
   ⟨hworker 2 [(F.HAL_IMG_BASE_MB, 1), (F.PWR_DOM_STATUS_STATE 112, 2)], hframe 0x40 77 5 [1, 0, 0x120007, 0,
       0x0102030405060708], by decide⟩,
   ⟨{ { hmanager 2 [] with hal := { pushOut := some { req := 1, asked := [5], last := 0 } } } with mbox := { busy := some { cmd := ask 0x44 [0, 0, 0, 0, 0, 0, 0, 0, 0], began := 0, n := 0 } } }, hframe 0x41 88 5 [0], 5, 15, ask 0x44 [0, 0, 0, 0, 0, 0, 0, 0, 0], { req := 1, asked := [5], last := 0 }, by decide⟩,
   ⟨{ { hmanager 2 [] with hal := { pushOut := some { req := 1, asked := [5, 6], last := 0 } } } with mbox := { busy := some { cmd := ask 0x44 [0, 0, 0, 0, 0, 0, 0, 0, 0], began := 0, n := 0 } } }, hframe 0x41 88 5 [0], 5, 15, ask 0x44 [0, 0, 0, 0, 0, 0, 0, 0, 0], { req := 1, asked := [5, 6], last := 0 }, 6, by decide, by decide⟩,
   ⟨{ { hmanager 2 [] with clk := { tick := 2005 }, hal := { pushOut := some { req := 1, asked := [5], last := 5 } } } with mbox := { busy := some { cmd := ask 0x44 [0, 0, 0, 0, 0, 0, 0, 0, 0], began := 0, n := 0 } } }, 15, ask 0x44 [0, 0, 0, 0, 0, 0, 0, 0, 0], { req := 1, asked := [5], last := 5 }, by decide⟩,
   ⟨{ { hmanager 2 [] with clk := { tick := 2004 }, hal := { pushOut := some { req := 1, asked := [5], last := 5 } } } with mbox := { busy := some { cmd := ask 0x44 [0, 0, 0, 0, 0, 0, 0, 0, 0], began := 0, n := 0 } } }, 15, ask 0x44 [0, 0, 0, 0, 0, 0, 0, 0, 0], { req := 1, asked := [5], last := 5 }, by decide⟩,
   ⟨{ hmanager 2 [(F.HAL_SID_RX_SID, 600), (F.QUE_W_CFG_SID 1, 600), (F.QUE_W_CFG_READER 1, 3)] with queues := [{ num := 1 }] },
       hframe 0x50 88 5 [5, 6, 7], some (.member 5), Instr.halEvent (hframe 0x50 88 5 [5, 6, 7]), { num := 1 }, by decide⟩,
   ⟨asked (hmanager 2 []) (ask 0x42 [5, 513, 3, 4]), 15, ask 0x42 [5, 513, 3, 4], 5, by decide⟩,
   ⟨asked (hmanager 2 []) (ask 0x42 [6, 0]), 15, ask 0x42 [6, 0], by decide⟩,
   ⟨asked (hmanager 2 []) (ask 0x43 [5, 62914552, 1]), 15, ask 0x43 [5, 62914552, 1], by decide⟩,
   ⟨asked (hmanager 2 []) (ask 0x43 [5, 0, 257]), 15, ask 0x43 [5, 0, 257], by decide⟩,
   ⟨asked (hmanager 2 []) (ask 0x44 [62914528, 32, 33, 0, 0, 0, 255, 131071, 4194303]), 15, ask 0x44 [62914528, 32, 33, 0, 0, 0,
       255, 131071, 4194303], by decide⟩,
   ⟨asked (hmanager 2 []) (ask 0x44 [0, 0, 33, 0, 0, 0, 255, 131071, 4194303]), 15, ask 0x44 [0, 0, 33, 0, 0, 0, 255, 131071,
       4194303], by decide⟩,
   ⟨asked ({ dev [(F.HAL_QUAR_STATUS_HOST, 1)] with hal := { peers := [{ who := .host, ends := some 7 }] } }) (ask 0x46 [3, 0]),
       15, ask 0x46 [3, 0], by decide⟩,
   ⟨asked (State.reset) (ask 0x46 [4, 0]), 15, ask 0x46 [4, 0], by decide⟩,
   ⟨{ State.reset with clk := { tick := 5 }, hal := { peers := [{ who := .host, due := some 5 }] } }, .host, 5, by decide⟩,
   ⟨{ State.reset with clk := { tick := 4 }, hal := { peers := [{ who := .host, due := some 5 }] } }, .host, 5, by decide⟩,
   ⟨{ dev [(F.HAL_QUAR_STATUS_HOST, 1), (F.HAL_QUAR_STATUS_MGR, 1)] with clk := { tick := 5 }, hal := { peers := [{ who := .host, ends := some 5 }] } }, .host, 5, by decide⟩,
   ⟨{ State.reset with clk := { tick := 4 }, hal := { peers := [{ who := .host, ends := some 5 }] } }, .host, 5, by decide⟩,
   ⟨State.reset, .manager, 0x55, by decide⟩,
   ⟨{ State.reset with hal := { peers := [{ who := .manager, ends := some 5 }] } }, .manager, 0x55, by decide⟩⟩

theorem witness_EventsRecorderAndTallies :
    (∃ s : State, s.InTables ∧ s.bit F.EVT_CTRL_ENABLE = true ∧ s.evt.overflow = true ∧ s.ringAdmits 0 = true ∧ s.linkUp = true)
    ∧ (∃ s : State, s.InTables ∧ s.evt.overflow = false)
    ∧ (∃ s : State, ∃ v : Fin 256, s.InTables ∧ bitOf (s.rd Sp.msix (0x1000 + v.val / 8)).toNat (v.val % 8) = true
        ∧ s.linkUp = true)
    ∧ (∃ s : State, ∃ v : Fin 256, s.InTables ∧ bitOf (s.rd Sp.msix (0x1000 + v.val / 8)).toNat (v.val % 8) = false)
    ∧ (∃ s : State, ∃ n : Fin 16, ∃ c : Cmd, s.InTables ∧ s.MayRun 0x50 2 c ∧ c.src = .slot n.val ∧ s.recState = RecSt.idle
        ∧ c.arg 0 + 2 ^ 32 * c.arg 1 < s.cfg F.REC_RING_BLOCKS ∧ s.recRing ≤ 2 ^ 44
        ∧ s.cfg F.REC_RESV_LINES ≤ s.cfg F.REC_STAGE_LINES
        ∧ s.cfg F.REC_STAGE_BASE * 64 + s.cfg F.REC_STAGE_LINES * 64 ≤ 2 ^ 26 ∧ s.recUnitOk = true ∧ s.recPowered = true)
    ∧ (∃ s : State, ∃ n : Fin 16, ∃ c : Cmd, s.InTables ∧ s.MayRun 0x50 2 c ∧ c.src = .slot n.val ∧ s.recState ≠ RecSt.idle)
    ∧ (∃ s : State, ∃ n : Fin 16, ∃ c : Cmd, s.InTables ∧ s.MayRun 0x51 0 c ∧ c.src = .slot n.val ∧ s.recState = RecSt.idle)
    ∧ (∃ s : State, ∃ n : Fin 16, ∃ c : Cmd, s.InTables ∧ s.MayRun 0x51 0 c ∧ c.src = .slot n.val ∧ s.recState = RecSt.driveLost)
    ∧ (∃ s : State, ∃ n : Fin 16, ∃ c : Cmd, s.InTables ∧ s.MayRun 0x51 0 c ∧ c.src = .slot n.val ∧ s.recState ≠ RecSt.idle
        ∧ s.recState ≠ RecSt.driveLost)
    ∧ (∃ s : State, ∃ n : Fin 16, ∃ c : Cmd, s.InTables ∧ s.MayRun 0x52 0 c ∧ c.src = .slot n.val ∧ s.recLive = true)
    ∧ (∃ s : State, ∃ n : Fin 16, ∃ c : Cmd, s.InTables ∧ s.MayRun 0x52 0 c ∧ c.src = .slot n.val ∧ s.recLive = false)
    ∧ (∃ s : State, ∃ n : Fin 16, ∃ c : Cmd, s.InTables ∧ s.MayRun 0x53 4 c ∧ c.src = .slot n.val ∧ s.recLive = true
        ∧ 1 ≤ c.arg 2 ∧ c.arg 2 ≤ 256 ∧ c.arg 3 + c.arg 2 * s.recBs ≤ 2 ^ 26)
    ∧ (∃ s : State, ∃ n : Fin 16, ∃ c : Cmd, s.InTables ∧ s.MayRun 0x53 4 c ∧ c.src = .slot n.val ∧ s.recLive = true
        ∧ (c.arg 2 = 0 ∨ 256 < c.arg 2))
    ∧ (∃ s : State, ∃ b : RecBody, s.InTables ∧ s.recState = RecSt.recording ∧ s.recPowered = true ∧ s.rec_.staged = [b]
        ∧ b.must = true ∧ s.on F.REC_CFG_FULL_MODE = false ∧ s.rec_.lost = []
        ∧ s.rec_.pos % s.recRing + s.recSize b.payload.length ≤ s.recRing)
    ∧ (∃ s : State, s.InTables ∧ s.recState ≠ RecSt.recording ∧ s.recState ≠ RecSt.stopping)
    ∧ (∃ s : State, s.InTables ∧ s.recState = RecSt.recording ∧ s.recPowered = true ∧ s.cfg F.REC_FLUSH_PER ≤ s.rec_.since)
    ∧ (∃ s : State, s.InTables ∧ s.rec_.since < s.cfg F.REC_FLUSH_PER)
    ∧ (∃ s : State, s.InTables ∧ s.recState = RecSt.full ∧ s.on F.REC_CFG_FULL_MODE = true ∧ s.recPowered = true
        ∧ s.recRoom s.gapBytes.length = true)
    ∧ (∃ s : State, s.InTables ∧ s.recState ≠ RecSt.full)
    ∧ (∃ s : State, ∃ why : DriveFault, s.InTables ∧ s.recState ≠ RecSt.idle ∧ s.recState ≠ RecSt.driveLost ∧ s.mbox.busy = none)
    ∧ (∃ s : State, ∃ why : DriveFault, s.InTables ∧ s.recState = RecSt.idle)
    ∧ (∃ s : State, ∃ ok : Bool, s.InTables ∧ s.rec_.flight = [])
    ∧ (∃ s : State, ∃ n : Fin 16, ∃ c : Cmd, ∃ ns : Nat, ∃ r : List NvmeCmd, s.InTables ∧ s.rec_.flight = .init ns :: r
        ∧ s.Executing 0x50 c ∧ c.src = .slot n.val ∧ s.recState = RecSt.starting)
    ∧ (∃ s : State, ∃ lba : Nat, ∃ bs : List Byte, ∃ fua : Bool, ∃ last : Option Nat, ∃ r : List NvmeCmd, s.InTables
        ∧ s.rec_.flight = .write lba bs fua last :: r ∧ lba * s.recBs + bs.length ≤ 2 ^ 64)
    ∧ (∃ s : State, ∃ lba : Nat, ∃ bs : List Byte, ∃ fua : Bool, ∃ last : Option Nat, ∃ r : List NvmeCmd, s.InTables
        ∧ s.rec_.flight = .write lba bs fua last :: r ∧ lba * s.recBs + bs.length ≤ 2 ^ 64 ∧ s.recState = RecSt.recording
        ∧ s.mbox.busy = none)
    ∧ (∃ s : State, ∃ n : Fin 16, ∃ c : Cmd, ∃ b : Busy, ∃ q : Nat, ∃ r : List NvmeCmd, s.InTables
        ∧ s.rec_.flight = .flush :: r ∧ s.mbox.busy = some b ∧ b.cmd = c ∧ b.jseq = none ∧ c.op = 0x52 ∧ b.n ≤ 1
        ∧ c.src = .slot n.val ∧ s.rec_.written = some q ∧ s.rec_.durable = none ∧ q < 2 ^ 64)
    ∧ (∃ s : State, ∃ n : Fin 16, ∃ c : Cmd, ∃ lba : Nat, ∃ blocks : Nat, ∃ addr : Nat, ∃ r : List NvmeCmd, s.InTables
        ∧ s.rec_.flight = .read lba blocks addr :: r ∧ s.Executing 0x53 c ∧ c.src = .slot n.val
        ∧ addr + blocks * s.recBs ≤ 2 ^ 26)
    ∧ (∃ s : State, s.InTables ∧ s.on F.TAL_CTRL_ENABLE = true ∧ s.tick % s.cfg F.TAL_CTRL_PERIOD = 0
        ∧ ringFull (s.cfg F.TAL_RING_SLOTS) (s.get F.TAL_RING_HEAD) (s.get F.TAL_RING_TAIL) = false
        ∧ (s.on F.TAL_CTRL_WHERE = true → s.linkUp = true))
    ∧ (∃ s : State, s.InTables ∧ s.on F.TAL_CTRL_ENABLE = true ∧ s.tick % s.cfg F.TAL_CTRL_PERIOD = 0
        ∧ ringFull (s.cfg F.TAL_RING_SLOTS) (s.get F.TAL_RING_HEAD) (s.get F.TAL_RING_TAIL) = true)
    ∧ (∃ s : State, s.InTables ∧ s.on F.TAL_CTRL_ENABLE = false) :=
  ⟨⟨{ dev [(F.EVT_CTRL_ENABLE, 1), (F.SUP_FAULT_STATUS_HOST_LINK_DOWN, 0)] with evt := { overflow := true, dropped := [1, 2, 3, 4] }, clk := { tick := 5 } }, by decide⟩,
   ⟨State.reset, by decide⟩,
   ⟨{ dev [(F.SUP_FAULT_STATUS_HOST_LINK_DOWN, 0)] with mem := cells Sp.msix 0x101F [0x80] }, 255, by decide⟩,
   ⟨State.reset, 255, by decide⟩,
   ⟨asked (dev [(F.PWR_DOM_STATUS_STATE 151, 2), (F.PWR_DOM_STATUS_STATE 160, 2), (F.REC_RING_BLOCKS, 4), (F.CK_CFG_ENABLE 0,
       1), (F.CK_CFG_MODE 0, 4), (F.CK_CFG_WIDTH 0, 63), (F.CK_CFG_FOLDW 0, 7), (F.CK_CFG_CHAIN 0, 1), (F.REC_STATUS_STATE,
       0)]) (ask 0x50 [3, 0]), 15, ask 0x50 [3, 0], by decide⟩,
   ⟨asked (dev [(F.PWR_DOM_STATUS_STATE 151, 2), (F.PWR_DOM_STATUS_STATE 160, 2), (F.REC_RING_BLOCKS, 4), (F.CK_CFG_ENABLE 0,
       1), (F.CK_CFG_MODE 0, 4), (F.CK_CFG_WIDTH 0, 63), (F.CK_CFG_FOLDW 0, 7), (F.CK_CFG_CHAIN 0, 1), (F.REC_STATUS_STATE,
       2)]) (ask 0x50 [0, 0]), 15, ask 0x50 [0, 0], by decide⟩,
   ⟨asked (dev [(F.PWR_DOM_STATUS_STATE 151, 2), (F.PWR_DOM_STATUS_STATE 160, 2), (F.REC_RING_BLOCKS, 4), (F.CK_CFG_ENABLE 0,
       1), (F.CK_CFG_MODE 0, 4), (F.CK_CFG_WIDTH 0, 63), (F.CK_CFG_FOLDW 0, 7), (F.CK_CFG_CHAIN 0, 1), (F.REC_STATUS_STATE,
       0)]) (ask 0x51 []), 15, ask 0x51 [], by decide⟩,
   ⟨asked (dev [(F.PWR_DOM_STATUS_STATE 151, 2), (F.PWR_DOM_STATUS_STATE 160, 2), (F.REC_RING_BLOCKS, 4), (F.CK_CFG_ENABLE 0,
       1), (F.CK_CFG_MODE 0, 4), (F.CK_CFG_WIDTH 0, 63), (F.CK_CFG_FOLDW 0, 7), (F.CK_CFG_CHAIN 0, 1), (F.REC_STATUS_STATE,
       4)]) (ask 0x51 []), 15, ask 0x51 [], by decide⟩,
   ⟨asked (dev [(F.PWR_DOM_STATUS_STATE 151, 2), (F.PWR_DOM_STATUS_STATE 160, 2), (F.REC_RING_BLOCKS, 4), (F.CK_CFG_ENABLE 0,
       1), (F.CK_CFG_MODE 0, 4), (F.CK_CFG_WIDTH 0, 63), (F.CK_CFG_FOLDW 0, 7), (F.CK_CFG_CHAIN 0, 1), (F.REC_STATUS_STATE,
       2)]) (ask 0x51 []), 15, ask 0x51 [], by decide⟩,
   ⟨asked ({ dev [(F.PWR_DOM_STATUS_STATE 151, 2), (F.PWR_DOM_STATUS_STATE 160, 2), (F.REC_RING_BLOCKS, 4), (F.CK_CFG_ENABLE 0, 1), (F.CK_CFG_MODE 0, 4), (F.CK_CFG_WIDTH 0, 63), (F.CK_CFG_FOLDW 0, 7), (F.CK_CFG_CHAIN 0, 1), (F.REC_STATUS_STATE, 2)] with rec_ := { flight := [.flush, .init 1, .flush] } }) (ask 0x52 []), 15, ask 0x52 [], by decide⟩,
   ⟨asked (dev [(F.PWR_DOM_STATUS_STATE 151, 2), (F.PWR_DOM_STATUS_STATE 160, 2), (F.REC_RING_BLOCKS, 4), (F.CK_CFG_ENABLE 0,
       1), (F.CK_CFG_MODE 0, 4), (F.CK_CFG_WIDTH 0, 63), (F.CK_CFG_FOLDW 0, 7), (F.CK_CFG_CHAIN 0, 1), (F.REC_STATUS_STATE,
       0)]) (ask 0x52 []), 15, ask 0x52 [], by decide⟩,
   ⟨asked (dev [(F.PWR_DOM_STATUS_STATE 151, 2), (F.PWR_DOM_STATUS_STATE 160, 2), (F.REC_RING_BLOCKS, 4), (F.CK_CFG_ENABLE 0,
       1), (F.CK_CFG_MODE 0, 4), (F.CK_CFG_WIDTH 0, 63), (F.CK_CFG_FOLDW 0, 7), (F.CK_CFG_CHAIN 0, 1), (F.REC_STATUS_STATE,
       2)]) (ask 0x53 [5, 1, 1, 67104768]), 15, ask 0x53 [5, 1, 1, 67104768], by decide⟩,
   ⟨asked (dev [(F.PWR_DOM_STATUS_STATE 151, 2), (F.PWR_DOM_STATUS_STATE 160, 2), (F.REC_RING_BLOCKS, 4), (F.CK_CFG_ENABLE 0,
       1), (F.CK_CFG_MODE 0, 4), (F.CK_CFG_WIDTH 0, 63), (F.CK_CFG_FOLDW 0, 7), (F.CK_CFG_CHAIN 0, 1), (F.REC_STATUS_STATE,
       2)]) (ask 0x53 [5, 1, 0, 0]), 15, ask 0x53 [5, 1, 0, 0], by decide⟩,
   ⟨{ dev [(F.PWR_DOM_STATUS_STATE 151, 2), (F.PWR_DOM_STATUS_STATE 160, 2), (F.REC_RING_BLOCKS, 4), (F.CK_CFG_ENABLE 0, 1), (F.CK_CFG_MODE 0, 4), (F.CK_CFG_WIDTH 0, 63), (F.CK_CFG_FOLDW 0, 7), (F.CK_CFG_CHAIN 0, 1), (F.REC_STATUS_STATE, 2)] with rec_ := { staged := [{ src := 1, must := true, flags := 2, stamp := 5, ticks := 1, chan := 3, payload := List.replicate 100 7 }], pos := 64 } }, { src := 1, must := true, flags := 2, stamp := 5, ticks := 1, chan := 3, payload := List.replicate 100 7 }, by decide⟩,
   ⟨{ dev [(F.PWR_DOM_STATUS_STATE 151, 2), (F.PWR_DOM_STATUS_STATE 160, 2), (F.REC_RING_BLOCKS, 4), (F.CK_CFG_ENABLE 0, 1), (F.CK_CFG_MODE 0, 4), (F.CK_CFG_WIDTH 0, 63), (F.CK_CFG_FOLDW 0, 7), (F.CK_CFG_CHAIN 0, 1), (F.REC_STATUS_STATE, 3)] with rec_ := { staged := [{ src := 1, must := true, flags := 2, stamp := 5, ticks := 1, chan := 3, payload := List.replicate 5 7 }] } }, by decide⟩,
   ⟨{ dev [(F.PWR_DOM_STATUS_STATE 151, 2), (F.PWR_DOM_STATUS_STATE 160, 2), (F.REC_RING_BLOCKS, 4), (F.CK_CFG_ENABLE 0, 1), (F.CK_CFG_MODE 0, 4), (F.CK_CFG_WIDTH 0, 63), (F.CK_CFG_FOLDW 0, 7), (F.CK_CFG_CHAIN 0, 1), (F.REC_STATUS_STATE, 2)] with rec_ := { since := 800, part := [1, 2] } }, by decide⟩,
   ⟨State.reset, by decide⟩,
   ⟨{ dev [(F.PWR_DOM_STATUS_STATE 151, 2), (F.PWR_DOM_STATUS_STATE 160, 2), (F.REC_RING_BLOCKS, 4), (F.CK_CFG_ENABLE 0, 1), (F.CK_CFG_MODE 0, 4), (F.CK_CFG_WIDTH 0, 63), (F.CK_CFG_FOLDW 0, 7), (F.CK_CFG_CHAIN 0, 1), (F.REC_STATUS_STATE, 3), (F.REC_CFG_FULL_MODE, 1), (F.REC_RELEASE_LBA, 2)] with rec_ := { lost := [(1, 5)] } }, by decide⟩,
   ⟨dev [(F.PWR_DOM_STATUS_STATE 151, 2), (F.PWR_DOM_STATUS_STATE 160, 2), (F.REC_RING_BLOCKS, 4), (F.CK_CFG_ENABLE 0, 1),
       (F.CK_CFG_MODE 0, 4), (F.CK_CFG_WIDTH 0, 63), (F.CK_CFG_FOLDW 0, 7), (F.CK_CFG_CHAIN 0, 1), (F.REC_STATUS_STATE, 2)],
       by decide⟩,
   ⟨dev [(F.PWR_DOM_STATUS_STATE 151, 2), (F.PWR_DOM_STATUS_STATE 160, 2), (F.REC_RING_BLOCKS, 4), (F.CK_CFG_ENABLE 0, 1),
       (F.CK_CFG_MODE 0, 4), (F.CK_CFG_WIDTH 0, 63), (F.CK_CFG_FOLDW 0, 7), (F.CK_CFG_CHAIN 0, 1), (F.REC_STATUS_STATE, 2)],
       .removed, by decide⟩,
   ⟨State.reset, .removed, by decide⟩,
   ⟨State.reset, true, by decide⟩,
   ⟨{ dev [(F.PWR_DOM_STATUS_STATE 151, 2), (F.PWR_DOM_STATUS_STATE 160, 2), (F.REC_RING_BLOCKS, 4), (F.CK_CFG_ENABLE 0, 1), (F.CK_CFG_MODE 0, 4), (F.CK_CFG_WIDTH 0, 63), (F.CK_CFG_FOLDW 0, 7), (F.CK_CFG_CHAIN 0, 1), (F.REC_STATUS_STATE, 1)] with rec_ := { flight := [.init 1, .flush] }, mbox := { busy := some { cmd := ask 0x50 [0, 0], began := 0, n := 3 } } }, 15, ask 0x50 [0, 0], 1, [.flush], by decide⟩,
   ⟨{ dev [(F.PWR_DOM_STATUS_STATE 151, 2), (F.PWR_DOM_STATUS_STATE 160, 2), (F.REC_RING_BLOCKS, 4), (F.CK_CFG_ENABLE 0, 1), (F.CK_CFG_MODE 0, 4), (F.CK_CFG_WIDTH 0, 63), (F.CK_CFG_FOLDW 0, 7), (F.CK_CFG_CHAIN 0, 1), (F.REC_STATUS_STATE, 2)] with rec_ := { flight := [.write 7 [1, 0, 3] true (some 9)] } }, 7, [1, 0, 3], true, (some 9), [], by decide⟩,
   ⟨{ dev [(F.PWR_DOM_STATUS_STATE 151, 2), (F.PWR_DOM_STATUS_STATE 160, 2), (F.REC_RING_BLOCKS, 4), (F.CK_CFG_ENABLE 0, 1), (F.CK_CFG_MODE 0, 4), (F.CK_CFG_WIDTH 0, 63), (F.CK_CFG_FOLDW 0, 7), (F.CK_CFG_CHAIN 0, 1), (F.REC_STATUS_STATE, 2)] with rec_ := { flight := [.write 7 [1, 0, 3] true (some 9)] } }, 7, [1, 0, 3], true, some 9, [], by decide⟩,
   ⟨{ dev [(F.PWR_DOM_STATUS_STATE 151, 2), (F.PWR_DOM_STATUS_STATE 160, 2), (F.REC_RING_BLOCKS, 4), (F.CK_CFG_ENABLE 0, 1), (F.CK_CFG_MODE 0, 4), (F.CK_CFG_WIDTH 0, 63), (F.CK_CFG_FOLDW 0, 7), (F.CK_CFG_CHAIN 0, 1), (F.REC_STATUS_STATE, 2)] with rec_ := { flight := [.flush], written := some 4294967301 }, mbox := { busy := some { cmd := ask 0x52 [], began := 0, n := 1 } } }, 15, ask 0x52 [], { cmd := ask 0x52 [], began := 0, n := 1 }, 4294967301, [], by decide⟩,
   ⟨{ dev [(F.PWR_DOM_STATUS_STATE 151, 2), (F.PWR_DOM_STATUS_STATE 160, 2), (F.REC_RING_BLOCKS, 4), (F.CK_CFG_ENABLE 0, 1), (F.CK_CFG_MODE 0, 4), (F.CK_CFG_WIDTH 0, 63), (F.CK_CFG_FOLDW 0, 7), (F.CK_CFG_CHAIN 0, 1), (F.REC_STATUS_STATE, 2)] with mem := cells Sp.nvme (3 * 4096) [7, 8, 9], rec_ := { flight := [.read 3 1 64] }, mbox := { busy := some { cmd := ask 0x53 [3, 0, 1, 64], began := 0, n := 0 } } }, 15, ask 0x53 [3, 0, 1, 64], 3, 1, 64, [], by decide⟩,
   ⟨{ dev [(F.TAL_CTRL_ENABLE, 1)] with tally := { seq := 9 }, clk := { tick := 16000 } }, by decide⟩,
   ⟨dev [(F.TAL_CTRL_ENABLE, 1), (F.TAL_RING_HEAD, 1)], by decide⟩,
   ⟨State.reset, by decide⟩⟩

theorem witness_EveryStepKeepsPinsSettled :
    (∃ s t : State, step s = .next t ∧ s.PinsSettled) ∧ ∃ s t : State, step s = .next t ∧ s.pending ≠ [] :=
  ⟨⟨State.reset, State.reset.idle, rfl, rfl⟩, ⟨queued State.reset .managerLost, _, rfl, by decide⟩⟩

theorem witness_EveryStepKeepsTheTables : ∃ s t : State, step s = .next t ∧ s.InTables :=
  ⟨State.reset, State.reset.idle, rfl, by decide⟩

theorem witness_RunsConsumeQueueInOrder : ∃ s : State, s.PinsSettled := ⟨State.reset, rfl⟩

theorem witness_ResetLeavesDeviceIdle : ∃ k : Nat, k ≠ R.SUP_RESET_CAUSE := ⟨0, by decide⟩

end Sys2Proof.Tests
end

section
/-! A read of a register changes nothing (R134). -/

namespace Sys2Proof.Machine

/-- What a read of a register is: its address names a register word, and R131 to R133 give no reason to reject it. -/
theorem State.readsRegister_iff (s : State) (a : Access) :
    s.readsRegister a = true ↔
      ∃ key, s.target a.addr.toNat = .reg key ∧ readKind a.addr.toNat a.bytes a.be.toNat (pairAt key) = none := by
  unfold State.readsRegister
  cases s.target a.addr.toNat with
  | reg key => simp
  | unmapped | sram off | msix off | hole => simp

/-- The branch of `State.access` that an accepted read of register space takes leaves the state as it is (R134). -/
theorem State.access_of_readsRegister {s : State} {a : Access} (hw : a.write = false) (hr : s.readsRegister a = true) :
    s.access a = s := by
  obtain ⟨key, htarget, hkind⟩ := (s.readsRegister_iff a).mp hr
  unfold pairAt at hkind
  cases hrow : rowOf key <;> simp only [hrow] at hkind <;> simp [State.access, htarget, hw, hrow, hkind]

/-- Taking an access to an alias of its block changes its address alone (R137). -/
@[simp] theorem Access.through_write (a : Access) (al : Nat) : (Access.through a al).write = a.write := by
  unfold Access.through
  dsimp only
  split <;> rfl

/-- A command that is an accepted read of a register answers the state it found, its pins those of the pending events. -/
theorem settle_access_of_readsRegister {s : State} {a : Access} (hw : a.write = false) (hr : s.readsRegister a = true) :
    settle s (s.access a) = .next { s with pins := s.pinsNow } := by
  rw [State.access_of_readsRegister hw hr, settle_eq]

/-- Settles O46: REGISTER_WRITE and the three alias writes are one access each, and an accepted read is an access that leaves
the state alone, at the register's own address and at every alias. -/
theorem registerReadsChangeNothing : Obligations.RegisterReadsChangeNothing := by
  intro s a hw
  have halias (al : Nat) (hr : s.readsRegister (Access.through a al) = true) :
      settle s (s.access (Access.through a al)) = .next { s with pins := s.pinsNow } :=
    settle_access_of_readsRegister ((Access.through_write a al).trans hw) hr
  exact ⟨settle_access_of_readsRegister hw, halias 1, halias 2, halias 3⟩

end Sys2Proof.Machine
end

section
/-! The start of a work tick (R193): what opening the queues' gates and mapping the first member leave alone, and the thread's
record as the tick begins. -/

namespace Sys2Proof.Machine

/-! ## What a channel's entry is read from -/

/-- State `t` holds the channel table and the context cache as state `s` does: every entry reads alike in both. -/
structure SameTable (s t : State) : Prop where
  ctx : t.ctx = s.ctx
  mem : t.mem = s.mem
  frozen : t.frozen = s.frozen
  space : t.chtSpace = s.chtSpace
  base : t.cfg F.CHT_BASE = s.cfg F.CHT_BASE

theorem SameTable.refl (s : State) : SameTable s s := ⟨rfl, rfl, rfl, rfl, rfl⟩

theorem SameTable.trans {s t u : State} (a : SameTable s t) (b : SameTable t u) : SameTable s u where
  ctx := b.ctx.trans a.ctx
  mem := b.mem.trans a.mem
  frozen := b.frozen.trans a.frozen
  space := b.space.trans a.space
  base := b.base.trans a.base

theorem SameTable.resident {s t : State} (h : SameTable s t) (c : Nat) : t.resident c = s.resident c := by
  unfold State.resident State.ctxOf
  rw [h.ctx]

theorem SameTable.chan {s t : State} (h : SameTable s t) (c w : Nat) : t.chan c w = s.chan c w := by
  unfold State.chan State.ctxOf State.chtAddr State.rdLE State.rdBytes State.rd
  rw [h.ctx, h.mem, h.frozen, h.space, h.base]

theorem SameTable.chEntry {s t : State} (h : SameTable s t) (c : Nat) : t.chEntry c = s.chEntry c := by
  unfold State.chEntry
  rw [h.chan]

theorem SameTable.chImage {s t : State} (h : SameTable s t) (c : Nat) : t.chImage c = s.chImage c := by
  unfold State.chImage
  rw [h.chan]

/-- No register of a queue's window places or freezes the channel table. -/
theorem SameTable.setQueueWindow (s : State) (f : Fld) (v : Nat) (hf : ∀ k ∈ f.keys, queKeyBase ≤ k) : SameTable s (s.set f v) := by
  have hapart (g : Fld) (hg : ∀ k ∈ g.keys, k < queKeyBase) : ∀ k ∈ g.keys, k ∉ f.keys :=
    fun k hk hkf => absurd (hf k hkf) (Nat.not_le.mpr (hg k hk))
  have hcfg (g : Fld) (hg : ∀ k ∈ g.keys, k < queKeyBase) : (s.set f v).cfg g = s.cfg g :=
    State.cfg_set_ne s f g v (hapart g hg)
  have hget : (s.set f v).get F.SUP_FAULT_STATUS_CHT_FROZEN = s.get F.SUP_FAULT_STATUS_CHT_FROZEN :=
    State.get_congr _ fun k hk => State.word_set_ne s f v k (hapart _ (by decide) k hk)
  refine ⟨State.set_ctx .., State.set_mem .., ?_, ?_, hcfg _ (by decide)⟩
  · unfold State.frozen State.bit
    rw [hget]
  · unfold State.chtSpace
    rw [hcfg F.CHT_CFG_WHERE (by decide)]

/-! ## The gates of a thread's queues (R347) -/

theorem SameTable.startGates (s : State) (k w : Nat) : SameTable s (s.startGates k w) := by
  refine State.each_keeps (SameTable s) _ (fun t e h => h.trans ?_) _ s (SameTable.refl s)
  have hmod (f : Queue → Queue) : SameTable t (t.modQueue e.num f) := ⟨rfl, rfl, rfl, rfl, rfl⟩
  refine (hmod _).trans (SameTable.setQueueWindow _ _ _ fun key hkey => ?_)
  rw [keys_narrow (F.QUE_W_GATE e.num) (by decide : (0 : Nat) + 32 ≤ 32), List.mem_singleton] at hkey
  rw [hkey]
  show queKeyBase ≤ queKeyBase + e.num * 0x40 + 0x3C
  omega

@[simp] theorem State.startGates_hoists (s : State) (k w : Nat) : (s.startGates k w).hoists = s.hoists := by
  unfold State.startGates
  exact State.each_same State.hoists _ (fun t (e : Queue) => State.set_hoists (t.modQueue e.num _) ..) _ s

/-! ## Loaded hoists -/

/-- A change that keeps a hoist's number acts on the record of the hoist of that number. -/
theorem State.hoist_modHoist_same (s : State) (k : Nat) (f : Hoist → Hoist) (hf : ∀ h, (f h).num = h.num) :
    (s.modHoist k f).hoist k = (s.hoist k).map f := by
  unfold State.modHoist State.hoist
  rw [List.find?_map]
  have hp : ((fun h : Hoist => decide (h.num = k)) ∘ fun h => if h.num = k then f h else h) = fun h => decide (h.num = k) := by
    funext h
    by_cases hk : h.num = k <;> simp [hk, hf]
  rw [hp]
  cases hfind : s.hoists.find? fun h => decide (h.num = k) with
  | none => rfl
  | some h =>
    have hnum : h.num = k := by simpa using List.find?_some hfind
    simp [hnum]

/-- Loaded hoists are looked up alike in states that hold the same ones. -/
theorem State.hoist_congr {s t : State} (h : t.hoists = s.hoists) (k : Nat) : t.hoist k = s.hoist k := by
  unfold State.hoist
  rw [h]

/-! ## Mapping a member (R181, R197) -/

@[simp] theorem State.ctxTouch_hoists (s : State) (c : Nat) : (s.ctxTouch c).hoists = s.hoists := by
  unfold State.ctxTouch
  split <;> rfl

@[simp] theorem State.setChan_hoists (s : State) (c w v : Nat) : (s.setChan c w v).hoists = s.hoists := by
  unfold State.setChan
  split
  · rfl
  · split
    · exact State.inc_hoists ..
    · simp

@[simp] theorem State.penSet_hoists (s : State) (c mask : Nat) (v : Bool) : (s.penSet c mask v).hoists = s.hoists := by
  unfold State.penSet
  extract_lets p n
  split
  · rfl
  · exact State.setChan_hoists ..

@[simp] theorem State.showIncomplete_hoists (s : State) (h : Hoist) : (s.showIncomplete h).hoists = s.hoists := by
  unfold State.showIncomplete
  dsimp only
  split
  · rfl
  · exact State.penSet_hoists ..

/-- A thread at a member whose entry is resident, or can be fetched, stays at it: no hoist's record changes. -/
theorem State.mapMember_stays {s : State} {k n : Nat} {h : Hoist} (hh : s.hoist k = some h)
    (hr : s.frozen = false ∨ s.resident h.cur = true) :
    (State.mapMember (n + 1) s k).1 = true ∧ (State.mapMember (n + 1) s k).2.hoists = s.hoists := by
  unfold State.mapMember
  simp only [hh]
  by_cases hc : s.resident h.cur = true
  · simp [hc]
  · have hf : s.frozen = false := hr.resolve_right hc
    simp [hc, hf]

/-! ## The thread's record at the start of a work tick (R193) -/

/-- The record of thread `h` at the start of work tick `w` at entry `pc` of image `img` (R193, R222). -/
def Hoist.begun (h : Hoist) (w pc img : Nat) : Hoist :=
  { h.clear with
    w := w, ready := true, hx := 0, pc := pc, img := img, lastDone := false, outAcc := 0, outBits := 0
    lastBits := 0, issued := 0, scratch := [], closed := [], stall := none, notBefore := 0 }

theorem Hoist.begun_cur (h : Hoist) (w pc img : Nat) : (h.begun w pc img).cur = h.members.headD 0 := by
  show h.members.getD 0 0 = h.members.headD 0
  cases h.members <;> rfl

theorem Hoist.begun_reg (h : Hoist) (w pc img i : Nat) : (h.begun w pc img).reg i = 0 := by
  have ht : (h.begun w pc img).t = List.replicate 16 0 := rfl
  unfold Hoist.reg
  rw [ht, List.getD_eq_getElem?_getD, List.getElem?_getD_replicate_default_eq]
  exact ite_self 0

theorem Hoist.begun_pr (h : Hoist) (w pc img i : Nat) (hi : i ≠ 0) : (h.begun w pc img).pr i = false := by
  have hp : (h.begun w pc img).p = List.replicate 8 false := rfl
  unfold Hoist.pr
  rw [hp, List.getD_eq_getElem?_getD, List.getElem?_getD_replicate_default_eq]
  simp [hi]

/-- The state in which thread `k` has begun work tick `w` at member `c`, which it has still to map. -/
def State.beginTick (s : State) (k w c : Nat) : State :=
  (s.startGates k w).modHoist k fun h => h.begun w ((s.startGates k w).chEntry c) ((s.startGates k w).chImage c)

theorem SameTable.beginTick (s : State) (k w c : Nat) : SameTable s (s.beginTick k w c) :=
  (SameTable.startGates s k w).trans ⟨rfl, rfl, rfl, rfl, rfl⟩

/-- The thread begins at the entry and the image that the table held before the gates of its queues opened. -/
theorem State.beginTick_hoist (s : State) (k w c : Nat) :
    (s.beginTick k w c).hoist k = (s.hoist k).map fun h => h.begun w (s.chEntry c) (s.chImage c) := by
  unfold State.beginTick
  rw [State.hoist_modHoist_same _ _ (fun h => h.begun ..) fun _ => rfl, State.hoist_congr (State.startGates_hoists ..),
    (SameTable.startGates s k w).chEntry, (SameTable.startGates s k w).chImage]

/-- The member at which a thread begins is its first, unless the table is frozen without that member's entry (R511). -/
theorem State.firstMember_eq_head {s : State} {l : List Nat} (hl : l ≠ []) (hr : s.frozen = false ∨ l.all s.resident = true) :
    (if s.frozen then (l.find? s.resident).getD 0 else l.headD 0) = l.headD 0 := by
  cases l with
  | nil => exact absurd rfl hl
  | cons c cs =>
    split
    next hf =>
      have hall : (c :: cs).all s.resident = true := hr.resolve_left (by simp [hf])
      have hc : s.resident c = true := List.all_eq_true.mp hall c List.mem_cons_self
      rw [List.find?_cons_of_pos hc]
      rfl
    next => rfl

/-- A thread that may begin its next work tick begins it at member 0, and stays there where it can map it (R193, R196). -/
theorem State.threadStart_hoist {s : State} {k : Nat} {h : Hoist} (hk : s.hoist k = some h)
    (hmay : ¬ (h.ready ∨ h.halted ∨ h.suspended ∨ s.joinHold ∨ s.tick < h.w + 2)) (hm : h.members ≠ [])
    (hr : s.frozen = false ∨ h.members.all s.resident = true) :
    (s.threadStart k).hoist k = some (h.begun (h.w + 1) (s.chEntry (h.members.headD 0)) (s.chImage (h.members.headD 0))) := by
  obtain ⟨c, cs, hcs⟩ := List.exists_cons_of_ne_nil hm
  have htable := SameTable.beginTick s k (h.w + 1) (h.members.headD 0)
  have hbegun := State.beginTick_hoist s k (h.w + 1) (h.members.headD 0)
  rw [hk, Option.map_some] at hbegun
  have hmap := State.mapMember_stays (n := cs.length) hbegun (by
    rw [htable.frozen, htable.resident, Hoist.begun_cur]
    exact hr.imp_right fun hall => List.all_eq_true.mp hall _ (by simp [hcs]))
  have hlen : h.members.length = cs.length + 1 := by simp [hcs]
  obtain ⟨hok, hsame⟩ := hmap
  have hstart : s.threadStart k = (State.mapMember (cs.length + 1) (s.beginTick k (h.w + 1) (h.members.headD 0)) k).2 := by
    unfold State.threadStart
    simp only [hk, if_neg hmay, State.firstMember_eq_head hm hr, hlen]
    exact if_pos hok
  rw [hstart, State.hoist_congr hsame, hbegun]

/-- Settles O43: the thread's record is the cleared one of its first member's entry, and mapping that member keeps it. -/
theorem workTicksStartClean : Obligations.WorkTicksStartClean := by
  intro s k h hk hready hhalted hsuspended hjoin htick hm hr _
  have hmay : ¬ (h.ready ∨ h.halted ∨ h.suspended ∨ s.joinHold ∨ s.tick < h.w + 2) := by
    simp [hready, hhalted, hsuspended, hjoin, htick]
  refine ⟨_, settle_eq s (s.threadStart k.val), _, State.threadStart_hoist hk hmay hm hr, ?_⟩
  exact ⟨Hoist.begun_reg _ _ _ _, Hoist.begun_pr _ _ _ _, rfl, rfl, rfl, rfl, rfl, rfl, rfl, rfl, rfl⟩

end Sys2Proof.Machine
end

section
/-! What an issue slot leaves alone (R489 to R491): its counters, its tag record and the event of a lost tag. -/

namespace Sys2Proof.Machine

/-! ## Bytes that an event leaves alone (R470, R473) -/

/-- Every byte outside host memory and the MSI-X table reads as before. -/
def OtherBytesKept (s t : State) : Prop := ∀ sp a, sp ≠ Sp.host → sp ≠ Sp.msix → t.rd sp a = s.rd sp a

theorem OtherBytesKept.trans {s t u : State} (a : OtherBytesKept s t) (b : OtherBytesKept t u) : OtherBytesKept s u :=
  fun sp x hh hm => (b sp x hh hm).trans (a sp x hh hm)

theorem OtherBytesKept.of_mem {s t : State} (h : t.mem = s.mem) : OtherBytesKept s t := by
  intro sp a _ _
  unfold State.rd
  rw [h]

/-- Bytes that end within their space leave every other space alone. -/
theorem State.rd_wr_otherSpace (s : State) (sp a : Nat) (bs : List Byte) (hfit : a % 2 ^ 64 + bs.length ≤ 2 ^ 64) (sp' a' : Nat)
    (hsp : sp' ≠ sp) : (s.wr sp a bs).rd sp' a' = s.rd sp' a' := by
  refine State.rd_wr_outside s sp a sp' a' bs ?_
  unfold memKey
  omega

theorem OtherBytesKept.message (s : State) (v : Nat) : OtherBytesKept s (s.message v) := by
  unfold State.message
  split
  · exact .of_mem rfl
  · dsimp only
    split
    · exact .of_mem rfl
    · split
      · have hdisarmed : OtherBytesKept s (s.set (F.EVT_ARM (v / 32)) (s.get (F.EVT_ARM (v / 32)) - 2 ^ (v % 32))) :=
          .of_mem (State.set_mem ..)
        refine hdisarmed.trans fun sp x _ hm => ?_
        exact State.rd_wr_otherSpace _ _ _ _ (by rw [leBytes_length]; omega) _ _ hm
      · exact .of_mem (by simp)

theorem OtherBytesKept.signalEvent (s : State) (src : Nat) : OtherBytesKept s (s.signalEvent src) := by
  unfold State.signalEvent
  split
  · exact .of_mem rfl
  · dsimp only
    split
    · exact OtherBytesKept.trans (.of_mem (State.orF_mem s _ _)) (.message _ _)
    · exact .of_mem (State.orF_mem s _ _)

/-- A record of the ring is 32 bytes at a multiple of 32 (R469, R470). -/
theorem OtherBytesKept.postRecord (s : State) (e : Ev) (cls : Nat) : OtherBytesKept s (s.postRecord e cls) := by
  unfold State.postRecord
  dsimp only
  generalize hws : recordWords e cls _ _ _ = ws
  have hlen : (ws.flatMap (leBytes 8)).length = 32 := by simp [← hws, recordWords]
  refine OtherBytesKept.trans (t := s.wr Sp.host (s.get F.EVT_RING_BASE * 4096 + s.get F.EVT_RING_TAIL_TAIL * 32) (ws.flatMap (leBytes 8)))
    (fun sp x hh _ => State.rd_wr_otherSpace _ _ _ _ (by omega) _ _ hh) (.of_mem ?_)
  unfold State.when
  split <;> simp

theorem OtherBytesKept.record (s : State) (e : Ev) : OtherBytesKept s (s.record e) := by
  unfold State.record
  split
  · exact .of_mem rfl
  · dsimp only
    split
    · unfold State.dropRecord
      exact OtherBytesKept.trans (.of_mem (by simp)) (.signalEvent _ 963)
    · split
      · exact .of_mem (by simp)
      · exact .postRecord _ _ _

theorem OtherBytesKept.raise (s : State) (e : Ev) : OtherBytesKept s (s.raise e) := by
  unfold State.raise
  split
  · exact .of_mem rfl
  · dsimp only
    generalize hu : s.orF (F.EVT_PEND (e.src / 32)) (2 ^ (e.src % 32)) = u
    have hsu : OtherBytesKept s u := .of_mem (by simp [← hu])
    generalize hv : (if u.on (F.EVT_ROUTE_RING e.src) ∧ e.src ≠ 963 then u.record e else u) = v
    have hsv : OtherBytesKept s v := by
      rw [← hv]
      split
      · exact hsu.trans (.record u e)
      · exact hsu
    split
    · exact hsv.trans (.message _ _)
    · exact hsv

/-! ## The frame of a slot -/

/-- The state beyond what an issue slot may touch. -/
def State.beyondSlot (s : State) : State :=
  { s with regs := {}, mem := [], evt := {}, out := [], pins := {}, free := 0, tally := {} }

/-- State `t` is state `s` but for what an issue slot does: words of the blocks `EVT` and `TAL`, bytes of tag records and events,
counts of tags, free values drawn. -/
structure SlotFrame (s t : State) : Prop where
  word : ∀ k, blockOf k ≠ 4 → blockOf k ≠ 5 → t.word k = s.word k
  bytes : ∀ sp a, sp ≠ Sp.host → sp ≠ Sp.msix → sp ≠ Sp.sram → t.rd sp a = s.rd sp a
  beyond : t.beyondSlot = s.beyondSlot

theorem SlotFrame.refl (s : State) : SlotFrame s s := ⟨fun _ _ _ => rfl, fun _ _ _ _ _ => rfl, rfl⟩

theorem SlotFrame.trans {s t u : State} (a : SlotFrame s t) (b : SlotFrame t u) : SlotFrame s u where
  word k h4 h5 := (b.word k h4 h5).trans (a.word k h4 h5)
  bytes sp x hh hm hs := (b.bytes sp x hh hm hs).trans (a.bytes sp x hh hm hs)
  beyond := b.beyond.trans a.beyond

theorem SlotFrame.hoists {s t : State} (h : SlotFrame s t) : t.hoists = s.hoists := (congrArg State.hoists h.beyond :)

theorem SlotFrame.beyondThread {s t : State} (h : SlotFrame s t) (k : Nat) : t.beyondThread k = s.beyondThread k :=
  (congrArg (State.beyondThread k) h.beyond :)

/-- A command's answer sets its pins and keeps the queue of commands. -/
theorem SlotFrame.answer {s t : State} (h : SlotFrame s t) (p : Pins) : SlotFrame s { t with pending := s.pending, pins := p } where
  word := h.word
  bytes := h.bytes
  beyond := by
    have hpending : t.pending = s.pending := (congrArg State.pending h.beyond :)
    rw [← hpending]
    exact h.beyond

/-- The words of `EVT` and `TAL` are those of blocks 4 and 5 (R129). -/
theorem not_evtKey_of_blockOf {k : Nat} (h4 : blockOf k ≠ 4) (h5 : blockOf k ≠ 5) : ¬ evtKey k := by
  intro hk
  unfold evtKey at hk
  have hlow : ¬ queKeyBase ≤ k := by unfold queKeyBase; omega
  unfold blockOf at h4 h5
  rw [if_neg hlow] at h4 h5
  obtain hk | hk := hk
  · simp [hk] at h4
  · simp [hk] at h5

theorem SlotFrame.of_events {s t : State} (h : SameButEvents s t) (hb : OtherBytesKept s t) : SlotFrame s t where
  word k h4 h5 := h.word k (not_evtKey_of_blockOf h4 h5)
  bytes sp a hh hm _ := hb sp a hh hm
  beyond := by
    unfold State.beyondSlot
    rw [h.clk, h.pwr, h.hoists, h.ctx, h.images, h.queues, h.ckus, h.marks, h.sampled, h.lin, h.map, h.sels, h.vox, h.pair, h.mbox,
      h.boot, h.rec_, h.hal, h.offered, h.pending]

/-- A counter of R487 advances. -/
theorem SlotFrame.tal (s : State) (b c n : Nat) (hb : b < 64) (hc : c < 8) : SlotFrame s (s.tal b c n) :=
  .of_events (SameButEvents.tal s b c n hb hc) (.of_mem (State.tal_mem ..))

/-- A tag record is 32 bytes at a multiple of 32, in host memory or central SRAM (R491). -/
theorem SlotFrame.wrRecord (s : State) (sp base tail : Nat) (hsp : sp = Sp.host ∨ sp = Sp.sram) {bs : List Byte}
    (hbs : bs.length = 32) : SlotFrame s (s.wr sp (base * 2 ^ 12 + 32 * tail) bs) where
  word _ _ _ := rfl
  bytes sp' a hh _ hs := by
    refine State.rd_wr_otherSpace s _ _ _ (by omega) _ _ ?_
    rintro rfl
    exact hsp.elim hh hs
  beyond := rfl

theorem SlotFrame.tagRecord (s : State) (h : Hoist) (w outcome : Nat) : SlotFrame s (s.tagRecord h w outcome) := by
  unfold State.tagRecord
  dsimp only [State.draw]
  split
  · have hlost : SlotFrame s ((s.put F.TAL_STICKY_TAG_LOST true).tal 5 3 1) :=
      SlotFrame.trans (.of_events (SameButEvents.putR s _ _ (by decide) (by decide)) (.of_mem (State.set_mem ..)))
        (.tal _ 5 3 1 (by omega) (by omega))
    exact hlost.trans (.of_events (SameButEvents.raise _ _ (by decide) (by simp)) (.raise _ _))
  · refine SlotFrame.trans ?_ (.tal _ 5 2 1 (by omega) (by omega))
    refine SlotFrame.trans ?_ (.of_events (SameButEvents.setR _ _ _ (by decide) (by decide)) (.of_mem (State.set_mem ..)))
    have hdrawn : SlotFrame s { s with free := s.free + 1 + 1 + 1 } := ⟨fun _ _ _ => rfl, fun _ _ _ _ _ => rfl, rfl⟩
    refine hdrawn.trans (.wrRecord _ _ _ _ ?_ (by simp))
    split
    · exact .inl rfl
    · exact .inr rfl

/-- An issue slot of a thread of one of the 8 tiles (R489, R490). -/
theorem SlotFrame.slot (s : State) {h : Hoist} (hat : h.at_ < 1536) (w outcome : Nat) : SlotFrame s (s.slot h w outcome) := by
  unfold State.slot State.when
  dsimp only
  generalize hu : (if bitOf (s.get (F.TAL_SLOT_ENG (h.engine / 32))) (h.engine % 32) = true then _ else s) = u
  have hsu : SlotFrame s u := by
    rw [← hu]
    split
    · exact .tal s _ _ 1 (by unfold Hoist.tile; omega) (by split <;> omega)
    · exact .refl s
  split
  · exact hsu
  · have hcount (l : List (Nat × Nat)) : SlotFrame s { u with tally := { u.tally with lfsr := l } } :=
      hsu.trans ⟨fun _ _ _ => rfl, fun _ _ _ _ _ => rfl, rfl⟩
    split
    · exact (hcount _).trans (.tagRecord _ _ _ _)
    · exact hcount _

end Sys2Proof.Machine
end

section
/-! How a thread issues an instruction (R195, R211, R214): the slot that its effect or its fault ends in. -/

namespace Sys2Proof.Machine

/-- The thread that may issue is a loaded hoist's (R97, R196). -/
theorem State.hoist_of_issuing {s : State} {k : Nat} {h : Hoist} (hi : s.issuing k = some h) : s.hoist k = some h := by
  unfold State.issuing at hi
  split at hi
  · cases hi
  next g hg =>
    split at hi
    · exact hg.trans hi
    · cases hi

theorem State.num_of_hoist {s : State} {k : Nat} {h : Hoist} (hh : s.hoist k = some h) : h.num = k := by
  simpa using List.find?_some hh

theorem State.at_lt_of_issuing {s : State} {k : Nat} {h : Hoist} (hs : s.InTables) (hi : s.issuing k = some h) : h.at_ < 1536 := by
  obtain ⟨_, _, _, _, hhoists, _⟩ := hs
  obtain ⟨_, hat, _⟩ := hhoists h (List.mem_of_find?_eq_some (State.hoist_of_issuing hi))
  exact hat

/-- The state in which the effect of an instruction that thread `h` issues begins: its count and its `pc` are on. -/
def State.issuedBy (s : State) (h : Hoist) (a : AfiWord) : State := s.modHoist h.num fun g => g.issued1 (wordsOf a)

/-- What issuing instruction `a` comes to, by what its own effect comes to: a slot used, the fault action, or a stall (R29, R217). -/
def State.concludes (s : State) (h : Hoist) (a : AfiWord) : Res → State
  | .ok t => t.slot h (AfiBits a) 0
  | .fault c => s.faultAt h (AfiBits a) c
  | .wait => s.modHoist h.num fun g => { g with stall := some ⟨a.pfx, a.w⟩ }

theorem State.afi_of_issues {s : State} {k : Nat} {a : AfiWord} {h : Hoist} (hi : s.Issues k a h)
    (body : State → Hoist → AfiWord → Res) : s.afi k a body = s.concludes h a (body (s.issuedBy h a) h a) := by
  obtain ⟨⟨hissuing, hecc, hin, hin'⟩, hpred, hpair, hwc⟩ := hi
  unfold State.badPair at hpair
  unfold wordsOf at hin'
  unfold State.afi State.issue State.issuedBy wordsOf
  simp only [hissuing, hecc, hin]
  cases hpfx : a.pfx <;> simp only [hpfx] at hin' hpair ⊢
  all_goals
    simp only [hin', hpred, hpair, chk, Nat.not_le.mpr hwc, Bool.not_true, Bool.false_eq_true, or_self, false_and, if_false]
    generalize body _ h a = r
    cases r <;> simp only [State.concludes, hpfx]

/-! ## An instruction that changes its thread alone -/

/-- Changes of one hoist's record leave the others' as they are. -/
theorem State.modHoist_beyondThread (s : State) (k : Nat) (f : Hoist → Hoist) (hf : ∀ h, (f h).num = h.num) :
    (s.modHoist k f).beyondThread k = s.beyondThread k := by
  have hothers : (s.hoists.map fun h => if h.num = k then f h else h).filter (·.num ≠ k) = s.hoists.filter (·.num ≠ k) := by
    induction s.hoists with
    | nil => rfl
    | cons h hs ih =>
      by_cases hk : h.num = k
      · simpa [hk, hf] using ih
      · simpa [hk] using ih
  unfold State.beyondThread State.modHoist
  simp only [hothers]

/-- An instruction whose effect is a change of its thread's record completes with that change alone. -/
theorem completes_onlyThread {c : Instr} {s : State} {k : Nat} {a : AfiWord} {h : Hoist} {f : Hoist → Hoist}
    {body : State → Hoist → AfiWord → Res} (hc : exec c s = settle s (s.afi k a body)) (hi : s.Issues k a h)
    (hb : body (s.issuedBy h a) h a = .ok ((s.issuedBy h a).modHoist h.num f)) (hf : ∀ g, (f g).num = g.num) :
    Completes c s (OnlyThread h a f s) := by
  intro hs
  obtain ⟨⟨hissuing, _, _, _⟩, _, _, _⟩ := id hi
  have hh := State.hoist_of_issuing hissuing
  have hframe := (SlotFrame.slot ((s.issuedBy h a).modHoist h.num f) (State.at_lt_of_issuing hs hissuing) (AfiBits a) 0).answer
    (((s.issuedBy h a).modHoist h.num f).slot h (AfiBits a) 0).pinsNow
  rw [State.afi_of_issues hi, hb, settle_eq] at hc
  refine ⟨_, hc, ?_, ?_, hframe.word, hframe.bytes⟩
  · calc _ = ((s.issuedBy h a).modHoist h.num f).hoist h.num := State.hoist_congr hframe.hoists h.num
      _ = ((s.hoist h.num).map fun g => g.issued1 (wordsOf a)).map f := by
        unfold State.issuedBy
        rw [State.hoist_modHoist_same _ _ f hf, State.hoist_modHoist_same _ _ (fun g => g.issued1 (wordsOf a)) fun _ => rfl]
      _ = some (f (h.issued1 (wordsOf a))) := by rw [State.num_of_hoist hh, hh]; rfl
  · calc _ = ((s.issuedBy h a).modHoist h.num f).beyondThread h.num := hframe.beyondThread h.num
      _ = (s.issuedBy h a).beyondThread h.num := State.modHoist_beyondThread _ _ f hf
      _ = s.beyondThread h.num := State.modHoist_beyondThread s h.num (fun g => g.issued1 (wordsOf a)) fun _ => rfl

end Sys2Proof.Machine
end

section
/-! The record of a fault (R216 to R218), and that nothing which follows it in the fault action touches the fault registers. -/

namespace Sys2Proof.Machine

/-- The words of a tile below its shared units' registers, among them the fault registers (R218). -/
def tileKey (k : Nat) : Prop := 0x01000000 ≤ k ∧ k < 0x01800000 ∧ k % 0x100000 < 0x3000

/-- The words of the tiles' fault registers read as before. -/
def TileWordsKept (s t : State) : Prop := ∀ k, tileKey k → t.word k = s.word k

theorem TileWordsKept.refl (s : State) : TileWordsKept s s := fun _ _ => rfl

theorem TileWordsKept.trans {s t u : State} (a : TileWordsKept s t) (b : TileWordsKept t u) : TileWordsKept s u :=
  fun k hk => (b k hk).trans (a k hk)

theorem TileWordsKept.of_regs {s t : State} (h : t.regs = s.regs) : TileWordsKept s t := by
  intro k _
  unfold State.word
  rw [h]

theorem TileWordsKept.set (s : State) (f : Fld) (v : Nat) (hf : ∀ k ∈ f.keys, ¬ tileKey k) : TileWordsKept s (s.set f v) :=
  fun k hk => State.word_set_ne s f v k fun hm => hf k hm hk

theorem TileWordsKept.get {s t : State} (h : TileWordsKept s t) (f : Fld) (hf : ∀ k ∈ f.keys, tileKey k) : t.get f = s.get f :=
  State.get_congr f fun k hk => h k (hf k hk)

theorem SlotFrame.tileWords {s t : State} (h : SlotFrame s t) : TileWordsKept s t := by
  rintro k ⟨hlo, hhi, _⟩
  have hblock : blockOf k = k / 0x100000 - 9 := by
    have hlow : ¬ queKeyBase ≤ k := by unfold queKeyBase; omega
    unfold blockOf
    simp only [if_neg hlow, if_neg (show ¬ k / 0x100000 < 7 by omega), if_pos (show 0x10 ≤ k / 0x100000 ∧ k / 0x100000 < 0x18 by omega)]
  exact h.word k (by omega) (by omega)

/-! ## The end of a work tick, and the next member (R199, R205, R217) -/

/-- A field of a queue's window lies beyond the tiles. -/
theorem TileWordsKept.setQueueWindow (s : State) (f : Fld) (v : Nat) (hf : queKeyBase ≤ f.reg) : TileWordsKept s (s.set f v) := by
  refine .set s f v fun k hk => ?_
  have hlow : queKeyBase ≤ k := by
    unfold Fld.keys at hk
    split at hk <;> simp only [List.mem_cons, List.not_mem_nil, or_false] at hk <;> omega
  rintro ⟨_, hhi, _⟩
  unfold queKeyBase at hlow
  omega

theorem queKeyBase_le_queKey (q off : Nat) : queKeyBase ≤ queKey q off := by unfold queKey; omega

theorem TileWordsKept.setGate (s : State) (q g : Nat) (incomplete : Bool) : TileWordsKept s (s.setGate q g incomplete) := by
  have hset (t : State) (f : Fld) (v : Nat) (hst : TileWordsKept s t) (hf : ∃ off, f.reg = queKey q off) : TileWordsKept s (t.set f v) := by
    obtain ⟨off, hoff⟩ := hf
    exact hst.trans (.setQueueWindow t f v (hoff ▸ queKeyBase_le_queKey q off))
  unfold State.setGate
  dsimp only
  split
  · exact hset _ _ _ (hset _ _ _ (hset _ _ _ (.of_regs rfl) ⟨_, rfl⟩) ⟨_, rfl⟩) ⟨_, rfl⟩
  · exact hset _ _ _ (hset _ _ _ (.of_regs rfl) ⟨_, rfl⟩) ⟨_, rfl⟩

theorem TileWordsKept.closeQueue (s : State) (q w : Nat) : TileWordsKept s (s.closeQueue q w) := by
  unfold State.closeQueue
  split
  · exact .refl s
  next e _ =>
    have hgate : TileWordsKept s (if e.gate = some w then s.setGate q (w + 1) false else s) := by
      split
      · exact .setGate s q (w + 1) false
      · exact .refl s
    dsimp only
    generalize (if e.gate = some w then s.setGate q (w + 1) false else s) = u at hgate ⊢
    split
    · exact hgate.trans (.of_regs rfl)
    · exact hgate

theorem TileWordsKept.closeFor (s : State) (k q : Nat) : TileWordsKept s (s.closeFor k q) := by
  unfold State.closeFor
  split
  · exact .refl s
  · split
    · exact .refl s
    · exact (TileWordsKept.closeQueue s q _).trans (.of_regs rfl)

theorem TileWordsKept.endTick (s : State) (k : Nat) : TileWordsKept s (s.endTick k) := by
  have hclosed := State.each_keeps (TileWordsKept s) (fun t q => t.closeFor k q) (fun t q ht => ht.trans (.closeFor t k q))
    (s.writtenQueues k) s (.refl s)
  exact hclosed.trans (.of_regs rfl)

theorem TileWordsKept.setChan (s : State) (c w v : Nat) : TileWordsKept s (s.setChan c w v) := by
  unfold State.setChan
  split
  · exact .of_regs rfl
  · split
    · exact .set s _ _ (by simp [Fld.keys, tileKey, F.SUP_CHT_DROPS, R.SUP_CHT_DROPS])
    · exact TileWordsKept.trans (t := s.wrLE s.chtSpace (s.chtAddr c w) 8 v) (.of_regs rfl)
        (.set _ _ _ (by simp [Fld.keys, tileKey, F.CTX_PEN_ONLY, R.CTX_PEN_ONLY]))

theorem TileWordsKept.penSet (s : State) (c mask : Nat) (v : Bool) : TileWordsKept s (s.penSet c mask v) := by
  unfold State.penSet
  extract_lets p n
  split
  · exact .refl s
  · exact .setChan s c 5 n

theorem TileWordsKept.showIncomplete (s : State) (h : Hoist) : TileWordsKept s (s.showIncomplete h) := by
  unfold State.showIncomplete
  dsimp only
  split
  · exact .refl s
  · exact .penSet s _ _ _

theorem State.ctxTouch_regs (s : State) (c : Nat) : (s.ctxTouch c).regs = s.regs := by
  unfold State.ctxTouch
  split <;> rfl

theorem TileWordsKept.mapMember (n : Nat) (s : State) (k : Nat) : TileWordsKept s (State.mapMember n s k).2 := by
  induction n generalizing s with
  | zero => exact .refl s
  | succ n ih =>
    unfold State.mapMember
    split
    · exact .refl s
    next h _ =>
      split
      · exact TileWordsKept.trans (.of_regs (State.ctxTouch_regs s h.cur)) (.showIncomplete _ h)
      · split
        · exact .refl s
        · split
          · exact .refl s
          · exact TileWordsKept.trans (.of_regs rfl) (ih _)

/-- The fault action leaves the tiles' words as the fault's record has them. -/
theorem TileWordsKept.afiFault (s : State) (h : Hoist) (code : Nat) :
    TileWordsKept ((s.modHoist h.num fun g => { g with outAcc := 0, outBits := 0 }).faultRecord h code) (s.afiFault h code) := by
  unfold State.afiFault
  dsimp only
  generalize (s.modHoist h.num fun g => { g with outAcc := 0, outBits := 0 }).faultRecord h code = u
  have hgathered (e : Ev) : TileWordsKept u (u.gather e) := .of_regs rfl
  split
  · exact .of_regs rfl
  · split
    · exact (hgathered _).trans (.endTick _ _)
    · split
      · exact (hgathered _).trans (.endTick _ _)
      · have hmapped (t : State) (n : Nat) (ht : TileWordsKept u t) : TileWordsKept u (State.mapMember n t h.num).2 :=
          ht.trans (.mapMember n t h.num)
        generalize hm : (u.gather _).modHoist h.num _ = m
        have hum : TileWordsKept u m := .of_regs (by rw [← hm]; rfl)
        split
        · exact hmapped m _ hum
        · exact (hmapped m _ hum).trans (.endTick _ _)

/-! ## The fault registers (R218) -/

/-- The fault registers of thread `k` of tile `t` show one fault of a code at an address. -/
structure ShowsFault (s : State) (t k code pc : Nat) : Prop where
  pending : s.bit (F.TILE_FAULT_PENDING t k) = true
  code : s.get (F.TILE_FAULT_CODE t k) = code
  count : s.get (F.TILE_FAULT_COUNT t k) = 1
  pc : s.get (F.TILE_FAULT_PC_PC t k) = pc % 2 ^ (F.TILE_FAULT_PC_PC 0 0).w

/-- Fields of different words share no bit. -/
theorem Fld.apart_of_reg {f g : Fld} (hf : f.lo + f.w ≤ 32) (hg : g.lo + g.w ≤ 32) (h : f.reg ≠ g.reg) : f.apart g = true := by
  simp [Fld.apart, keys_narrow f hf, keys_narrow g hg, h]

/-- Fields of one word share no bit where one ends below the other. -/
theorem Fld.apart_of_bits {f g : Fld} (hf : f.lo + f.w ≤ 32) (hg : g.lo + g.w ≤ 32) (hr : f.reg = g.reg)
    (h : f.lo + f.w ≤ g.lo ∨ g.lo + g.w ≤ f.lo) : f.apart g = true := by
  simp [Fld.apart, hf, hg, hr, h]

/-- The fault's address and tick lie in words of their own. -/
theorem faultPc_apart (t k : Nat) {f : Fld} (hf : f.lo + f.w ≤ 32) (hr : f.reg = R.TILE_FAULT t k) :
    (F.TILE_FAULT_PC_PC t k).apart f = true ∧ (F.TILE_FAULT_TICK_TICK t k).apart f = true := by
  constructor
  · refine Fld.apart_of_reg (by decide : (0 : Nat) + 17 ≤ 32) hf ?_
    rw [hr]
    simp [F.TILE_FAULT_PC_PC, R.TILE_FAULT_PC, R.TILE_FAULT]
  · refine Fld.apart_of_reg (by decide : (0 : Nat) + 32 ≤ 32) hf ?_
    rw [hr]
    simp [F.TILE_FAULT_TICK_TICK, R.TILE_FAULT_TICK, R.TILE_FAULT]

/-- A thread's first fault fills its registers. -/
theorem State.faultRecord_shows (s : State) (h : Hoist) {code : Nat} (hcode : code < 16)
    (hp : s.bit (F.TILE_FAULT_PENDING h.tile (h.at_ % 192)) = false) :
    ShowsFault (s.faultRecord h code) h.tile (h.at_ % 192) code h.pc := by
  unfold State.faultRecord
  dsimp only
  rw [hp, if_neg Bool.false_ne_true]
  generalize h.tile = t
  generalize h.at_ % 192 = k
  have hcount (f : Fld) (hf : f.lo + f.w ≤ 16) (hr : R.TILE_FAULT t k = f.reg) : (F.TILE_FAULT_COUNT t k).apart f = true :=
    Fld.apart_of_bits (by decide : (16 : Nat) + 16 ≤ 32) (by omega) hr (.inr hf)
  have hcodeHx : (F.TILE_FAULT_HX t k).apart (F.TILE_FAULT_CODE t k) = true :=
    Fld.apart_of_bits (by decide : (4 : Nat) + 6 ≤ 32) (by decide : (0 : Nat) + 4 ≤ 32) rfl (.inr (by decide : (0 : Nat) + 4 ≤ 4))
  have hcodePending : (F.TILE_FAULT_PENDING t k).apart (F.TILE_FAULT_CODE t k) = true :=
    Fld.apart_of_bits (by decide : (10 : Nat) + 1 ≤ 32) (by decide : (0 : Nat) + 4 ≤ 32) rfl (.inr (by decide : (0 : Nat) + 4 ≤ 10))
  have hpcTick : (F.TILE_FAULT_TICK_TICK t k).apart (F.TILE_FAULT_PC_PC t k) = true := by
    refine Fld.apart_of_reg (by decide : (0 : Nat) + 32 ≤ 32) (by decide : (0 : Nat) + 17 ≤ 32) ?_
    simp [F.TILE_FAULT_TICK_TICK, F.TILE_FAULT_PC_PC, R.TILE_FAULT_PC, R.TILE_FAULT_TICK]
  obtain ⟨hpendingPc, hpendingTick⟩ := faultPc_apart t k (f := F.TILE_FAULT_PENDING t k) (by decide : (10 : Nat) + 1 ≤ 32) rfl
  obtain ⟨hcodePc, hcodeTick⟩ := faultPc_apart t k (f := F.TILE_FAULT_CODE t k) (by decide : (0 : Nat) + 4 ≤ 32) rfl
  obtain ⟨hcountPc, hcountTick⟩ := faultPc_apart t k (f := F.TILE_FAULT_COUNT t k) (by decide : (16 : Nat) + 16 ≤ 32) rfl
  constructor
  case pending =>
    rw [State.bit_set_apart _ _ _ _ hpendingTick, State.bit_set_apart _ _ _ _ hpendingPc,
      State.bit_set_apart _ _ _ _ (hcount _ (by decide : (10 : Nat) + 1 ≤ 16) rfl)]
    exact State.bit_put_same _ _ _ (by decide : (10 : Nat) + 1 ≤ 64) (by decide : 0 < 1)
  case code =>
    rw [State.get_set_apart _ _ _ _ hcodeTick, State.get_set_apart _ _ _ _ hcodePc,
      State.get_set_apart _ _ _ _ (hcount _ (by decide : (0 : Nat) + 4 ≤ 16) rfl), State.get_put_apart _ _ _ _ hcodePending,
      State.get_set_apart _ _ _ _ hcodeHx]
    exact State.get_set_same_lt _ _ _ (by decide : (0 : Nat) + 4 ≤ 64) hcode
  case count =>
    rw [State.get_set_apart _ _ _ _ hcountTick, State.get_set_apart _ _ _ _ hcountPc]
    exact State.get_set_same_lt _ _ _ (by decide : (16 : Nat) + 16 ≤ 64) (by decide : 1 < 2 ^ 16)
  case pc =>
    rw [State.get_set_apart _ _ _ _ hpcTick]
    exact State.get_set_same _ _ _ (by decide : (0 : Nat) + 17 ≤ 64)

/-- The fault registers of a thread of one of the 8 tiles lie among the tile words that the fault action keeps. -/
theorem tileKey_fault {t k : Nat} (ht : t < 8) (hk : k < 192) {f : Fld} (hf : f.lo + f.w ≤ 32)
    (hr : f.reg = R.TILE_FAULT t k ∨ f.reg = R.TILE_FAULT_PC t k) : ∀ j ∈ f.keys, tileKey j := by
  intro j hj
  rw [keys_narrow f hf, List.mem_singleton] at hj
  subst hj
  unfold R.TILE_FAULT R.TILE_FAULT_PC at hr
  unfold tileKey
  omega

/-- Fault registers show in a state what they show in one with the same tile words. -/
theorem ShowsFault.of_kept {s u : State} {t k code pc : Nat} (h : ShowsFault s t k code pc) (hk : TileWordsKept s u) (ht : t < 8)
    (hk' : k < 192) : ShowsFault u t k code pc where
  pending := by
    rw [← h.pending]
    unfold State.bit
    rw [hk.get _ (tileKey_fault ht hk' (by decide : (10 : Nat) + 1 ≤ 32) (.inl rfl))]
  code := (hk.get _ (tileKey_fault ht hk' (by decide : (0 : Nat) + 4 ≤ 32) (.inl rfl))).trans h.code
  count := (hk.get _ (tileKey_fault ht hk' (by decide : (16 : Nat) + 16 ≤ 32) (.inl rfl))).trans h.count
  pc := (hk.get _ (tileKey_fault ht hk' (by decide : (0 : Nat) + 17 ≤ 32) (.inr rfl))).trans h.pc

/-- The first fault of thread `h` fills its fault registers, whatever the fault action does next (R217, R218). -/
theorem State.faultAt_shows {s : State} {h : Hoist} (hat : h.at_ < 1536) {code : Nat} (hcode : code < 16) (w : Nat)
    (hp : s.bit (F.TILE_FAULT_PENDING h.tile (h.at_ % 192)) = false) :
    ShowsFault (s.faultAt h w code) h.tile (h.at_ % 192) code h.pc := by
  have ht : h.tile < 8 := by unfold Hoist.tile; omega
  have hk : h.at_ % 192 < 192 := Nat.mod_lt _ (by decide)
  unfold State.faultAt
  dsimp only
  generalize hu : (s.modHoist h.num fun g => g.issued1 0).slot h w 2 = u
  have hsu : TileWordsKept s u := by
    rw [← hu]
    exact TileWordsKept.trans (.of_regs rfl) (SlotFrame.slot _ hat w 2).tileWords
  refine (State.faultRecord_shows _ h hcode ?_).of_kept (.afiFault u h code) ht hk
  have hget := hsu.get _ (tileKey_fault (f := F.TILE_FAULT_PENDING h.tile (h.at_ % 192)) ht hk (by decide : (10 : Nat) + 1 ≤ 32) (.inl rfl))
  calc _ = u.bit (F.TILE_FAULT_PENDING h.tile (h.at_ % 192)) := rfl
    _ = s.bit (F.TILE_FAULT_PENDING h.tile (h.at_ % 192)) := by unfold State.bit; rw [hget]
    _ = false := hp

/-- An issued instruction whose body faults completes with its thread's fault registers filled. -/
theorem completes_showsFault {c : Instr} {s : State} {k code : Nat} {a : AfiWord} {h : Hoist}
    {body : State → Hoist → AfiWord → Res} (hc : exec c s = settle s (s.afi k a body)) (hi : s.Issues k a h) (hat : h.at_ < 1536)
    (hb : body (s.issuedBy h a) h a = .fault code) (hcode : code < 16)
    (hp : s.bit (F.TILE_FAULT_PENDING h.tile (h.at_ % 192)) = false) :
    Completes c s fun t => ShowsFault t h.tile (h.at_ % 192) code h.pc := by
  intro _
  rw [State.afi_of_issues hi, hb, settle_eq] at hc
  exact ⟨_, hc, (State.faultAt_shows hat hcode (AfiBits a) hp).of_kept (.of_regs rfl) (by unfold Hoist.tile; omega)
    (Nat.mod_lt _ (by decide))⟩

end Sys2Proof.Machine
end

section
/-! The ALU instructions (R230, R231): the operation of each on words, and the one register that it writes. -/

namespace Sys2Proof.Machine

/-! ## Operands as words -/

theorem Hoist.reg_lt (h : Hoist) (i : Nat) : h.reg i < 2 ^ 64 := by
  unfold Hoist.reg
  split
  · decide
  · exact BitVec.isLt _

theorem Hoist.word_toNat (h : Hoist) (i : Nat) : (h.word i).toNat = h.reg i := Nat.mod_eq_of_lt (h.reg_lt i)

theorem unsgn_lt (w : Nat) (i : Int) : unsgn w i < 2 ^ w := by
  have hpos : (0 : Int) < (2 ^ w : Nat) := by exact_mod_cast Nat.two_pow_pos w
  have hlt := Int.emod_lt_of_pos i hpos
  have hnonneg := Int.emod_nonneg i hpos.ne'
  unfold unsgn
  omega

theorem immOf_lt (a : AfiWord) (signed : Bool) : immOf a signed < 2 ^ 64 := by
  have hlo : fImm (AfiBits a) < 2 ^ 14 := bitsOf_lt _ _ _
  unfold immOf
  dsimp only
  split
  · split
    · exact unsgn_lt 64 _
    · omega
  next p _ =>
    have hhi : bitsOf p.toNat 0 18 < 2 ^ 18 := bitsOf_lt _ _ _
    split
    · exact unsgn_lt 64 _
    · omega

theorem immWord_toNat (a : AfiWord) (signed : Bool) : (immWord a signed).toNat = immOf a signed := Nat.mod_eq_of_lt (immOf_lt a signed)

/-- A register holds a value modulo 2^64 (R192). -/
theorem Hoist.setReg_toNat_ofNat (h : Hoist) (i v : Nat) : h.setReg i (BitVec.ofNat 64 v).toNat = h.setReg i v := by
  unfold Hoist.setReg
  rw [BitVec.ofNat_toNat, BitVec.setWidth_eq]

theorem Hoist.setReg_num (h : Hoist) (i v : Nat) : (h.setReg i v).num = h.num := by
  unfold Hoist.setReg
  split <;> rfl

theorem s64_toNat (x : Word) : s64 x.toNat = x.toInt := by
  unfold s64 sgn
  rw [BitVec.toInt_eq_toNat_cond, Nat.mod_eq_of_lt x.isLt]

/-! ## The operations -/

/-- The operation `f` on naturals, modulo 2^64, is the operation `op` on words. -/
def Computes (f : Nat → Nat → Nat) (op : Word → Word → Word) : Prop := ∀ x y : Word, BitVec.ofNat 64 (f x.toNat y.toNat) = op x y

theorem computes_add : Computes (fun a b => a + b) fun a b => a + b := by
  intro x y
  simp [BitVec.ofNat_add]

theorem computes_sub : Computes (fun a b => a + (2 ^ 64 - b)) fun a b => a - b := by
  intro x y
  apply BitVec.eq_of_toNat_eq
  rw [BitVec.toNat_ofNat, BitVec.toNat_sub, Nat.add_comm]

theorem computes_and : Computes (fun a b => a &&& b) fun a b => a &&& b := by
  intro x y
  simp [BitVec.ofNat_and]

theorem computes_or : Computes (fun a b => a ||| b) fun a b => a ||| b := by
  intro x y
  simp [BitVec.ofNat_or]

theorem computes_xor : Computes (fun a b => a ^^^ b) fun a b => a ^^^ b := by
  intro x y
  simp [BitVec.ofNat_xor]

/-- A choice of one of two words is that choice of their values. -/
theorem ofNat_ite_toNat (p : Prop) [Decidable p] (x y : Word) :
    BitVec.ofNat 64 (if p then x.toNat else y.toNat) = if p then x else y := by
  split <;> simp

theorem computes_min : Computes (fun a b => Nat.min a b) fun a b => if a.ult b then a else b := by
  intro x y
  by_cases hlt : x.toNat < y.toNat
  · have hmin : Nat.min x.toNat y.toNat = x.toNat := Nat.min_eq_left hlt.le
    simp [hmin, BitVec.ult, hlt]
  · have hmin : Nat.min x.toNat y.toNat = y.toNat := Nat.min_eq_right (Nat.le_of_not_lt hlt)
    simp [hmin, BitVec.ult, hlt]

theorem computes_max : Computes (fun a b => Nat.max a b) fun a b => if a.ult b then b else a := by
  intro x y
  by_cases hlt : x.toNat < y.toNat
  · have hmax : Nat.max x.toNat y.toNat = y.toNat := Nat.max_eq_right hlt.le
    simp [hmax, BitVec.ult, hlt]
  · have hmax : Nat.max x.toNat y.toNat = x.toNat := Nat.max_eq_left (Nat.le_of_not_lt hlt)
    simp [hmax, BitVec.ult, hlt]

theorem computes_adds : Computes (fun a b => Nat.min (a + b) (2 ^ 64 - 1)) fun a b =>
    if a.toNat + b.toNat < 2 ^ 64 then a + b else BitVec.allOnes 64 := by
  intro x y
  dsimp only
  split
  next hfit =>
    have hmin : Nat.min (x.toNat + y.toNat) (2 ^ 64 - 1) = x.toNat + y.toNat := Nat.min_eq_left (by omega)
    rw [hmin]
    exact computes_add x y
  next hover =>
    have hmin : Nat.min (x.toNat + y.toNat) (2 ^ 64 - 1) = 2 ^ 64 - 1 := Nat.min_eq_right (by omega)
    rw [hmin]
    rfl

theorem computes_minS : Computes (fun a b => if s64 a ≤ s64 b then a else b) fun a b => if b.slt a then b else a := by
  intro x y
  simp only [s64_toNat, ofNat_ite_toNat, BitVec.slt, decide_eq_true_eq]
  split
  next hle => rw [if_neg (Int.not_lt.mpr hle)]
  next hlt => rw [if_pos (Int.not_le.mp hlt)]

theorem computes_maxS : Computes (fun a b => if s64 a ≤ s64 b then b else a) fun a b => if a.slt b then b else a := by
  intro x y
  simp only [s64_toNat, ofNat_ite_toNat, BitVec.slt, decide_eq_true_eq]
  rcases Int.lt_trichotomy x.toInt y.toInt with hlt | heq | hgt
  · rw [if_pos hlt.le, if_pos hlt]
  · rw [if_pos heq.le, BitVec.eq_of_toInt_eq heq, ite_self]
  · rw [if_neg (Int.not_le.mpr hgt), if_neg (Int.not_lt.mpr hgt.le)]

/-- The low 64 bits of an integer are the word of that integer. -/
theorem ofNat_unsgn (i : Int) : BitVec.ofNat 64 (unsgn 64 i) = BitVec.ofInt 64 i := by
  apply BitVec.eq_of_toNat_eq
  rw [BitVec.toNat_ofNat, BitVec.toNat_ofInt, Nat.mod_eq_of_lt (unsgn_lt 64 i)]
  rfl

theorem computes_addsS : Computes (fun a b => unsgn 64 (max (-(2 ^ 63)) (min (2 ^ 63 - 1) (s64 a + s64 b)))) fun a b =>
    if a.toInt + b.toInt < -(2 ^ 63) then BitVec.intMin 64 else if 2 ^ 63 ≤ a.toInt + b.toInt then BitVec.intMax 64 else a + b := by
  intro x y
  simp only [s64_toNat, ofNat_unsgn]
  split
  next hlow =>
    have hsat : max (-(2 ^ 63)) (min (2 ^ 63 - 1) (x.toInt + y.toInt)) = -(2 ^ 63) := by omega
    rw [hsat]
    rfl
  next hlow =>
    split
    next hhigh =>
      have hsat : max (-(2 ^ 63)) (min (2 ^ 63 - 1) (x.toInt + y.toInt)) = 2 ^ 63 - 1 := by omega
      rw [hsat]
      rfl
    next hhigh =>
      have hsum : max (-(2 ^ 63)) (min (2 ^ 63 - 1) (x.toInt + y.toInt)) = x.toInt + y.toInt := by omega
      rw [hsum, BitVec.ofInt_add, BitVec.ofInt_toInt, BitVec.ofInt_toInt]

/-! ## The table -/

/-- The command of a row is the ALU instruction of operation `f`: with the row's minor function and immediate form, and the row's
operation on words. -/
structure AluRow.Means (row : AluRow) (f : Nat → Nat → Nat) : Prop where
  exec : ∀ (k : Fin 1536) (a : AfiWord) (s : State), exec (row.cmd k a) s = settle s (s.afi k.val a (aluBody row.fn row.opI row.signed f))
  computes : Computes f row.op
  opI : row.opI ≠ some 0

theorem aluTable_means : ∀ row ∈ aluTable, ∃ f, row.Means f := by
  simp only [aluTable, List.forall_mem_cons]
  exact ⟨⟨_, fun _ _ _ => rfl, computes_add, by decide⟩, ⟨_, fun _ _ _ => rfl, computes_sub, by decide⟩,
    ⟨_, fun _ _ _ => rfl, computes_and, by decide⟩, ⟨_, fun _ _ _ => rfl, computes_or, by decide⟩,
    ⟨_, fun _ _ _ => rfl, computes_xor, by decide⟩, ⟨_, fun _ _ _ => rfl, computes_min, by decide⟩,
    ⟨_, fun _ _ _ => rfl, computes_max, by decide⟩, ⟨_, fun _ _ _ => rfl, computes_adds, by decide⟩,
    ⟨_, fun _ _ _ => rfl, computes_minS, by decide⟩, ⟨_, fun _ _ _ => rfl, computes_maxS, by decide⟩,
    ⟨_, fun _ _ _ => rfl, computes_addsS, by decide⟩, fun _ h => absurd h List.not_mem_nil⟩

/-! ## What a row's body comes to -/

/-- A register takes the operation on words where it takes the operation on their values. -/
theorem Computes.setReg {f : Nat → Nat → Nat} {op : Word → Word → Word} (hf : Computes f op) (h : Hoist) (i : Nat) (x y : Word) :
    h.setReg i (op x y).toNat = h.setReg i (f x.toNat y.toNat) := by
  rw [← hf x y, Hoist.setReg_toNat_ofNat]

/-- In the register form the destination takes the operation on two registers. -/
theorem aluBody_register {f : Nat → Nat → Nat} {op : Word → Word → Word} (hf : Computes f op) (fn : Nat) (opI : Option Nat)
    (signed : Bool) (s : State) (h : Hoist) (a : AfiWord) (hop : fOp (AfiBits a) = 0) (hfn : fFn (AfiBits a) = fn)
    (hlow : fLow (AfiBits a) = 0) :
    aluBody fn opI signed f s h a =
      .ok (s.modHoist h.num (·.setReg (fRd (AfiBits a)) (op (h.word (fRa (AfiBits a))) (h.word (fRb (AfiBits a)))).toNat)) := by
  simp [aluBody, chk, State.wReg, hop, hfn, hlow, hf.setReg, Hoist.word_toNat]

/-- In the immediate form it takes the operation on a register and the immediate. -/
theorem aluBody_immediate {f : Nat → Nat → Nat} {op : Word → Word → Word} (hf : Computes f op) (fn : Nat) {opI : Option Nat}
    (signed : Bool) (s : State) (h : Hoist) (a : AfiWord) (hop : opI = some (fOp (AfiBits a))) (hne : fOp (AfiBits a) ≠ 0) :
    aluBody fn opI signed f s h a =
      .ok (s.modHoist h.num (·.setReg (fRd (AfiBits a)) (op (h.word (fRa (AfiBits a))) (immWord a signed)).toNat)) := by
  simp [aluBody, chk, State.wReg, hop, hne, hf.setReg, Hoist.word_toNat, immWord_toNat]

/-- The register form reserves the low four bits. -/
theorem aluBody_reserved (fn : Nat) (opI : Option Nat) (signed : Bool) (f : Nat → Nat → Nat) (s : State) (h : Hoist) (a : AfiWord)
    (hop : fOp (AfiBits a) = 0) (hlow : fLow (AfiBits a) ≠ 0) : aluBody fn opI signed f s h a = .fault Flt.illegal := by
  simp [aluBody, chk, hop, hlow]

/-- Settles O29: a row's body comes to one register written, or to ILLEGAL; issuing it adds the slot, or the fault's record. -/
theorem aluWritesItsResult : Obligations.AluWritesItsResult := by
  refine ⟨?_, ?_, ?_⟩
  · intro row hrow s k a h hi hop hfn hlow
    obtain ⟨f, hmeans⟩ := aluTable_means row hrow
    exact completes_onlyThread (hmeans.exec k a s) hi (aluBody_register hmeans.computes _ _ _ _ h a hop hfn hlow)
      fun g => g.setReg_num _ _
  · intro row hrow s k a h op hi hopI hop
    obtain ⟨f, hmeans⟩ := aluTable_means row hrow
    subst hop
    have hne : fOp (AfiBits a) ≠ 0 := fun h0 => hmeans.opI (h0 ▸ hopI)
    exact completes_onlyThread (hmeans.exec k a s) hi (aluBody_immediate hmeans.computes _ _ _ h a hopI hne)
      fun g => g.setReg_num _ _
  · intro row hrow s k a h hi hat hop _ hlow hp hs
    obtain ⟨f, hmeans⟩ := aluTable_means row hrow
    have hfault := aluBody_reserved row.fn row.opI row.signed f (s.issuedBy h a) h a hop hlow
    obtain ⟨t, hnext, hshows⟩ := completes_showsFault (hmeans.exec k a s) hi hat hfault (by decide) hp hs
    exact ⟨t, hnext, hshows.pending, hshows.code, hshows.count, hshows.pc⟩

end Sys2Proof.Machine
end

section
/-! A push on a queue (R348, R349): what stands beside a queue's words leaves them alone, and an accepted word stands behind them. -/

namespace Sys2Proof.Machine

/-! ## What leaves the queues alone: events (R468 to R473) -/

@[simp] theorem State.message_queues (s : State) (v : Nat) : (s.message v).queues = s.queues := by
  unfold State.message
  dsimp only
  split
  · rfl
  · split
    · rfl
    · split <;> simp

@[simp] theorem State.signalEvent_queues (s : State) (src : Nat) : (s.signalEvent src).queues = s.queues := by
  unfold State.signalEvent
  dsimp only
  split
  · rfl
  · split <;> simp

@[simp] theorem State.postRecord_queues (s : State) (e : Ev) (cls : Nat) : (s.postRecord e cls).queues = s.queues := by
  unfold State.postRecord State.when
  dsimp only
  split <;> simp

@[simp] theorem State.record_queues (s : State) (e : Ev) : (s.record e).queues = s.queues := by
  unfold State.record
  dsimp only
  split
  · rfl
  · split
    · simp [State.dropRecord]
    · split <;> simp

@[simp] theorem State.raise_queues (s : State) (e : Ev) : (s.raise e).queues = s.queues := by
  unfold State.raise
  dsimp only
  split
  · rfl
  · split <;> split <;> simp

@[simp] theorem State.gather_queues (s : State) (e : Ev) : (s.gather e).queues = s.queues := rfl

@[simp] theorem State.queEvent_queues (s : State) (q code : Nat) : (s.queEvent q code).queues = s.queues := State.raise_queues ..

/-! ## Registers of a queue (R356, R357, R361) -/

@[simp] theorem State.setOverrun_queues (s : State) (q : Nat) (b : Bool) : (s.setOverrun q b).queues = s.queues := by
  simp [State.setOverrun]

@[simp] theorem State.showWm_queues (s : State) (q : Nat) : (s.showWm q).queues = s.queues := State.set_queues ..

@[simp] theorem State.crossings_queues (s : State) (q d0 d1 : Nat) : (s.crossings q d0 d1).queues = s.queues := by
  unfold State.crossings
  extract_lets hi lo up down newUp newDown s1 s2 s3
  have h1 : s1.queues = s.queues := by unfold s1; split <;> simp
  have h2 : s2.queues = s1.queues := by unfold s2; split <;> simp
  have h3 : s3.queues = s2.queues := by unfold s3; split <;> simp
  split <;> simp [h1, h2, h3]

@[simp] theorem State.showQueue_queues (s : State) (q : Nat) : (s.showQueue q).queues = s.queues := by simp [State.showQueue]

/-! ## Breaches (R40) and refused pushes (R348) -/

@[simp] theorem State.setChan_queues (s : State) (c w v : Nat) : (s.setChan c w v).queues = s.queues := by
  unfold State.setChan
  split
  · rfl
  · split
    · exact State.inc_queues ..
    · simp

@[simp] theorem State.setHbm_queues (s : State) (k pos : Nat) : (s.setHbm k pos).queues = s.queues := by simp [State.setHbm]

@[simp] theorem State.breach_queues (s : State) (c n cause : Nat) : (s.breach c n cause).queues = s.queues := by
  unfold State.breach
  extract_lets pair s1 first p p' s2 s3
  have h1 : s1.queues = s.queues := by unfold s1; split <;> rfl
  have h2 : s2.queues = s1.queues := State.setChan_queues ..
  have h3 : s3.queues = s2.queues := by unfold s3; split <;> simp
  split
  · rw [h3, h2, h1]
  · dsimp only
    split <;> simp [h1, h2, h3]

@[simp] theorem State.refusePush_queues (s : State) (q arr : Nat) : (s.refusePush q arr).queues = s.queues := by
  unfold State.refusePush
  extract_lets was s1 s2
  have h1 : s1.queues = s.queues := by simp [s1]
  have h2 : s2.queues = s1.queues := by unfold s2; split <;> simp
  rw [State.each_same State.queues _ (fun t c => State.breach_queues ..), h2, h1]

/-! ## Check units (R363, R364, R372, R373) -/

@[simp] theorem State.modCku_queues (s : State) (n : Nat) (f : Cku → Cku) : (s.modCku n f).queues = s.queues := rfl

@[simp] theorem State.ckByte_queues (s : State) (n b : Nat) : (s.ckByte n b).queues = s.queues := State.set_queues ..

@[simp] theorem State.ckBytes_queues (s : State) (n : Nat) (bs : List Nat) : (s.ckBytes n bs).queues = s.queues :=
  State.each_same State.queues _ (fun t b => t.ckByte_queues n b) bs s

@[simp] theorem State.ckReset_queues (s : State) (n : Nat) : (s.ckReset n).queues = s.queues := by
  simp [State.ckReset, State.ckSetRun]

@[simp] theorem State.ckPre_queues (s : State) (n : Nat) : (s.ckPre n).queues = s.queues := by
  unfold State.ckPre State.ckFold
  split <;> simp

@[simp] theorem State.ckSuf_queues (s : State) (n : Nat) : (s.ckSuf n).queues = s.queues := by
  unfold State.ckSuf State.ckFold
  split <;> simp

@[simp] theorem State.ckWord_queues (s : State) (n : Nat) (w : TWord) : (s.ckWord n w).queues = s.queues := by
  unfold State.ckWord
  dsimp only
  split <;> simp

@[simp] theorem State.ckEntry_queues (s : State) (n tick : Nat) (incomplete : Bool) :
    (s.ckEntry n tick incomplete).queues = s.queues := by
  unfold State.ckEntry
  extract_lets e s1 v failed s2 s3 seen s4 s5 s6
  have h3 : s3.queues = s.queues := by simp [s3, s2, s1]
  have h4 : s4.queues = s3.queues := by simp [s4]
  have h5 : s5.queues = s3.queues := by
    unfold s5
    split
    · rfl
    · split <;> simp [h4]
  have h6 : s6.queues = s5.queues := by unfold s6; split <;> rfl
  simp [h6, h5, h3]

@[simp] theorem State.ckDigest_queues (s : State) (q : Nat) (w : TWord) : (s.ckDigest q w).queues = s.queues := by
  refine State.each_same State.queues _ (fun t n => ?_) _ s
  dsimp only
  split <;> simp

/-! ## The words of a queue -/

/-- The words that an enabled queue holds, head first. -/
def State.queueWords (s : State) (q : Nat) : Option (List QWord) := (s.queue q).map (·.words)

theorem State.queue_congr {s t : State} (h : t.queues = s.queues) (q : Nat) : t.queue q = s.queue q := by
  unfold State.queue
  rw [h]

theorem State.queueWords_congr {s t : State} (h : t.queues = s.queues) (q : Nat) : t.queueWords q = s.queueWords q := by
  unfold State.queueWords
  rw [State.queue_congr h]

/-- A change that keeps a queue's number acts on the record of the queue of that number. -/
theorem State.queue_modQueue_same (s : State) (q : Nat) (f : Queue → Queue) (hf : ∀ e, (f e).num = e.num) :
    (s.modQueue q f).queue q = (s.queue q).map f := by
  unfold State.modQueue State.queue
  rw [List.find?_map]
  have hp : ((fun e : Queue => decide (e.num = q)) ∘ fun e => if e.num = q then f e else e) = fun e => decide (e.num = q) := by
    funext e
    by_cases hq : e.num = q <;> simp [hq, hf]
  rw [hp]
  cases hfind : s.queues.find? fun e => decide (e.num = q) with
  | none => rfl
  | some e =>
    have hnum : e.num = q := by simpa using List.find?_some hfind
    simp [hnum]

/-- A change of a queue's record beside its words. -/
theorem State.queueWords_modQueue_keeps (s : State) (q : Nat) (f : Queue → Queue) (hnum : ∀ e, (f e).num = e.num)
    (hwords : ∀ e, (f e).words = e.words) : (s.modQueue q f).queueWords q = s.queueWords q := by
  unfold State.queueWords
  rw [State.queue_modQueue_same s q f hnum, Option.map_map]
  exact congrArg (fun g => (s.queue q).map g) (funext hwords)

@[simp] theorem State.markFlush_queueWords (s : State) (q : Nat) : (s.markFlush q).queueWords q = s.queueWords q :=
  s.queueWords_modQueue_keeps q _ (fun _ => rfl) fun _ => rfl

theorem State.setWords_queueWords (s : State) (q : Nat) (ws : List QWord) :
    (s.setWords q ws).queueWords q = (s.queueWords q).map fun _ => ws := by
  have hmod : (s.setWords q ws).queueWords q = (s.modQueue q fun e => { e with words := ws }).queueWords q :=
    State.queueWords_congr (by simp [State.setWords]) q
  rw [hmod]
  unfold State.queueWords
  rw [State.queue_modQueue_same s q (fun e => { e with words := ws }) fun _ => rfl, Option.map_map, Option.map_map]
  rfl

/-! ## A push -/

/-- A release queue refuses a marker at its capacity, and any other word at one less (R348, R349). -/
theorem State.pushRefused_release {s : State} {q : Nat} (hr : s.cfg (F.QUE_W_CFG_READER q) = Reader.release) (marker : Bool) :
    s.pushRefused q marker = false ↔ s.depth q + (if marker then 0 else 1) < s.capacity q := by
  unfold State.pushRefused
  cases marker
  case true => simp
  case false =>
    simp only [hr, Bool.or_eq_false_iff, decide_eq_false_iff_not, Bool.not_false, Bool.true_and, decide_true, Bool.false_eq_true, if_false]
    omega

theorem State.depth_of_queue {s : State} {q : Nat} {e : Queue} (he : s.queue q = some e) : s.depth q = e.words.length := by
  unfold State.depth
  rw [he]

theorem State.push_of_refused {s : State} {q : Nat} {e : Queue} (he : s.queue q = some e) {w : TWord} (arr : Nat)
    (hr : s.pushRefused q (isMarker w.tag) = true) : s.push q w arr = (false, s.refusePush q arr) := by
  unfold State.push
  simp [he, hr]

/-- Of all that a taken push does, the flush point, the check unit, the open packet and the notice leave the words alone. -/
theorem State.push_of_taken {s : State} {q : Nat} {e : Queue} (he : s.queue q = some e) {w : TWord} (arr : Nat)
    (hr : s.pushRefused q (isMarker w.tag) = false) :
    ∃ t, s.push q w arr = (true, t)
      ∧ t.queueWords q = some (e.words ++ [{ data := w.data, tag := w.tag, arr := arr }]) := by
  unfold State.push
  rw [he]
  dsimp -zeta only
  extract_lets marker pkt stream s1 e1 s2 s3 isEnd s4 s5 due
  rw [if_neg (by simp [marker, hr])]
  refine ⟨_, rfl, ?_⟩
  have hs1 : s1.queueWords q = some e.words := by
    have hs : s.queueWords q = some e.words := by rw [State.queueWords, he]; rfl
    unfold s1
    split <;> simp [hs]
  have he1 : e1.words = e.words := by
    obtain ⟨g, hg, hgw⟩ := Option.map_eq_some_iff.mp hs1
    simp [e1, hg, hgw]
  have hs2 : s2.queueWords q = some (e.words ++ [{ data := w.data, tag := w.tag, arr := arr }]) := by
    rw [State.setWords_queueWords, hs1, he1]
    rfl
  have hs3 : s3.queueWords q = s2.queueWords q := State.queueWords_congr (by simp [s3]) q
  have hs4 : s4.queueWords q = s3.queueWords q := s3.queueWords_modQueue_keeps q _ (fun _ => rfl) fun _ => rfl
  have hs5 : s5.queueWords q = s4.queueWords q := State.queueWords_congr (by unfold s5; split <;> simp) q
  calc _ = s5.queueWords q := by split <;> simp
    _ = _ := hs5.trans (hs4.trans (hs3.trans hs2))

/-- Settles O44: a push on a release queue is refused by its depth alone, and either leaves the queue as it is or stands last in it. -/
theorem releaseQueuesKeepRoomForMarkers : Obligations.ReleaseQueuesKeepRoomForMarkers := by
  intro s q e w arr he hrel
  have hroom := State.pushRefused_release hrel (isMarker w.tag)
  rw [State.depth_of_queue he] at hroom
  rw [← hroom]
  cases hr : s.pushRefused q (isMarker w.tag) with
  | true =>
    rw [State.push_of_refused he arr hr]
    refine ⟨by simp, fun _ => ?_, by simp⟩
    exact (State.queue_congr (State.refusePush_queues ..) q).trans he
  | false =>
    obtain ⟨t, htaken, hwords⟩ := State.push_of_taken he arr hr
    rw [htaken]
    refine ⟨by simp, by simp, fun _ => ?_⟩
    exact Option.map_eq_some_iff.mp hwords

end Sys2Proof.Machine
end

section
/-! The interrupt pins (R474): every command answers by settling the pins, and a settled interrupt pin is the level of the pending
sources that route to it. -/

namespace Sys2Proof.Machine

/-! ## Every command settles the pins -/

/-- Whatever a command makes of the state, it answers through the one operation that settles the pins. -/
theorem exec_settles (c : Instr) (s : State) : ∃ m, exec c s = settle s m := by
  cases c <;> exact ⟨_, rfl⟩

/-- The pins of an answer are those of its own registers: settling them changes no register. -/
theorem settle_pinsSettled {s m t : State} (h : settle s m = .next t) : t.PinsSettled := by
  rw [settle_next h]
  exact (State.pinsNow_congr rfl).symm

theorem exec_pinsSettled {c : Instr} {s t : State} (h : exec c s = .next t) : t.PinsSettled := by
  obtain ⟨m, hm⟩ := exec_settles c s
  exact settle_pinsSettled (hm.symm.trans h)

/-! ## The level of an interrupt pin -/

/-- The level of the interrupt pin that the route field `route` of a source selects, as `State.pinsNow` finds it: over the words
of `EVT_PEND` that are not 0, a pending bit whose source routes to the pin. -/
def State.interruptLevel (s : State) (route : Nat → Fld) : Bool :=
  (((List.range 32).map fun w => (w, s.get (F.EVT_PEND w))).filter fun p => p.2 ≠ 0).any fun p =>
    (List.range 32).any fun j => bitOf p.2 j && s.on (route (32 * p.1 + j))

theorem State.pinsNow_intA (s : State) : s.pinsNow.intA = s.interruptLevel F.EVT_ROUTE_PIN_A := rfl
theorem State.pinsNow_intB (s : State) : s.pinsNow.intB = s.interruptLevel F.EVT_ROUTE_PIN_B := rfl

/-- A word with a bit set is not 0, so leaving out the words that are 0 loses no pending source. -/
theorem ne_zero_of_bitOf {v i : Nat} (h : bitOf v i = true) : v ≠ 0 := by
  rintro rfl
  simp [bitOf] at h

/-- The search by word and bit. -/
theorem State.interruptLevel_iff_word (s : State) (route : Nat → Fld) :
    s.interruptLevel route = true ↔
      ∃ w < 32, ∃ j < 32, bitOf (s.get (F.EVT_PEND w)) j = true ∧ s.on (route (32 * w + j)) = true := by
  simp only [State.interruptLevel, List.any_filter, List.any_map, List.any_eq_true, List.mem_range, Function.comp_apply,
    Bool.and_eq_true, decide_eq_true_eq]
  constructor
  · rintro ⟨w, hw, -, j, hj, hbit, hon⟩
    exact ⟨w, hw, j, hj, hbit, hon⟩
  · rintro ⟨w, hw, j, hj, hbit, hon⟩
    exact ⟨w, hw, ne_zero_of_bitOf hbit, j, hj, hbit, hon⟩

/-- Source `src` is bit `src % 32` of word `src / 32`: an interrupt pin is asserted exactly while one of the 1,024 sources is
pending and routes to it. -/
theorem State.interruptLevel_iff (s : State) (route : Nat → Fld) :
    s.interruptLevel route = true ↔
      ∃ src < 1024, bitOf (s.get (F.EVT_PEND (src / 32))) (src % 32) = true ∧ s.on (route src) = true := by
  rw [State.interruptLevel_iff_word]
  constructor
  · rintro ⟨w, hw, j, hj, hbit, hon⟩
    have hword : (32 * w + j) / 32 = w := by omega
    have hpos : (32 * w + j) % 32 = j := by omega
    exact ⟨32 * w + j, by omega, by rwa [hword, hpos], hon⟩
  · rintro ⟨src, hsrc, hbit, hon⟩
    exact ⟨src / 32, by omega, src % 32, by omega, hbit, by rwa [Nat.div_add_mod]⟩

/-- Settles O45: every command leaves the pins settled, and a settled interrupt pin is the level of its pending sources. -/
theorem interruptPinsFollowPendingSources : Obligations.InterruptPinsFollowPendingSources := by
  intro c s t h
  have hpins : t.pins = t.pinsNow := exec_pinsSettled h
  rw [hpins, State.pinsNow_intA, State.pinsNow_intB]
  exact ⟨t.interruptLevel_iff F.EVT_ROUTE_PIN_A, t.interruptLevel_iff F.EVT_ROUTE_PIN_B⟩

end Sys2Proof.Machine
end
